-- ==== Sys2Proof/Word.lean ====
section
/-! DEFINITION. The word types of the node and their plainest arithmetic: bytes, 16-bit statistics counters that stop
at 65535 (00_scope.md, Counters), and the modular comparisons (00_scope.md, Modular comparison). -/

namespace Sys2Proof

/-- One byte of a cell, a frame or the plate store. -/
abbrev Byte := BitVec 8

/-- A 16-bit statistics counter (00_scope.md, Counters). -/
abbrev Count := BitVec 16

/-- A moment or a length of time, in nanoseconds. -/
abbrev Time := Nat

/-- A counter after one more event: it stops at 65535 rather than wrapping (00_scope.md, Counters). -/
def bump (c : Count) : Count := if c = 65535 then c else c + 1

/-- A counter after `n` more events, stopping at 65535. -/
def bumpBy (c : Count) (n : Nat) : Count := BitVec.ofNat 16 (min (c.toNat + n) 65535)

/-- "n is at or before m" for 16-bit values (00_scope.md, Modular comparison). -/
def atOrBefore (n m : BitVec 16) : Bool := decide ((m - n).toNat < 32768)

/-- "n is before m": at or before and not equal. -/
def isBefore (n m : BitVec 16) : Bool := atOrBefore n m && n != m

/-- "s is newer than t" for 8-bit voice sequences: `(s − t) mod 256` lies in 1 to 127. -/
def isNewer (s t : BitVec 8) : Bool := decide (1 ≤ (s - t).toNat ∧ (s - t).toNat ≤ 127)

end Sys2Proof
end

