-- ==== Sys2Proof/Syntax.lean ====
section
/-! DEFINITION. The commands of the node: one constructor of `Instr` for each row of spec/opcode_table.json, with the
data each carries. A command is one whole step of the part (spec/95_what_each_step_holds.md). -/

namespace Sys2Proof

/-- The two line ports. Line U receives the primary direction, Line D the secondary one (00_scope.md, Terms). -/
inductive Line where
  | u
  | d
  deriving DecidableEq, Repr

/-- A tributary port, 0 to 3. -/
abbrev Port := Fin 4

/-- The fold states of R30. -/
inductive Fold where
  | normal
  | foldD
  | foldU
  | isolated
  deriving DecidableEq, Repr

/-- The service classes of R5: voice, control, bulk. -/
inductive CellClass where
  | v
  | c
  | b
  deriving DecidableEq, Repr

/-- The port profiles of R175. -/
inductive Profile where
  | none
  | phone
  | sign
  | weather
  | toll
  | centre
  deriving DecidableEq, Repr

/-- A cell: bytes 0 to 3 are the header, `payload` is bytes 4 to 59, `check` is bytes 60 to 63 (chapter 1, "The cell"). -/
structure Cell where
  kind : Byte
  source : Byte
  dest : Byte
  hops : Byte
  payload : List Byte
  check : BitVec 32
  deriving DecidableEq, Repr

/-- The contents of a fill word apart from its check (R2). -/
structure FillWord where
  number : BitVec 6
  fold : Fold
  heard : Bool
  deriving DecidableEq, Repr

/-- The levels of the strap pins: STN5 to STN0 and the profile codes of ports 0 to 3 (R175). -/
structure Straps where
  number : BitVec 6
  codes : Vector (BitVec 3) 4
  deriving DecidableEq, Repr

/-- How a cell is addressed: to one station, to a group, to all stations (00_scope.md, Destination codes). -/
inductive Addressing where
  | unicast
  | group (g : Fin 32)
  | all
  deriving DecidableEq, Repr

/-- How a COMMAND cell reached the station table: whether it came in from this station's own centre port, its source,
and its addressing (R52, R53). -/
structure Via where
  ownPort : Bool
  source : Byte
  addressing : Addressing
  deriving DecidableEq, Repr

/-- The keys of a phone (R55). -/
inductive Key where
  | service
  | sos
  | fire
  deriving DecidableEq, Repr

/-- The two work pictures (R123). -/
inductive Pic where
  | a
  | b
  deriving DecidableEq, Repr

/-- A layer record, 7 bytes as they arrive (R119). -/
structure LayerRec where
  plate : Byte
  x : Byte
  y : Byte
  colours : Byte
  combine : Byte
  modes : Byte
  clear : Byte
  deriving DecidableEq, Repr

/-- The parameters of RESPONSE-SET (R144). `cond1` to `cond4` are the condition's parameters: lo, hi and min priority
for CALL-RANGE; lo, hi, alarm kind and min level for WX-RANGE; unread for NO-CENTRE (R145). -/
structure ResponseParams where
  index : Byte
  enable : Bool
  mode : Byte
  kind : Byte
  cond1 : Byte
  cond2 : Byte
  cond3 : Byte
  cond4 : Byte
  mask : Byte
  page : Byte
  priority : Byte
  linger : Byte
  deriving DecidableEq, Repr

/-- The parameters of WX-LIMITS (R168). R168 gives the thresholds no width and no coding: that each is a 16-bit two's
complement number is the model's choice (notes/assumptions/5.md). -/
structure LimitParams where
  kind : Byte
  level1 : BitVec 16
  level2 : BitVec 16
  spread1 : BitVec 16
  spread2 : BitVec 16
  deriving DecidableEq, Repr

/-- The parameters of PAGE-SET (R120): page, begin and end flags, first layer index, layer number n, and the layer
records the cell carries. -/
structure PageParams where
  page : Byte
  start : Bool
  finish : Bool
  first : Byte
  n : Byte
  records : List LayerRec
  deriving DecidableEq, Repr

/-- What a READING carries: a value or an absent mark for each of the seven numeric quantities, in the order of chapter
9's table, and the two coded values. Chapter 9 calls a numeric value a signed number wide enough for values well outside
its range: that it is 32 bits wide, in two's complement, is the model's choice (notes/assumptions/6.md). -/
structure Reading where
  numeric : Vector (Option (BitVec 32)) 7
  surface : Option Byte
  precip : Option Byte
  deriving DecidableEq, Repr

/-- A frame of a tributary port without its envelope: type code and payload (chapter 10, "Frames on a tributary
port"). The length byte of the envelope is the payload's length. -/
structure Frame where
  type : Byte
  payload : List Byte
  deriving DecidableEq, Repr

/-- The commands of the node. Each constructor is one row of spec/opcode_table.json; its docstring names the row. -/
inductive Instr where
  /-- RESET: power-on or the RESET pin, with the strap levels read at its end. -/
  | reset (pins : Straps)
  /-- WORD_END: a word ends on a line's transmit half. -/
  | wordEnd (l : Line)
  /-- FILL_WORD_ARRIVES: a fill word arrives whole; `good` says whether its 8-bit check is good. -/
  | fillWordArrives (l : Line) (w : FillWord) (good : Bool)
  /-- WORD_CUT_SHORT: a word is cut short by the loss of light. -/
  | wordCutShort (l : Line)
  /-- CELL_ARRIVES: a cell arrives whole. -/
  | cellArrives (l : Line) (c : Cell)
  /-- SILENCE_TIMER_EXPIRES. -/
  | silenceTimerExpires (l : Line)
  /-- ERROR_WINDOW_ENDS. -/
  | errorWindowEnds (l : Line)
  /-- DEAF_TIMER_EXPIRES. -/
  | deafTimerExpires (l : Line)
  /-- PROVING_TIMER_EXPIRES. -/
  | provingTimerExpires (l : Line)
  /-- LISTENING_TIMER_EXPIRES. -/
  | listeningTimerExpires
  /-- HELLO_PERIOD. -/
  | helloPeriod
  /-- HEARD_ENTRY_EXPIRES: the heard entry of this station number reaches 3.5 s. -/
  | heardEntryExpires (station : Nat)
  /-- GROUP_SET: a group and a mask. -/
  | groupSet (via : Via) (group mask : Byte)
  /-- CALL_FLOOR: the floor. -/
  | callFloor (via : Via) (floor : Byte)
  /-- CALL_PHONE: target port and priority. -/
  | callPhone (via : Via) (target priority : Byte)
  /-- PLATE_DROP: a plate number. -/
  | plateDrop (via : Via) (plate : Byte)
  /-- PLATE_DROP_ALL. -/
  | plateDropAll (via : Via)
  /-- PAGE_SET: target port and parameters. -/
  | pageSet (via : Via) (target : Byte) (params : PageParams)
  /-- SHOW: target port, page and priority. -/
  | showPage (via : Via) (target page priority : Byte)
  /-- SIGN_RESTORE: target port. -/
  | signRestore (via : Via) (target : Byte)
  /-- RESPONSE_SET: parameters. -/
  | responseSet (via : Via) (params : ResponseParams)
  /-- RESPONSE_CLEAR: an entry index or 255. -/
  | responseClear (via : Via) (index : Byte)
  /-- WX_RATE: target port and interval in seconds. -/
  | wxRate (via : Via) (target interval : Byte)
  /-- WX_LIMITS: target port and parameters. -/
  | wxLimits (via : Via) (target : Byte) (params : LimitParams)
  /-- PASS_OPEN: target port and idle code. -/
  | passOpen (via : Via) (target idle : Byte)
  /-- PASS_CLOSE: target port. -/
  | passClose (via : Via) (target : Byte)
  /-- RESTART. -/
  | restart (via : Via)
  /-- OFF_HOOK: the key pressed. -/
  | offHook (p : Port) (key : Key)
  /-- ON_HOOK. -/
  | onHook (p : Port)
  /-- ANSWER. -/
  | answer (p : Port)
  /-- SAMPLES: 40 voice samples. -/
  | samples (p : Port) (voice : List Byte)
  /-- ATTEMPT_TIMER_EXPIRES. -/
  | attemptTimerExpires
  /-- BACKOFF_TIMER_EXPIRES. -/
  | backoffTimerExpires (p : Port)
  /-- HOLD_PERIOD. -/
  | holdPeriod
  /-- REMOTE_ENTRY_EXPIRES: the REMOTE entry of this circuit reaches 3.5 s. -/
  | remoteEntryExpires (circuit : Fin 16)
  /-- RINGING_TIMER_EXPIRES. -/
  | ringingTimerExpires (p : Port)
  /-- PLAYOUT_TIMER. -/
  | playoutTimer (p : Port)
  /-- RECORD: the body of a toll record. -/
  | record (p : Port) (body : List Byte)
  /-- SYNC_TIMER_EXPIRES. -/
  | syncTimerExpires
  /-- RETRANSMIT_DEADLINE. -/
  | retransmitDeadline
  /-- PART_TIMER_EXPIRES: the part timer of this load slot reaches 2 s. -/
  | partTimerExpires (slot : Fin 2)
  /-- LAYER_APPLY: the composer of this sign port applies its next layer. -/
  | layerApply (p : Port)
  /-- READY. -/
  | ready (p : Port)
  /-- SIGN_BUSY: the sign's BUSY frame. -/
  | signBusy (p : Port)
  /-- ROWS_TAKEN: the picture whose rows are loaded. -/
  | rowsTaken (p : Port) (pic : Pic)
  /-- SHOWN: a picture and the row checks the sign reports for it. -/
  | shown (p : Port) (pic : Pic) (checks : List (BitVec 16))
  /-- RETRY_TIMER_EXPIRES. -/
  | retryTimerExpires (p : Port)
  /-- ANSWER_TIMER_EXPIRES. -/
  | answerTimerExpires (p : Port)
  /-- LINGER_TIMER_EXPIRES: the linger timer of this response entry. -/
  | lingerTimerExpires (entry : Fin 16)
  /-- POLL_TIME. -/
  | pollTime
  /-- READING: what a weather station reports. -/
  | reading (p : Port) (values : Reading)
  /-- REPLY_TIMER_EXPIRES. -/
  | replyTimerExpires
  /-- ALARM_TIMER_EXPIRES. -/
  | alarmTimerExpires
  /-- WX_VIEW_ENTRY_EXPIRES: the weather view entry of this station reaches 35 s. -/
  | wxViewEntryExpires (station : Nat)
  /-- IDENT: kind, and for a sign its width and height. -/
  | ident (p : Port) (kind width height : Byte)
  /-- ALIVE. -/
  | alive (p : Port)
  /-- BAD_FRAME: a frame as it stood on the link, with its check. -/
  | badFrame (p : Port) (frame : Frame) (check : BitVec 16)
  /-- FRAME_BYTE_TIMEOUT. -/
  | frameByteTimeout (p : Port)
  /-- PORT_SILENCE_TIMER_EXPIRES. -/
  | portSilenceTimerExpires (p : Port)
  /-- ALIVE_TIMER. -/
  | aliveTimer (p : Port)
  /-- PORT_FRAME_SENT. -/
  | portFrameSent (p : Port)
  /-- PASS_BYTE: one byte from the equipment, part of a frame where the port is not in PASS. -/
  | passByte (p : Port) (byte : Byte)
  /-- GATHER_TIMER_EXPIRES. -/
  | gatherTimerExpires (p : Port)
  /-- PASS_IDLE_TIMER_EXPIRES. -/
  | passIdleTimerExpires (p : Port)
  /-- PORT_LINE_SIGNAL: the line signal goes (`false`) or returns (`true`). -/
  | portLineSignal (p : Port) (present : Bool)
  /-- LINE_LOSS_TIMER_EXPIRES. -/
  | lineLossTimerExpires (p : Port)
  /-- CELL_FRAME: the payload of a CELL frame from the centre equipment. -/
  | cellFrame (p : Port) (bytes : List Byte)
  /-- INTAKE_ADVANCE. -/
  | intakeAdvance
  /-- DELIVERY_FRAME_SENT. -/
  | deliveryFrameSent
  /-- STATUS_PERIOD. -/
  | statusPeriod
  deriving DecidableEq, Repr

end Sys2Proof
end

