-- ==== Sys2Proof/Decode.lean ====
section
/-! DEFINITION. The command that a table word spells. The part fetches no program, and no row of
spec/opcode_table.json gives a bit of a word (every row's list of fields is empty), so no word spells a command
(notes/assumptions/31.md). -/

namespace Sys2Proof

/-- The command that a word of this many bits spells: none, since no row gives bits. -/
def decodeTableWord (_nbits _w : Nat) : Option Instr := none

end Sys2Proof
end

