-- ==== Sys2Proof/Config.lean ====
section
/-! DEFINITION. What the part fixes: the times of the timers, the capacities of the queues, the tables of thresholds;
and the free values, which the spec leaves open and nothing in Lean can evaluate. -/

namespace Sys2Proof.Config

/-! ### Times, in nanoseconds (00_scope.md, Times) -/

def microsecond : Time := 1000
def millisecond : Time := 1000000
def second : Time := 1000000000

/-- R1: a cell occupies the line for 5.12 µs. -/
def cellTime : Time := 5120
/-- R1: a fill word occupies the line for 0.64 µs. -/
def fillTime : Time := 640
/-- R24: the silence timer. -/
def lineSilence : Time := 2 * millisecond
/-- R25: the error window. -/
def errorWindow : Time := 100 * millisecond
/-- R26: the deaf timer. -/
def deafTime : Time := 10 * millisecond
/-- R27: the proving timer. -/
def provingTime : Time := 500 * millisecond
/-- R41: the listening timer. -/
def listeningTime : Time := 3 * second
/-- R46: the HELLO period. -/
def helloTime : Time := 1 * second
/-- R48, R73: the age at which a heard entry, and a REMOTE entry, leaves. -/
def entryAge : Time := 3500 * millisecond
/-- R62: the attempt timer. -/
def attemptTime : Time := 200 * millisecond
/-- R70: the backoff timer. -/
def backoffTime : Time := 1 * second
/-- R71: the HOLD period. -/
def holdTime : Time := 1 * second
/-- R68: the ringing timer. -/
def ringingTime : Time := 60 * second
/-- R84: the playout timer. -/
def playoutTime : Time := 5 * millisecond
/-- R90: the sync timer. -/
def syncTime : Time := 500 * millisecond
/-- R94: the retransmit deadline. -/
def retransmitTime : Time := 400 * millisecond
/-- R111: the part timer. -/
def partTime : Time := 2 * second
/-- R151: the answer timer of a sign. -/
def answerTime : Time := 500 * millisecond
/-- R151: the retry timer of a sign. -/
def retryTime : Time := 100 * millisecond
/-- R161: the reply timer of a poll. -/
def replyTime : Time := 2 * second
/-- R167: the stale hold. -/
def staleHold : Time := 60 * second
/-- R171: the alarm timer. -/
def alarmTime : Time := 10 * second
/-- R172: the age at which a weather view entry leaves. -/
def viewAge : Time := 35 * second
/-- R177: the silence timer of a tributary port. -/
def portSilence : Time := 1 * second
/-- R177: ALIVE goes out when this long has passed since the last frame. -/
def aliveTime : Time := 200 * millisecond
/-- R176: a frame is discarded when its bytes stop for this long. -/
def byteTime : Time := 10 * millisecond
/-- R180: the gather buffer is sent this long after its first byte. -/
def gatherTime : Time := 20 * millisecond
/-- R181: the line-loss timer. -/
def lineLossTime : Time := 1 * second
/-- R184: the STATUS period. -/
def statusTime : Time := 5 * second

/-! ### Capacities and limits -/

/-- R2: cells between two fill words at the most. -/
def maxConsecutive : Nat := 16
/-- R12: where the bulk fairness count stops. -/
def maxFairness : Nat := 4
/-- R7: the hops left of a cell the station originates. -/
def firstHops : Byte := 127
/-- R25: the bad cells of one window that raise the error condition. -/
def errorLimit : Nat := 8
/-- R85: records in the journal. -/
def journalSize : Nat := 128
/-- R92: SENT records at the most. -/
def sendWindow : Nat := 16
/-- R94: go-backs in a row that resync the channel. -/
def maxExpiries : Nat := 8
/-- R83: cells in a playout queue. -/
def playoutSize : Nat := 8
/-- R69: failed attempts that send a port to BACKOFF. -/
def maxFailed : Nat := 4
/-- R164: samples in a window; and the multiple of the poll interval at which a sample ages out. -/
def windowSize : Nat := 6
/-- R164: a window with fewer samples is stale. -/
def freshSamples : Nat := 3
/-- R176: frames in a transmit frame queue. -/
def portQueueSize : Nat := 128
/-- R182: cells in the centre intake FIFO. -/
def intakeSize : Nat := 64
/-- R182: a paused FIFO that falls to this many cells sends GO. -/
def intakeGo : Nat := 31
/-- R183: frames in the delivery queue. -/
def deliverySize : Nat := 128
/-- R180: bytes in the gather buffer. -/
def gatherSize : Nat := 48
/-- R110: plate data bytes in one part. -/
def partSize : Nat := 48
/-- R107: bytes in a block. -/
def blockSize : Nat := 256
/-- R107: blocks in the plate store. -/
def blockCount : Nat := 256
/-- R152: missed answers in a row at which a sign is lost. -/
def maxMissed : Nat := 3

/-- R159: the seven brightness thresholds in lux; threshold L (1 to 7) is entry L − 1. -/
def brightnessThresholds : List Nat := [40, 150, 500, 1500, 5000, 15000, 40000]

/-! ### Free values (no body: nothing in Lean can evaluate them) -/

/-- DESIGN CHOICE, safe: the 8-bit check of a fill word with this number, fold code and heard flag. R2 names the
check and gives no formula for it (notes/assumptions/7.md). -/
opaque fillCheck : BitVec 6 → BitVec 2 → Bool → Byte

/-- DESIGN CHOICE, safe: the sample value that stands for silence in a PLAY frame. R84 says "silence" and gives no
value (notes/assumptions/22.md). -/
opaque silenceSample : Byte

end Sys2Proof.Config
end

