-- ==== Sys2Proof/Machine/Straps.lean ====
section
/-! DEFINITION. Reading the straps (R175): which profile each port is honoured with, and which straps conflict. -/

namespace Sys2Proof.Machine

/-- The profile a code names; codes 6 and 7 name none (R175). -/
def codeProfile (code : BitVec 3) : Option Profile :=
  if code = 0 then some .none
  else if code = 1 then some .phone
  else if code = 2 then some .sign
  else if code = 3 then some .weather
  else if code = 4 then some .toll
  else if code = 5 then some .centre
  else none

/-- How many ports of a station a profile may be honoured on (R175). Every unused port may be NONE. -/
def strapLimit : Profile → Nat
  | .none => 4
  | .phone => 2
  | .sign => 2
  | .weather => 1
  | .toll => 1
  | .centre => 1

/-- The profile a port is honoured with and its strap-conflict flag, given those of the ports below it (R175). -/
def honour (below : List Profile) (code : BitVec 3) : Profile × Bool :=
  match codeProfile code with
  | none => (.none, true)
  | some p => if below.count p < strapLimit p then (p, false) else (.none, true)

/-- The honoured profiles and the conflict flags of ports 0 to 3, checked from port 0 upward (R175). -/
def readStraps (codes : Vector (BitVec 3) 4) : Vector (Profile × Bool) 4 :=
  let p0 := honour [] codes[0]
  let p1 := honour [p0.1] codes[1]
  let p2 := honour [p0.1, p1.1] codes[2]
  let p3 := honour [p0.1, p1.1, p2.1] codes[3]
  #v[p0, p1, p2, p3]

/-- A station number strap that names a station: 1 to 60 (R41). -/
def validNumber (n : BitVec 6) : Bool := decide (1 ≤ n.toNat ∧ n.toNat ≤ 60)

/-- Bit `n` of a port mask is set for every port of a profile (R51). -/
def maskOf (profiles : Vector Profile 4) (profile : Profile) : BitVec 4 :=
  (if profiles[0] = profile then 1 else 0) ||| (if profiles[1] = profile then 2 else 0)
    ||| (if profiles[2] = profile then 4 else 0) ||| (if profiles[3] = profile then 8 else 0)

/-- The group table after reset (R51): groups 0 to 3 reach the SIGN, PHONE, WEATHER and TOLL ports, the others none. -/
def resetGroups (profiles : Vector Profile 4) : Vector (BitVec 4) 32 :=
  ((((Vector.replicate 32 (0 : BitVec 4)).set 0 (maskOf profiles .sign)).set 1 (maskOf profiles .phone)).set 2
    (maskOf profiles .weather)).set 3 (maskOf profiles .toll)

end Sys2Proof.Machine
end

