-- ==== Sys2Proof/Machine/State.lean ====
section
/-! DEFINITION. The state of the node as plain data, its stop reasons, and the state after reset. Each structure is the
state of one block of 00_scope.md's block overview; each field's docstring names the rule that gives it. A running
timer is held as the moment it expires, a stopped one as `none`. -/

namespace Sys2Proof.Machine

/-! ### Stop reasons -/

/-- The node has no fault: the spec gives every input an effect, a count or a rejection (notes/assumptions/30.md).
Nothing raises a fault, so the type has no constructor. -/
inductive Fault where
  deriving DecidableEq, Repr

/-- Why a command has no meaning. -/
inductive Refusal where
  /-- The arm of `exec` for a row without a meaning yet raises this; safe. No arm of this model does. -/
  | notModelled (mnemonic : String)
  deriving DecidableEq, Repr

/-! ### Pairs by line -/

/-- One item for each line. -/
structure Both (α : Type) where
  u : α
  d : α
  deriving DecidableEq, Repr

/-- The item of a line. -/
def Both.get {α : Type} (b : Both α) : Line → α
  | .u => b.u
  | .d => b.d

/-- The pair with one line's item replaced. -/
def Both.set {α : Type} (b : Both α) (l : Line) (x : α) : Both α :=
  match l with
  | .u => { b with u := x }
  | .d => { b with d := x }

/-! ### Line units (R23) -/

inductive LineState where
  | down
  | proving
  | up
  deriving DecidableEq, Repr

inductive DownCause where
  | none
  | silence
  | errors
  | farDeaf
  deriving DecidableEq, Repr

structure LineUnit where
  /-- R23: line state. -/
  state : LineState
  /-- R24: when the silence timer expires; `none` when it stands expired. -/
  silence : Option Time
  /-- R25: when the current error window ends. -/
  windowEnd : Time
  /-- R25: bad cells in the current window. -/
  windowBad : Nat
  /-- R26: the far-end report: station number. -/
  farNumber : BitVec 6
  /-- R26: the far-end report: fold state. -/
  farFold : Fold
  /-- R26: the far-end report: heard flag. -/
  farHeard : Bool
  /-- R26: deaf timer. -/
  deaf : Option Time
  /-- R27: proving timer. -/
  proving : Option Time
  /-- R29: last down cause. -/
  cause : DownCause
  /-- R29: down-event count. -/
  downEvents : Count
  deriving DecidableEq, Repr

/-! ### Transmitters (R2, R6, R12) -/

/-- One queue for each class. -/
structure Queues where
  v : List Cell
  c : List Cell
  b : List Cell
  deriving DecidableEq, Repr

/-- The word a transmitter is sending (R1): a cell, or a fill word with its 8-bit check (R2). -/
inductive Word where
  | cell (c : Cell)
  | fill (w : FillWord) (check : Byte)
  deriving DecidableEq, Repr

structure Transmitter where
  /-- R6: the three transit queues, oldest first. -/
  transit : Queues
  /-- R6: the three insert queues, oldest first. -/
  insert : Queues
  /-- R12: bulk fairness count, 0 to 4. -/
  fairness : Nat
  /-- R2: consecutive-cell count, 0 to 16. -/
  consecutive : Nat
  /-- R1: the word on the line. -/
  onLine : Word
  /-- R1: when that word ends. -/
  endsAt : Time
  deriving DecidableEq, Repr

/-- The counters of R21, and the flushed count of R40. -/
structure RingCounters where
  badU : Count
  badD : Count
  malformed : Count
  lineDown : Count
  expired : Count
  undeliverable : Count
  transitDrops : Count
  insertDrops : Count
  flushed : Count
  deriving DecidableEq, Repr

/-! ### Station table (R41 to R54) -/

inductive Phase where
  | strapFault
  | starting
  | active
  | mute
  deriving DecidableEq, Repr

inductive RejectReason where
  | none
  | notCentre
  | unknown
  | range
  | state
  | port
  deriving DecidableEq, Repr

/-- A heard table entry (R48). -/
structure HeardEntry where
  present : Bool
  /-- When it was last created or refreshed: its age runs from here. -/
  refreshed : Time
  /-- The stamp it holds, or last held when it was removed by expiry; `none` when it holds no stamp. -/
  stamp : Option (BitVec 16)
  fold : Fold
  centre : Bool
  tollReceive : Bool
  deriving DecidableEq, Repr

structure Station where
  phase : Phase
  /-- R41: listening timer. -/
  listening : Option Time
  /-- R42: start stamp; 0 when cleared. -/
  stamp : BitVec 16
  /-- R42: restart flag. -/
  restartFlag : Bool
  /-- R45: duplicate flag. -/
  duplicateFlag : Bool
  /-- R46: the next HELLO period. -/
  helloAt : Option Time
  /-- R48: heard table, indexed by station number 1 to 60; index 0 is no station. -/
  heard : Vector HeardEntry 61
  /-- R51: group table. -/
  groups : Vector (BitVec 4) 32
  /-- R54: rejected-command count. -/
  rejects : Count
  /-- R54: last reject reason. -/
  lastReject : RejectReason
  /-- R184: the next STATUS period. -/
  statusAt : Option Time
  /-- R184: the report number of the next STATUS report. -/
  reportNumber : BitVec 8
  deriving DecidableEq, Repr

/-- The straps: the pins' levels and what was read of them at the last reset (R175). -/
structure StrapRead where
  pins : Straps
  /-- The strap number as read, 0 to 63 (R2, R41). -/
  number : BitVec 6
  profiles : Vector Profile 4
  conflicts : Vector Bool 4
  deriving DecidableEq, Repr

/-! ### Call unit (R55 to R84) -/

inductive CallState where
  | idle
  | waiting
  | claiming
  | ringing
  | connected
  | backoff
  deriving DecidableEq, Repr

inductive CallReason where
  | none
  | preempted
  | reconnecting
  deriving DecidableEq, Repr

/-- The indications of R76. -/
inductive Indication where
  | clear
  | preempted
  | reconnecting
  | noCentre
  | waiting
  | ringbackNone
  | ring
  | connected
  deriving DecidableEq, Repr

/-- A voice cell waiting to be played (R83): its sequence and its samples. -/
structure VoiceCell where
  seq : BitVec 8
  voice : List Byte
  deriving DecidableEq, Repr

/-- The call record of a PHONE port (R57), its playout queue (R83, R84) and the indication last worked out (R76). -/
structure Phone where
  state : CallState
  priority : Nat
  ringFlag : Bool
  reason : CallReason
  circuit : Option (Fin 16)
  target : Option Nat
  failed : Nat
  avoided : Option (Fin 16)
  sendSeq : BitVec 8
  recvSeq : Option (BitVec 8)
  backoff : Option Time
  ringing : Option Time
  /-- R83: playout queue, oldest first. -/
  playout : List VoiceCell
  /-- R84: PLAYING, else PRIMING. -/
  playing : Bool
  /-- R84: priming count. -/
  priming : Nat
  /-- R84: playout timer. -/
  playTimer : Option Time
  late : Count
  overflow : Count
  underrun : Count
  /-- MODEL: the indication last worked out for the phone. -/
  indicated : Indication
  deriving DecidableEq, Repr

/-- An entry of the call request list (R58). -/
structure Request where
  port : Port
  priority : Nat
  /-- MODEL: which joining of the list this was; a smaller number joined earlier. -/
  joined : Nat
  deriving DecidableEq, Repr

/-- An entry of the circuit view (R60). -/
inductive Circuit where
  | free
  | ownClaiming (port : Port) (priority : Nat) (number : BitVec 4)
  | ownHeld (port : Port) (priority : Nat)
  | remote (station : Nat) (port : Port) (priority : Nat) (refreshed : Time) (order : BitVec 16)
  deriving DecidableEq, Repr

/-- The claim in flight (R62). -/
structure Attempt where
  port : Port
  circuit : Fin 16
  priority : Nat
  number : BitVec 4
  hangUp : Bool
  /-- R68: the target centre the claim carries. -/
  target : Nat
  /-- The attempt timer. -/
  expires : Time
  deriving DecidableEq, Repr

structure CallUnit where
  /-- R56: call floor. -/
  floor : Nat
  phones : Vector Phone 4
  requests : List Request
  /-- MODEL: joinings of the request list so far. -/
  joins : Nat
  circuits : Vector Circuit 16
  /-- R60: entry-order count. -/
  orderCount : BitVec 16
  attempt : Option Attempt
  /-- R62: claim counter. -/
  claimCounter : BitVec 4
  /-- R71: the end of the current HOLD period. -/
  holdAt : Option Time
  deriving DecidableEq, Repr

/-! ### Toll unit (R85 to R106) -/

/-- A journal record (R85): NEW while `sent` is `none`, else SENT with its time sent. -/
structure TollRecord where
  number : BitVec 16
  body : List Byte
  sent : Option Time
  deriving DecidableEq, Repr

inductive ChannelState where
  | closed
  | syncing
  | opened
  deriving DecidableEq, Repr

/-- A downstream entry that is not empty (R103). -/
structure DownEntry where
  centre : Nat
  expected : BitVec 16
  deriving DecidableEq, Repr

/-- The two that can wait for room in one insert queue (R7). -/
inductive PlaceTaker where
  | toll
  | intake
  deriving DecidableEq, Repr

/-- The counters of R106, in its order. -/
structure TollCounters where
  busy : Count
  rejected : Count
  stray : Count
  outOfStep : Count
  unsynced : Count
  repeats : Count
  gaps : Count
  noRoom : Count
  downRefused : Count
  downRepeats : Count
  downMissing : Count
  downUndelivered : Count
  deriving DecidableEq, Repr

structure TollUnit where
  /-- R85: journal, oldest first. -/
  journal : List TollRecord
  /-- R85: next number. -/
  next : BitVec 16
  /-- R85: delivered mark. -/
  delivered : Option (BitVec 16)
  /-- R88: channel state. -/
  chan : ChannelState
  /-- R88: bound centre. -/
  bound : Option Nat
  /-- R88: start number. -/
  start : BitVec 16
  /-- R88: sync timer. -/
  syncTimer : Option Time
  /-- R88: last progress. -/
  progress : Option Time
  /-- R88: expiry count. -/
  expiries : Nat
  /-- R88: send mark. -/
  sendMark : Option (BitVec 16)
  /-- R98: receive table, indexed by station number 1 to 60; `none` is UNSYNCED; index 0 is no station. -/
  receive : Vector (Option (BitVec 16)) 61
  /-- R103: the two downstream entries. -/
  down : Vector (Option DownEntry) 2
  counters : TollCounters
  /-- R7: which of the two took the last place handed out in turn. -/
  lastPlace : Option PlaceTaker
  deriving DecidableEq, Repr

/-! ### Plate store (R107 to R117) -/

inductive Owner where
  | free
  | plate (n : Nat)
  | slot (k : Fin 2)
  deriving DecidableEq, Repr

/-- A present directory entry (R108). -/
structure Plate where
  width : Nat
  height : Nat
  depth : Nat
  first : Nat
  count : Nat
  deriving DecidableEq, Repr

/-- An open load slot (R111). -/
structure Slot where
  plate : Nat
  width : Nat
  height : Nat
  depth : Nat
  parts : Nat
  expected : Nat
  first : Nat
  count : Nat
  /-- The moment its last part was accepted. -/
  lastPart : Time
  /-- MODEL: which acceptance that was; a smaller number was accepted earlier (notes/assumptions/11.md). -/
  order : Nat
  /-- Part timer. -/
  timer : Time
  deriving DecidableEq, Repr

structure PlateStore where
  /-- R107: the bytes of the 256 blocks, as a canonical list of cells. -/
  mem : List Host.Cell
  /-- R107: block map. -/
  blocks : Vector Owner 256
  /-- R108: directory; `none` is absent. -/
  dir : Vector (Option Plate) 64
  /-- R111: load slots; `none` is closed. -/
  slots : Vector (Option Slot) 2
  /-- MODEL: parts accepted so far. -/
  accepted : Nat
  plateRange : Count
  storeFull : Count
  loadBroken : Count
  displaced : Count
  strayParts : Count
  deriving DecidableEq, Repr

/-! ### Sign ports (R118 to R158) -/

/-- A page: its layer records, layer 0 first (R118). -/
abbrev Page := List LayerRec

/-- An open staging copy (R118). -/
structure Staging where
  page : Fin 8
  layers : Vector (Option LayerRec) 16
  highest : Option Nat
  deriving DecidableEq, Repr

/-- A picture: its rows, top row first, each a list of colour indices 0 to 7 from left to right (R123). -/
abbrev Picture := List (List (BitVec 3))

/-- A compose in progress (R124). -/
structure Compose where
  page : Fin 8
  layers : List LayerRec
  next : Nat
  faults : Nat
  a : Picture
  b : Picture
  /-- The geometry when the compose started (R129). -/
  width : Nat
  height : Nat
  deriving DecidableEq, Repr

/-- The result of a compose (R130). -/
structure Result where
  page : Fin 8
  width : Nat
  height : Nat
  a : Picture
  b : Picture
  checksA : List (BitVec 16)
  checksB : List (BitVec 16)
  flashing : Bool
  faults : Nat
  deriving DecidableEq, Repr

/-- The source of a page claim (R141). -/
inductive ClaimSource where
  | rest
  | centre
  | response (k : Fin 16)
  deriving DecidableEq, Repr

/-- An entry of a page claims list (R141). -/
structure PageClaim where
  source : ClaimSource
  page : Fin 8
  priority : Nat
  order : BitVec 16
  deriving DecidableEq, Repr

/-- What a transfer awaits (R151): READY or BUSY for an OFFER, the retry timer after BUSY, ROWS-TAKEN, SHOWN. -/
inductive Await where
  | ready (p : Pic)
  | retry (p : Pic)
  | rows (p : Pic)
  | shown (p : Pic)
  deriving DecidableEq, Repr

/-- A transfer in progress (R151). -/
structure Transfer where
  result : Result
  await : Await
  /-- The checks the sign has reported for picture A, once it has. -/
  shownA : List (BitVec 16)
  deriving DecidableEq, Repr

/-- The display states of R157. -/
inductive DisplayState where
  | pass
  | noSign
  | dark
  | updating
  | steady
  deriving DecidableEq, Repr

structure Sign where
  /-- R118: the eight pages. -/
  pages : Vector Page 8
  /-- R118: staging copy; `none` is closed. -/
  staging : Option Staging
  /-- R122: geometry, width and height. -/
  geometry : Option (Nat × Nat)
  /-- R124: the compose in progress; `none` is IDLE. -/
  compose : Option Compose
  /-- R124: next-request slot. -/
  slot : Option (Fin 8)
  /-- R130: the port's fault count. -/
  faultCount : Nat
  /-- R141: page claims list. -/
  claims : List PageClaim
  /-- R141: entry-order count. -/
  claimCount : BitVec 16
  /-- R149: target page. -/
  target : Fin 8
  /-- R149: awaiting a result. -/
  awaiting : Bool
  /-- R150: pending result. -/
  pendingResult : Option Result
  /-- R151: transfer in progress. -/
  transfer : Option Transfer
  /-- R151: answer timer. -/
  answerTimer : Option Time
  /-- R151: retry timer. -/
  retryTimer : Option Time
  /-- R152: missed-answer count. -/
  missed : Nat
  /-- R152: missed-answer total. -/
  missedTotal : Count
  /-- R151: busy count. -/
  busyCount : Count
  /-- R153: verify-failure count. -/
  verifyFails : Count
  /-- R153: escalation stage. -/
  stage : Nat
  /-- R155: dark mark. -/
  dark : Bool
  /-- R158: the display state a MUTE station goes on showing. -/
  frozen : Option DisplayState
  deriving DecidableEq, Repr

/-! ### Response table (R144) -/

/-- The alarms of chapter 9. -/
inductive Alarm where
  | ice
  | fog
  | wind
  deriving DecidableEq, Repr

/-- The conditions of R145. -/
inductive Condition where
  | callRange (lo hi minPriority : Nat)
  | wxRange (lo hi : Nat) (alarm : Alarm) (minLevel : Nat)
  | noCentre
  deriving DecidableEq, Repr

inductive ClaimState where
  | idle
  | active
  | lingering
  | latched
  deriving DecidableEq, Repr

structure Response where
  enable : Bool
  /-- LATCH, else LEVEL. -/
  latch : Bool
  condition : Condition
  mask : BitVec 4
  page : Fin 8
  priority : Nat
  /-- Linger time in seconds. -/
  linger : Nat
  /-- Current condition value. -/
  value : Bool
  claim : ClaimState
  timer : Option Time
  deriving DecidableEq, Repr

/-! ### Weather unit (R160 to R174) -/

/-- An alarm level (R160). -/
inductive Level where
  | zero
  | one
  | two
  | unknown
  deriving DecidableEq, Repr

structure Sample where
  value : Int
  taken : Time
  deriving DecidableEq, Repr

/-- A numeric quantity (R160): its window, oldest first, its last sample time and its latest value. -/
structure Quantity where
  window : List Sample
  last : Option Time
  latest : Option Int
  deriving DecidableEq, Repr

inductive Surface where
  | dry
  | damp
  | wet
  | ice
  deriving DecidableEq, Repr

inductive Precip where
  | none
  | rain
  | snow
  deriving DecidableEq, Repr

/-- The thresholds of R168. -/
structure Thresholds where
  ice1 : Int
  ice2 : Int
  spread1 : Int
  spread2 : Int
  fog1 : Int
  fog2 : Int
  wind1 : Int
  wind2 : Int
  deriving DecidableEq, Repr

/-- An entry of the weather view (R172). -/
structure ViewEntry where
  ice : Level
  fog : Level
  wind : Level
  refreshed : Time
  deriving DecidableEq, Repr

structure Weather where
  /-- R160: poll interval in seconds. -/
  interval : Nat
  /-- R160: poll timer. -/
  pollTimer : Option Time
  /-- R160: AWAITING with this reply timer; `none` is IDLE. -/
  reply : Option Time
  /-- R160: poll number. -/
  pollNumber : BitVec 16
  /-- R160: the seven numeric quantities, in the order of chapter 9's table. -/
  quantities : Vector Quantity 7
  /-- R160: latest surface state. -/
  surface : Option Surface
  /-- R160: latest precipitation. -/
  precip : Option Precip
  /-- R160: held surface state and the moment it was taken. -/
  held : Option (Surface × Time)
  ice : Level
  fog : Level
  wind : Level
  thresholds : Thresholds
  /-- R171: alarm timer. -/
  alarmTimer : Option Time
  /-- R172: weather view, indexed by station number 1 to 60; index 0 is no station. -/
  view : Vector (Option ViewEntry) 61
  clamped : Count
  missedPolls : Count
  lateReplies : Count
  deriving DecidableEq, Repr

/-! ### Port units (R175 to R183) -/

inductive Link where
  | down
  | up
  | mismatch
  | pass
  deriving DecidableEq, Repr

/-- The frame a port is sending: from its transmit frame queue, or (`delivery`) from the delivery queue (R183). -/
structure Sending where
  frame : Frame
  delivery : Bool
  deriving DecidableEq, Repr

structure PortUnit where
  /-- R177: link state. -/
  link : Link
  /-- R177: silence timer. -/
  silence : Option Time
  /-- R176: transmit frame queue, oldest first. -/
  queue : List Frame
  /-- R176: the frame being sent. -/
  sending : Option Sending
  /-- R177: when a frame was last sent. -/
  lastSent : Time
  /-- R179: opening centre. -/
  opening : Option Nat
  /-- R179: idle code. -/
  idleCode : BitVec 2
  /-- R179: idle timer. -/
  idleTimer : Option Time
  /-- R180: gather buffer. -/
  gather : List Byte
  /-- R180: when the gather buffer is sent at the latest. -/
  gatherTimer : Option Time
  /-- R181: line-loss timer. -/
  lineLoss : Option Time
  /-- R180, an output: the bytes the last PASS cell wrote out to the equipment. -/
  written : List Byte
  deriving DecidableEq, Repr

/-- R176: a frame whose last byte has not come: its bytes so far, from its start flag on, and when it is discarded
unless more come. -/
structure PartFrame where
  bytes : List Byte
  timer : Time
  deriving DecidableEq, Repr

/-- The counters of chapter 10. -/
structure PortCounters where
  badFrames : Count
  frameDrops : Count
  intakeRefused : Count
  intakeOverflow : Count
  deliveryDrops : Count
  strayPass : Count
  deriving DecidableEq, Repr

/-- The centre port's intake FIFO (R182) and delivery queue (R183). A queued intake cell has no meaningful check. -/
structure CentrePort where
  intake : List Cell
  paused : Bool
  delivery : List Frame
  deriving DecidableEq, Repr

/-- The node's clock: the present moment, and the start counter's value at moment 0 (R41). -/
structure Clock where
  now : Time
  counterBase : BitVec 16
  deriving DecidableEq, Repr

/-- The state of the node. -/
structure State where
  /-- MODEL: the commands that wait, first in, first out. -/
  pending : List Instr
  clock : Clock
  straps : StrapRead
  lines : Both LineUnit
  tx : Both Transmitter
  ring : RingCounters
  station : Station
  call : CallUnit
  toll : TollUnit
  plates : PlateStore
  /-- One for each port; only those of SIGN ports are used. -/
  signs : Vector Sign 4
  /-- R159: brightness level, 1 to 8. -/
  brightness : Nat
  /-- R144: response table. -/
  responses : Vector Response 16
  weather : Weather
  ports : Vector PortUnit 4
  /-- R176, for each port: the frame that the port unit is reading; none while it looks for a start flag. -/
  rx : Vector (Option PartFrame) 4
  portCounts : PortCounters
  centre : CentrePort
  deriving DecidableEq, Repr

/-! ### The state after reset -/

/-- R23: a line unit after reset at moment `t`. -/
def resetLine (t : Time) : LineUnit :=
  { state := .down, silence := none, windowEnd := t + Config.errorWindow, windowBad := 0, farNumber := 0,
    farFold := .isolated, farHeard := false, deaf := none, proving := none, cause := .none, downEvents := 0 }

/-- The 2-bit code of a fold state: its place in R30's list. -/
def foldCode : Fold → BitVec 2
  | .normal => 0
  | .foldD => 1
  | .foldU => 2
  | .isolated => 3

/-- The fill word with these contents and its check (R2). -/
def fillOf (w : FillWord) : Word := .fill w (Config.fillCheck w.number (foldCode w.fold) w.heard)

/-- R22: a transmitter after reset at moment `t`, at a station with this strap number. -/
def resetTransmitter (number : BitVec 6) (t : Time) : Transmitter :=
  { transit := ⟨[], [], []⟩, insert := ⟨[], [], []⟩, fairness := 0, consecutive := 0,
    onLine := fillOf ⟨number, .isolated, false⟩, endsAt := t + Config.fillTime }

/-- R48: a heard entry that is not present and holds no stamp. -/
def absentEntry : HeardEntry :=
  { present := false, refreshed := 0, stamp := none, fold := .normal, centre := false, tollReceive := false }

/-- R41: the station table after reset at moment `t`. -/
def resetStation (number : BitVec 6) (profiles : Vector Profile 4) (t : Time) : Station :=
  { phase := if validNumber number then .starting else .strapFault,
    listening := if validNumber number then some (t + Config.listeningTime) else none,
    stamp := 0, restartFlag := false, duplicateFlag := false, helloAt := none,
    heard := Vector.replicate 61 absentEntry, groups := resetGroups profiles,
    rejects := 0, lastReject := .none, statusAt := none, reportNumber := 0 }

/-- R57, R84: a call record after reset. -/
def resetPhone : Phone :=
  { state := .idle, priority := 1, ringFlag := false, reason := .none, circuit := none, target := none, failed := 0,
    avoided := none, sendSeq := 0, recvSeq := none, backoff := none, ringing := none, playout := [], playing := false,
    priming := 0, playTimer := none, late := 0, overflow := 0, underrun := 0, indicated := .clear }

/-- The call unit after reset (R56 to R62). -/
def resetCall : CallUnit :=
  { floor := 0, phones := Vector.replicate 4 resetPhone, requests := [], joins := 0,
    circuits := Vector.replicate 16 .free, orderCount := 0, attempt := none, claimCounter := 0, holdAt := none }

/-- The toll unit after reset (R106). -/
def resetToll : TollUnit :=
  { journal := [], next := 0, delivered := none, chan := .closed, bound := none, start := 0, syncTimer := none,
    progress := none, expiries := 0, sendMark := none, receive := Vector.replicate 61 none,
    down := Vector.replicate 2 none, counters := ⟨0, 0, 0, 0, 0, 0, 0, 0, 0, 0, 0, 0⟩, lastPlace := none }

/-- The plate store after reset (R107, R108, R111). -/
def resetPlates : PlateStore :=
  { mem := [], blocks := Vector.replicate 256 .free, dir := Vector.replicate 64 none, slots := Vector.replicate 2 none,
    accepted := 0, plateRange := 0, storeFull := 0, loadBroken := 0, displaced := 0, strayParts := 0 }

/-- The REST entry of a page claims list (R141). -/
def restClaim : PageClaim := { source := .rest, page := 0, priority := 0, order := 0 }

/-- A sign port after reset (R118, R122, R125, R141, R149 to R155). -/
def resetSign : Sign :=
  { pages := Vector.replicate 8 [], staging := none, geometry := none, compose := none, slot := none, faultCount := 0,
    claims := [restClaim], claimCount := 0, target := 0, awaiting := false, pendingResult := none, transfer := none,
    answerTimer := none, retryTimer := none, missed := 0, missedTotal := 0, busyCount := 0, verifyFails := 0,
    stage := 0, dark := false, frozen := none }

/-- A response entry after reset (R144). Its condition is NO-CENTRE, and no centre is selected after reset (R49), so
its value is true (R146). -/
def resetResponse : Response :=
  { enable := false, latch := false, condition := .noCentre, mask := 0, page := 0, priority := 1, linger := 0,
    value := true, claim := .idle, timer := none }

/-- The default thresholds (R166, R168). -/
def defaultThresholds : Thresholds :=
  { ice1 := 20, ice2 := -10, spread1 := 20, spread2 := 10, fog1 := 300, fog2 := 150, wind1 := 170, wind2 := 250 }

/-- R160: the weather unit after reset at moment `t`. The poll timer runs on a station with a WEATHER port, unless the
station enters STRAP-FAULT. -/
def resetWeather (number : BitVec 6) (profiles : Vector Profile 4) (t : Time) : Weather :=
  { interval := 10,
    pollTimer := if validNumber number && profiles.contains .weather then some (t + 10 * Config.second) else none,
    reply := none, pollNumber := 0, quantities := Vector.replicate 7 ⟨[], none, none⟩, surface := none, precip := none,
    held := none, ice := .unknown, fog := .unknown, wind := .unknown, thresholds := defaultThresholds,
    alarmTimer := none, view := Vector.replicate 61 none, clamped := 0, missedPolls := 0, lateReplies := 0 }

/-- R185: a port unit after reset at moment `t`. R185 names neither the line-loss timer nor the idle code of a port that
is not in PASS: that the timer is stopped and the code 0 is the model's choice (notes/assumptions/45.md). -/
def resetPort (t : Time) : PortUnit :=
  { link := .down, silence := none, queue := [], sending := none, lastSent := t, opening := none, idleCode := 0,
    idleTimer := none, gather := [], gatherTimer := none, lineLoss := none, written := [] }

/-- The node at the end of a reset, with these commands waiting, this clock and these strap levels (R22, R41, R175,
R185 and the reset values of each chapter). -/
def resetWith (pending : List Instr) (clock : Clock) (pins : Straps) : State :=
  { pending := pending,
    clock := clock,
    straps := { pins := pins, number := pins.number, profiles := (readStraps pins.codes).map (·.1),
                conflicts := (readStraps pins.codes).map (·.2) },
    lines := ⟨resetLine clock.now, resetLine clock.now⟩,
    tx := ⟨resetTransmitter pins.number clock.now, resetTransmitter pins.number clock.now⟩,
    ring := ⟨0, 0, 0, 0, 0, 0, 0, 0, 0⟩,
    station := resetStation pins.number ((readStraps pins.codes).map (·.1)) clock.now,
    call := resetCall,
    toll := resetToll,
    plates := resetPlates,
    signs := Vector.replicate 4 resetSign,
    brightness := 8,
    responses := Vector.replicate 16 resetResponse,
    weather := resetWeather pins.number ((readStraps pins.codes).map (·.1)) clock.now,
    ports := Vector.replicate 4 (resetPort clock.now),
    rx := Vector.replicate 4 none,
    portCounts := ⟨0, 0, 0, 0, 0, 0⟩,
    centre := ⟨[], false, []⟩ }

/-- The machine right after power-on, with no strap pin tied (notes/assumptions/3.md): its number reads 0, so it stands
in STRAP-FAULT with four unused ports. A RESET command carries the levels of a strapped cabinet. -/
def State.reset : State := resetWith [] ⟨0, 0⟩ ⟨0, Vector.replicate 4 0⟩

end Sys2Proof.Machine
end

