-- ==== Sys2Proof/Machine/Checks.lean ====
section
/-! DEFINITION. The two cyclic checks: the 32-bit check of a cell (R4) and the 16-bit check of a tributary port frame
(R176). Both take bits most significant first. -/

namespace Sys2Proof.Machine

/-- The bits of a byte, most significant first. -/
def byteBits (b : Byte) : List Bool :=
  [b.getLsbD 7, b.getLsbD 6, b.getLsbD 5, b.getLsbD 4, b.getLsbD 3, b.getLsbD 2, b.getLsbD 1, b.getLsbD 0]

/-- A cyclic check register after one more bit. -/
def crcBit {n : Nat} (poly reg : BitVec n) (bit : Bool) : BitVec n :=
  if reg.msb != bit then (reg <<< 1) ^^^ poly else reg <<< 1

/-- A cyclic check register after these bytes. -/
def crcBytes {n : Nat} (poly : BitVec n) (reg : BitVec n) : List Byte → BitVec n
  | [] => reg
  | b :: rest => crcBytes poly ((byteBits b).foldl (crcBit poly) reg) rest

/-- R4: the 32-bit check: polynomial 04C11DB7 hex, register from all ones, final value inverted. -/
def check32 (bytes : List Byte) : BitVec 32 := ~~~ crcBytes (0x04C11DB7 : BitVec 32) (0xFFFFFFFF : BitVec 32) bytes

/-- R176: the 16-bit check: polynomial 1021 hex, register from FFFF hex, not inverted. -/
def check16 (bytes : List Byte) : BitVec 16 := crcBytes (0x1021 : BitVec 16) (0xFFFF : BitVec 16) bytes

/-- Bytes 0 to 59 of a cell. -/
def cellBytes (c : Cell) : List Byte := c.kind :: c.source :: c.dest :: c.hops :: c.payload

/-- R4: the cell with a fresh check. -/
def sealCell (c : Cell) : Cell := { c with check := check32 (cellBytes c) }

/-- R4: the check of the cell is good. -/
def checkGood (c : Cell) : Bool := decide (c.check = check32 (cellBytes c))

/-- R176: the check is computed over type, length and payload. -/
def frameCheck (f : Frame) : BitVec 16 := check16 (f.type :: BitVec.ofNat 8 f.payload.length :: f.payload)

/-- Byte 0 of a frame. -/
def startFlag : Byte := 0x7E

/-- The bytes of a frame on its link: start flag 7E hex, type, length, payload and check, most significant byte first
(chapter 10, "Frames on a tributary port"). -/
def frameBytes (f : Frame) : List Byte :=
  startFlag :: f.type :: BitVec.ofNat 8 f.payload.length :: f.payload
    ++ [(frameCheck f).extractLsb' 8 8, (frameCheck f).extractLsb' 0 8]

end Sys2Proof.Machine
end

