-- ==== Sys2Proof/Machine/Ops.lean ====
section
/-! DEFINITION. The named operations that the meanings share: updates of the state's parts, the clock and timers, the
insert queues (R7, R8), the transmit frame queues (R176), the delivery queue (R183), the plate store's memory (R107),
entry orders (R60, R141) and rejects (R54). -/

namespace Sys2Proof.Machine

/-! ### Updates of one part of the state -/

def State.setPending (s : State) (x : List Instr) : State := { s with pending := x }
def State.setClock (s : State) (x : Clock) : State := { s with clock := x }
def State.setLines (s : State) (x : Both LineUnit) : State := { s with lines := x }
def State.setTx (s : State) (x : Both Transmitter) : State := { s with tx := x }
def State.setRing (s : State) (x : RingCounters) : State := { s with ring := x }
def State.setStation (s : State) (x : Station) : State := { s with station := x }
def State.setCall (s : State) (x : CallUnit) : State := { s with call := x }
def State.setToll (s : State) (x : TollUnit) : State := { s with toll := x }
def State.setPlates (s : State) (x : PlateStore) : State := { s with plates := x }
def State.setSigns (s : State) (x : Vector Sign 4) : State := { s with signs := x }
def State.setBrightness (s : State) (x : Nat) : State := { s with brightness := x }
def State.setResponses (s : State) (x : Vector Response 16) : State := { s with responses := x }
def State.setWeather (s : State) (x : Weather) : State := { s with weather := x }
def State.setPorts (s : State) (x : Vector PortUnit 4) : State := { s with ports := x }
def State.setRx (s : State) (x : Vector (Option PartFrame) 4) : State := { s with rx := x }
def State.setPortCounts (s : State) (x : PortCounters) : State := { s with portCounts := x }
def State.setCentre (s : State) (x : CentrePort) : State := { s with centre := x }

/-- Change the line unit of one line. -/
def modLine (l : Line) (f : LineUnit → LineUnit) (s : State) : State :=
  s.setLines (s.lines.set l (f (s.lines.get l)))

/-- Change the transmitter of one line. -/
def modTx (l : Line) (f : Transmitter → Transmitter) (s : State) : State :=
  s.setTx (s.tx.set l (f (s.tx.get l)))

/-- Change the call record of one port. -/
def modPhone (p : Port) (f : Phone → Phone) (s : State) : State :=
  s.setCall { s.call with phones := s.call.phones.set p (f s.call.phones[p]) }

/-- Change the sign state of one port. -/
def modSign (p : Port) (f : Sign → Sign) (s : State) : State := s.setSigns (s.signs.set p (f s.signs[p]))

/-- Change one port unit. -/
def modPort (p : Port) (f : PortUnit → PortUnit) (s : State) : State := s.setPorts (s.ports.set p (f s.ports[p]))

/-- Do something for each port, the lower port first. -/
def forPorts (f : Port → State → State) (s : State) : State := f 3 (f 2 (f 1 (f 0 s)))

/-! ### The clock -/

/-- The present moment. -/
def State.now (s : State) : Time := s.clock.now

/-- A timer that expires at `t` has run out, so the present moment is `t` at the earliest (notes/assumptions/2.md). -/
def reach (t : Time) (s : State) : State := s.setClock { s.clock with now := max s.clock.now t }

/-- R41: the start counter, which advances once per microsecond and which no reset sets. -/
def startCounter (s : State) : BitVec 16 := s.clock.counterBase + BitVec.ofNat 16 (s.clock.now / Config.microsecond)

/-! ### What the station is -/

/-- R30: the fold state that two line states give; PROVING counts as not UP. -/
def foldOf (u d : LineState) : Fold :=
  if u = .up then (if d = .up then .normal else .foldD) else (if d = .up then .foldU else .isolated)

/-- R30: the fold state of the station. -/
def State.fold (s : State) : Fold := foldOf s.lines.u.state s.lines.d.state

/-- The station's own number; a station in STRAP-FAULT has none (R41, R43). -/
def State.own (s : State) : Option Nat :=
  if validNumber s.straps.number then some s.straps.number.toNat else none

/-- The number the station writes as source. -/
def State.ownByte (s : State) : Byte := s.straps.number.setWidth 8

/-- The phase of the station (R41). -/
def State.phase (s : State) : Phase := s.station.phase

/-- The profile a port is honoured with (R175). -/
def State.profile (s : State) (p : Port) : Profile := s.straps.profiles[p]

/-- The lowest port with a profile. -/
def State.portOf (s : State) (k : Profile) : Option Port :=
  if s.profile 0 = k then some 0
  else if s.profile 1 = k then some 1
  else if s.profile 2 = k then some 2
  else if s.profile 3 = k then some 3
  else none

/-- A centre station: one with a port strapped CENTRE (00_scope.md, Terms). -/
def State.isCentre (s : State) : Bool := (s.portOf .centre).isSome

/-- A port is in service: its link is UP, so it is not in pass mode either (R161). -/
def State.inService (s : State) (p : Port) : Bool := decide (s.ports[p].link = .up)

/-- The heard entry of a station number. -/
def State.heardOf (s : State) (station : Nat) : HeardEntry := s.station.heard[station]?.getD absentEntry

/-- A station has a present heard entry with the centre flag set (R52, R102, R110). -/
def State.centreHeard (s : State) (station : Nat) : Bool :=
  (s.heardOf station).present && (s.heardOf station).centre

/-- R49: the selected centre. -/
def State.selectedCentre (s : State) : Option Nat := (List.range' 1 60).find? (fun n => s.centreHeard n)

/-- R49: the toll centre. -/
def State.tollCentre (s : State) : Option Nat :=
  (List.range' 1 60).find? (fun n => (s.heardOf n).present && (s.heardOf n).tollReceive)

/-- R51: the mask of a group. -/
def State.groupMask (s : State) (g : Fin 32) : BitVec 4 := s.station.groups[g]

/-- A port is in a mask (R51: bit n names port n). -/
def inMask (mask : BitVec 4) (p : Port) : Bool := mask.getLsbD p.val

/-! ### Counters and rejects -/

/-- Count on the ring counters. -/
def modRing (f : RingCounters → RingCounters) (s : State) : State := s.setRing (f s.ring)

/-- Count on the toll counters. -/
def modTollCounters (f : TollCounters → TollCounters) (s : State) : State :=
  s.setToll { s.toll with counters := f s.toll.counters }

/-- Count on the port counters. -/
def modPortCounts (f : PortCounters → PortCounters) (s : State) : State := s.setPortCounts (f s.portCounts)

/-- R54: one reject. -/
def reject (r : RejectReason) (s : State) : State :=
  s.setStation { s.station with rejects := bump s.station.rejects, lastReject := r }

/-! ### Kinds, classes and the insert queues -/

/-! The fifteen kinds (chapter 1, table of kinds). -/

def kVoice : Byte := 1
def kClaim : Byte := 2
def kRelease : Byte := 3
def kHold : Byte := 4
def kHello : Byte := 5
def kStatus : Byte := 6
def kCommand : Byte := 7
def kTollRec : Byte := 8
def kTollAck : Byte := 9
def kTollSync : Byte := 10
def kTollDown : Byte := 11
def kPlate : Byte := 12
def kWxReport : Byte := 13
def kWxAlarm : Byte := 14
def kPass : Byte := 15

/-- The destination code of all stations (00_scope.md, Destination codes). -/
def allStations : Byte := 255

/-- R5: the class of a cell, read from its kind by the table of kinds. -/
def classOf (kind : Byte) : CellClass :=
  if kind = kVoice then .v
  else if kind = kStatus ∨ kind = kTollRec ∨ kind = kTollDown ∨ kind = kPlate ∨ kind = kWxReport ∨ kind = kPass then .b
  else .c

/-- The queue of a class. -/
def Queues.get (q : Queues) : CellClass → List Cell
  | .v => q.v
  | .c => q.c
  | .b => q.b

/-- The queues with one class's queue replaced. -/
def Queues.set (q : Queues) (k : CellClass) (x : List Cell) : Queues :=
  match k with
  | .v => { q with v := x }
  | .c => { q with c := x }
  | .b => { q with b := x }

/-- R6: the capacity of an insert queue. -/
def insertCapacity : CellClass → Nat
  | .v => 16
  | .c => 32
  | .b => 32

/-- R6: the capacity of a transit queue. -/
def transitCapacity : CellClass → Nat
  | .v => 16
  | .c => 32
  | .b => 64

/-- R7: the transmitter whose insert queues a fold state names. -/
def insertLine : Fold → Line
  | .foldD => .u
  | _ => .d

/-- The insert queue of a class that R7 names now. -/
def State.insertQueue (s : State) (k : CellClass) : List Cell := (s.tx.get (insertLine s.fold)).insert.get k

/-- R7: that queue has room. -/
def State.insertRoom (s : State) (k : CellClass) : Bool := decide ((s.insertQueue k).length < insertCapacity k)

/-- A payload filled up with zero bytes to 56 (R4: unused bytes are sent as 0). -/
def padded (bytes : List Byte) : List Byte := (bytes ++ List.replicate 56 0).take 56

/-- R7: the cell a unit originates: own number as source, 127 hops left, a fresh check. -/
def originate (kind dest : Byte) (payload : List Byte) (s : State) : Cell :=
  sealCell { kind := kind, source := s.ownByte, dest := dest, hops := Config.firstHops, payload := padded payload,
             check := 0 }

/-- Put a cell at the tail of an insert queue of one transmitter. -/
def enqueueInsert (l : Line) (c : Cell) (s : State) : State :=
  modTx l (fun t => { t with insert := t.insert.set (classOf c.kind) (t.insert.get (classOf c.kind) ++ [c]) }) s

/-- R7: offer a cell to the insert queue of its class; the flag says whether it was accepted. A refused cell is not
counted here. -/
def offer (kind dest : Byte) (payload : List Byte) (s : State) : State × Bool :=
  if s.insertRoom (classOf kind) then (enqueueInsert (insertLine s.fold) (originate kind dest payload s) s, true)
  else (s, false)

/-- R7: one more insert drop. -/
def insertDrop (s : State) : State := modRing (fun r => { r with insertDrops := bump r.insertDrops }) s

/-- R7: offer a cell whose refusal is an insert drop. -/
def offerCounted (kind dest : Byte) (payload : List Byte) (s : State) : State :=
  match offer kind dest payload s with
  | (s', true) => s'
  | (_, false) => insertDrop s

/-- R8: withdraw from both transmitters' C insert queues the first cell that satisfies `f`; the flag says whether one
was found. -/
def withdrawC (f : Cell → Bool) (s : State) : State × Bool :=
  if s.tx.u.insert.c.any f then
    (modTx .u (fun t => { t with insert := { t.insert with c := t.insert.c.eraseP f } }) s, true)
  else if s.tx.d.insert.c.any f then
    (modTx .d (fun t => { t with insert := { t.insert with c := t.insert.c.eraseP f } }) s, true)
  else (s, false)

/-! ### Frames on the tributary ports (R176) -/

/-- R176: a frame offered to a port: it starts at once when nothing is being sent; else it waits, or a full queue drops
it. -/
def sendFrame (p : Port) (f : Frame) (s : State) : State :=
  if s.ports[p].sending.isNone then
    modPort p (fun u => { u with sending := some ⟨f, false⟩, lastSent := s.now }) s
  else if s.ports[p].queue.length < Config.portQueueSize then
    modPort p (fun u => { u with queue := u.queue ++ [f] }) s
  else modPortCounts (fun c => { c with frameDrops := bump c.frameDrops }) s

/-- A frame of a service: sent only while the port is in service (notes/assumptions/9.md). -/
def sendService (p : Port) (f : Frame) (s : State) : State := if s.inService p then sendFrame p f s else s

/-- Frames of a service, in order. -/
def sendServices (p : Port) : List Frame → State → State
  | [], s => s
  | f :: rest, s => sendServices p rest (sendService p f s)

/-- R176, R183: when nothing is being sent, the head of the transmit frame queue starts, else, on a CENTRE port that is
UP, the head of the delivery queue. -/
def startNext (p : Port) (s : State) : State :=
  if s.ports[p].sending.isSome then s
  else
    match s.ports[p].queue with
    | f :: rest => modPort p (fun u => { u with queue := rest, sending := some ⟨f, false⟩, lastSent := s.now }) s
    | [] =>
      if s.profile p = .centre ∧ s.ports[p].link = .up then
        match s.centre.delivery with
        | f :: rest =>
          modPort p (fun u => { u with sending := some ⟨f, true⟩, lastSent := s.now })
            (s.setCentre { s.centre with delivery := rest })
        | [] => s
      else s

/-! ### The delivery queue (R183) -/

/-- The type code of a TOLL-RECORD frame (chapter 10's frame table). -/
def tollRecordType : Byte := 81

/-- The queue without its oldest frame that is not a TOLL-RECORD. -/
def dropOldestCell (q : List Frame) : List Frame := q.eraseP (fun f => decide (f.type ≠ tollRecordType))

/-- The queue holds a frame that is not a TOLL-RECORD. -/
def holdsCell (q : List Frame) : Bool := q.any (fun f => decide (f.type ≠ tollRecordType))

/-- R183: a delivery drop. -/
def deliveryDrop (s : State) : State := modPortCounts (fun c => { c with deliveryDrops := bump c.deliveryDrops }) s

/-- R183: place a frame in the delivery queue of a centre station, making room in a full queue. -/
def placeDelivery (f : Frame) (s : State) : State :=
  match s.portOf .centre with
  | none => s
  | some p =>
    if s.centre.delivery.length < Config.deliverySize then
      startNext p (s.setCentre { s.centre with delivery := s.centre.delivery ++ [f] })
    else if holdsCell s.centre.delivery then
      deliveryDrop (s.setCentre { s.centre with delivery := dropOldestCell s.centre.delivery ++ [f] })
    else deliveryDrop s

/-! ### Memory of the plate store (R107) -/

/-- A byte of the plate store; an unlisted byte reads 0 (notes/assumptions/12.md). -/
def memRead : List Host.Cell → Nat → Byte
  | [], _ => 0
  | (k, b) :: rest, a => if k = a then b else memRead rest a

/-- Write a byte, keeping the canonical form. -/
def memWrite : List Host.Cell → Nat → Byte → List Host.Cell
  | [], a, b => if b = 0 then [] else [(a, b)]
  | (k, x) :: rest, a, b =>
    if a < k then (if b = 0 then (k, x) :: rest else (a, b) :: (k, x) :: rest)
    else if a = k then (if b = 0 then rest else (a, b) :: rest)
    else (k, x) :: memWrite rest a b

/-- Write bytes at successive addresses. -/
def memWriteAll : List Host.Cell → Nat → List Byte → List Host.Cell
  | m, _, [] => m
  | m, a, b :: rest => memWriteAll (memWrite m a b) (a + 1) rest

/-- Addresses strictly rise from `lo` on and no entry holds 0. -/
def memSorted : Nat → List Host.Cell → Bool
  | _, [] => true
  | lo, (k, b) :: rest => decide (lo ≤ k) && decide (b ≠ 0) && memSorted (k + 1) rest

/-- The canonical form of the memory: addresses strictly rising, no entry equal to what an unlisted byte reads. -/
def memWf (m : List Host.Cell) : Bool := memSorted 0 m

/-! ### Entry orders (R60, R141) -/

/-- R60, R141: when an advance of the count would set it 32768 after some order in use, the orders in use are first
renumbered 0, 1, 2, … in their present order, earliest first, and the count is set to the highest. The answer is the
new order of each order in use, and the new count. -/
def advanceOrder (count : BitVec 16) (orders : List (BitVec 16)) : (BitVec 16 → BitVec 16) × BitVec 16 :=
  if orders.any (fun o => decide (count + 1 - o = 32768)) then
    (fun o => BitVec.ofNat 16 (orders.countP (fun o' => isBefore o' o)), BitVec.ofNat 16 orders.length)
  else (id, count + 1)

end Sys2Proof.Machine
end

