-- ==== Sys2Proof/Machine/Operands.lean ====
section
/-! DEFINITION. The contents of cell payloads and of tributary port frames as bytes, and the fields of a layer record.
The tables of TOLL-REC (R92), TOLL-ACK (R98), TOLL-DOWN (R102), PLATE (R110), WX-REPORT (R170) and STATUS (R184) give sizes
and order, and R119 gives the layer record; the other layouts are the model's, fields in the order the rule lists them
(DESIGN CHOICE, notes/assumptions/5.md for cells, 6.md for frames). -/

namespace Sys2Proof.Machine

/-! ### Bytes, most significant first (00_scope.md, Bit and byte order) -/

/-- Byte `i` of a payload; a byte past its end counts as 0. -/
def byteAt (bytes : List Byte) (i : Nat) : Byte := bytes.getD i 0

/-- The 2-byte field at `i`. -/
def wordAt (bytes : List Byte) (i : Nat) : BitVec 16 := byteAt bytes i ++ byteAt bytes (i + 1)

/-- The two bytes of a 16-bit field. -/
def wordBytes (w : BitVec 16) : List Byte := [w.extractLsb' 8 8, w.extractLsb' 0 8]

/-- The three bytes of a 24-bit field. -/
def tripleBytes (w : BitVec 24) : List Byte := [w.extractLsb' 16 8, w.extractLsb' 8 8, w.extractLsb' 0 8]

/-- A flag as a byte. -/
def flagByte (b : Bool) : Byte := if b then 1 else 0

/-- The flag in byte `i`: its lowest bit. -/
def flagAt (bytes : List Byte) (i : Nat) : Bool := (byteAt bytes i).getLsbD 0

/-- A small number as a byte. -/
def natByte (n : Nat) : Byte := BitVec.ofNat 8 n

/-- A circuit number 0 to 15 in byte `i`: its low four bits. -/
def circuitAt (bytes : List Byte) (i : Nat) : Fin 16 := Fin.ofNat 16 (byteAt bytes i).toNat

/-- A port number 0 to 3 in byte `i`: its low two bits. -/
def portAt (bytes : List Byte) (i : Nat) : Port := Fin.ofNat 4 (byteAt bytes i).toNat

/-- A call priority in byte `i`: its low two bits. -/
def priorityAt (bytes : List Byte) (i : Nat) : Nat := (byteAt bytes i).toNat % 4

/-- The code of a fold state as a byte (R30's order). -/
def foldByte (f : Fold) : Byte := (foldCode f).setWidth 8

/-- The fold state in byte `i`: its low two bits. -/
def foldAt (bytes : List Byte) (i : Nat) : Fold :=
  if (byteAt bytes i).extractLsb' 0 2 = 0 then .normal
  else if (byteAt bytes i).extractLsb' 0 2 = 1 then .foldD
  else if (byteAt bytes i).extractLsb' 0 2 = 2 then .foldU
  else .isolated

/-- The code of a profile (R175). -/
def profileByte : Profile → Byte
  | .none => 0
  | .phone => 1
  | .sign => 2
  | .weather => 3
  | .toll => 4
  | .centre => 5

/-! ### Cell payloads -/

/-- HELLO (R46). -/
structure Hello where
  stamp : BitVec 16
  fold : Fold
  restart : Bool
  centre : Bool
  tollReceive : Bool
  duplicate : Bool
  profiles : Vector Byte 4
  deriving DecidableEq, Repr

def helloBytes (h : Hello) : List Byte :=
  wordBytes h.stamp ++ [foldByte h.fold, flagByte h.restart, flagByte h.centre, flagByte h.tollReceive,
    flagByte h.duplicate, h.profiles[0], h.profiles[1], h.profiles[2], h.profiles[3]]

def readHello (b : List Byte) : Hello :=
  { stamp := wordAt b 0, fold := foldAt b 2, restart := flagAt b 3, centre := flagAt b 4, tollReceive := flagAt b 5,
    duplicate := flagAt b 6, profiles := #v[byteAt b 7, byteAt b 8, byteAt b 9, byteAt b 10] }

/-- CLAIM (R62). -/
structure Claim where
  circuit : Fin 16
  priority : Nat
  port : Port
  preempt : Bool
  ring : Bool
  target : Nat
  number : BitVec 4
  beaten : Bool
  deriving DecidableEq, Repr

def claimBytes (c : Claim) : List Byte :=
  [natByte c.circuit.val, natByte c.priority, natByte c.port.val, flagByte c.preempt, flagByte c.ring,
   natByte c.target, c.number.setWidth 8, flagByte c.beaten]

def readClaim (b : List Byte) : Claim :=
  { circuit := circuitAt b 0, priority := priorityAt b 1, port := portAt b 2, preempt := flagAt b 3,
    ring := flagAt b 4, target := (byteAt b 5).toNat, number := (byteAt b 6).extractLsb' 0 4, beaten := flagAt b 7 }

/-- R20, R64: the payload of a CLAIM with its beaten flag set. -/
def markBeaten (payload : List Byte) : List Byte := payload.set 7 (byteAt payload 7 ||| 1)

/-- RELEASE (R74): circuit and holder port. -/
def releaseBytes (circuit : Fin 16) (port : Port) : List Byte := [natByte circuit.val, natByte port.val]

/-- HOLD (R71): a count, then circuit, priority and holder port of each listed circuit. -/
def holdBytes (held : List (Fin 16 × Nat × Port)) : List Byte :=
  natByte held.length :: held.flatMap (fun h => [natByte h.1.val, natByte h.2.1, natByte h.2.2.val])

/-- The circuits a HOLD lists, 16 at the most (R71). -/
def readHold (b : List Byte) : List (Fin 16 × Nat × Port) :=
  (List.range (min (byteAt b 0).toNat 16)).map
    (fun i => (circuitAt b (1 + 3 * i), priorityAt b (2 + 3 * i), portAt b (3 + 3 * i)))

/-- VOICE (R82): circuit, sequence and 40 samples. -/
def voiceBytes (circuit : Fin 16) (seq : BitVec 8) (voice : List Byte) : List Byte := natByte circuit.val :: seq :: voice

/-- The samples of a VOICE cell. -/
def readVoice (b : List Byte) : List Byte := (b.drop 2).take 40

/-- TOLL-REC (R92) and TOLL-DOWN (R102): number, body length, body. -/
structure TollBody where
  number : BitVec 16
  length : Nat
  body : List Byte
  deriving DecidableEq, Repr

def tollBodyBytes (number : BitVec 16) (body : List Byte) : List Byte :=
  wordBytes number ++ natByte body.length :: body

/-- The fields of a TOLL-REC or TOLL-DOWN; a body longer than the payload is cut at its end (notes/assumptions/40.md). -/
def readTollBody (b : List Byte) : TollBody :=
  { number := wordAt b 0, length := (byteAt b 2).toNat, body := (b.drop 3).take (byteAt b 2).toNat }

/-- TOLL-ACK (R98): the answer codes. -/
def ackPlain : Byte := 1
def ackSync : Byte := 2
def ackUnsynced : Byte := 3

/-- TOLL-ACK (R98): answer and number. -/
def ackBytes (answer : Byte) (number : BitVec 16) : List Byte := answer :: wordBytes number

/-- PLATE (R110). -/
structure PlatePart where
  plate : Nat
  index : Nat
  parts : Nat
  width : Nat
  height : Nat
  depth : Nat
  length : Nat
  data : List Byte
  deriving DecidableEq, Repr

def readPlatePart (b : List Byte) : PlatePart :=
  { plate := (byteAt b 0).toNat, index := (byteAt b 1).toNat, parts := (byteAt b 2).toNat,
    width := (byteAt b 3).toNat, height := (byteAt b 4).toNat, depth := (byteAt b 5).toNat,
    length := (byteAt b 6).toNat, data := (b.drop 7).take (byteAt b 6).toNat }

/-- PASS (R180): port, data length, data. -/
def passBytes (p : Port) (data : List Byte) : List Byte := natByte p.val :: natByte data.length :: data

/-! ### COMMAND cells (chapter 3, "Commands") -/

/-- What a COMMAND cell asks for. The first operand of a port command is its target port. -/
inductive Command where
  | groupSet (group mask : Byte)
  | callFloor (floor : Byte)
  | callPhone (target priority : Byte)
  | plateDrop (plate : Byte)
  | plateDropAll
  | pageSet (target : Byte) (params : PageParams)
  | showPage (target page priority : Byte)
  | signRestore (target : Byte)
  | responseSet (params : ResponseParams)
  | responseClear (index : Byte)
  | wxRate (target interval : Byte)
  | wxLimits (target : Byte) (params : LimitParams)
  | passOpen (target idle : Byte)
  | passClose (target : Byte)
  | restart
  /-- A code outside 1 to 15 (R52). -/
  | unknown (code : Byte)
  deriving DecidableEq, Repr

/-- The layer record at byte `i` (R119). -/
def layerAt (b : List Byte) (i : Nat) : LayerRec :=
  { plate := byteAt b i, x := byteAt b (i + 1), y := byteAt b (i + 2), colours := byteAt b (i + 3),
    combine := byteAt b (i + 4), modes := byteAt b (i + 5), clear := byteAt b (i + 6) }

/-- R120: the parameters of PAGE-SET from byte 2 on; a cell has room for seven records. -/
def readPageParams (b : List Byte) : PageParams :=
  { page := byteAt b 2, start := flagAt b 3, finish := flagAt b 4, first := byteAt b 5, n := byteAt b 6,
    records := (List.range (min (byteAt b 6).toNat 7)).map (fun i => layerAt b (7 + 7 * i)) }

/-- R144: the parameters of RESPONSE-SET from byte 2 on. Every condition kind takes four condition bytes, used or not, so
that the mask always stands at byte 10: the model's choice (notes/assumptions/5.md). -/
def readResponseParams (b : List Byte) : ResponseParams :=
  { index := byteAt b 2, enable := flagAt b 3, mode := byteAt b 4, kind := byteAt b 5, cond1 := byteAt b 6,
    cond2 := byteAt b 7, cond3 := byteAt b 8, cond4 := byteAt b 9, mask := byteAt b 10, page := byteAt b 11,
    priority := byteAt b 12, linger := byteAt b 13 }

/-- R168: the parameters of WX-LIMITS from byte 2 on: the alarm kind in one byte, each threshold in two, which is the
model's choice (notes/assumptions/5.md). -/
def readLimitParams (b : List Byte) : LimitParams :=
  { kind := byteAt b 2, level1 := wordAt b 3, level2 := wordAt b 5, spread1 := wordAt b 7, spread2 := wordAt b 9 }

/-- A COMMAND payload: command code, target port, then the parameters in the order of the command's rule. -/
def readCommand (b : List Byte) : Command :=
  if byteAt b 0 = 1 then .groupSet (byteAt b 2) (byteAt b 3)
  else if byteAt b 0 = 2 then .callFloor (byteAt b 2)
  else if byteAt b 0 = 3 then .callPhone (byteAt b 1) (byteAt b 2)
  else if byteAt b 0 = 4 then .plateDrop (byteAt b 2)
  else if byteAt b 0 = 5 then .plateDropAll
  else if byteAt b 0 = 6 then .pageSet (byteAt b 1) (readPageParams b)
  else if byteAt b 0 = 7 then .showPage (byteAt b 1) (byteAt b 2) (byteAt b 3)
  else if byteAt b 0 = 8 then .signRestore (byteAt b 1)
  else if byteAt b 0 = 9 then .responseSet (readResponseParams b)
  else if byteAt b 0 = 10 then .responseClear (byteAt b 2)
  else if byteAt b 0 = 11 then .wxRate (byteAt b 1) (byteAt b 2)
  else if byteAt b 0 = 12 then .wxLimits (byteAt b 1) (readLimitParams b)
  else if byteAt b 0 = 13 then .passOpen (byteAt b 1) (byteAt b 2)
  else if byteAt b 0 = 14 then .passClose (byteAt b 1)
  else if byteAt b 0 = 15 then .restart
  else .unknown (byteAt b 0)

/-! ### The bytes of a payload that its kind leaves unused (R4) -/

/-- How many bytes of a COMMAND payload the command code's fields reach to, by the code 0 to 15: code, target port and
parameters. A code outside 1 to 15 names no fields, so all 56 bytes count as used, the model's choice
(notes/assumptions/41.md). -/
def commandLength (b : List Byte) : Nat :=
  ([56, 4, 3, 3, 3, 2, 7 + 7 * min (byteAt b 6).toNat 7, 4, 2, 14, 3, 3, if byteAt b 2 = 2 ∨ byteAt b 2 = 3 then 7 else 11,
    3, 2, 2] : List Nat).getD (byteAt b 0).toNat 56

/-- R145: condition byte `k`, from 0, of a RESPONSE-SET is no parameter of its condition kind: the fourth of CALL-RANGE,
all four of NO-CENTRE (notes/assumptions/5.md). -/
def conditionUnused (kind : Byte) (k : Nat) : Bool := decide (kind = 3) || (decide (kind = 1) && decide (k = 3))

/-- R4: byte `i` of a payload is one that its kind uses, for the five kinds of the centre equipment (R182). The body of a
TOLL-DOWN and the data of a PLATE or PASS are 48 bytes at the most. -/
def usesByte (kind : Byte) (b : List Byte) (i : Nat) : Bool :=
  if kind = kVoice then decide (i < 42)
  else if kind = kCommand then
    decide (i < commandLength b) &&
      !(decide (byteAt b 0 = 9) && decide (6 ≤ i ∧ i < 10) && conditionUnused (byteAt b 5) (i - 6))
  else if kind = kTollDown then decide (i < 3 + min (byteAt b 2).toNat 48)
  else if kind = kPlate then decide (i < 7 + min (byteAt b 6).toNat 48)
  else if kind = kPass then decide (i < 2 + min (byteAt b 1).toNat 48)
  else true

/-- R4: a payload as it is sent, with the bytes that its kind leaves unused as 0. -/
def clearUnused (kind : Byte) (b : List Byte) : List Byte := b.mapIdx (fun i x => if usesByte kind b i then x else 0)

/-! ### Frames from the equipment (chapter 10's frame table) -/

/-- A frame the node receives. A key and a picture are the bytes that came (notes/assumptions/38.md); an IDENT has a
width and a height or none (notes/assumptions/6.md). -/
inductive RxFrame where
  | ident (kind : Byte) (size : Option (Byte × Byte))
  | alive
  | offHook (key : Byte)
  | onHook
  | answer
  | samples (voice : List Byte)
  | ready
  | busy
  | rowsTaken (pic : Byte)
  | shown (pic : Byte) (checks : List (BitVec 16))
  | reading (values : Reading)
  | record (body : List Byte)
  | cell (bytes : List Byte)
  deriving DecidableEq, Repr

/-- The call priority of a key (R55). -/
def keyPriority : Key → Nat
  | .service => 1
  | .sos => 2
  | .fire => 3

/-- The code of a key is its call priority: the model's choice, R77 gives none (notes/assumptions/38.md). -/
def keyByte (k : Key) : Byte := natByte (keyPriority k)

/-- The key of a byte; one of another value names none (notes/assumptions/38.md). -/
def readKey (b : Byte) : Option Key :=
  if b = 1 then some .service else if b = 2 then some .sos else if b = 3 then some .fire else none

def picByte : Pic → Byte
  | .a => 0
  | .b => 1

def readPic (b : Byte) : Option Pic := if b = 0 then some .a else if b = 1 then some .b else none

/-- 16-bit numbers as bytes. -/
def wordsBytes (ws : List (BitVec 16)) : List Byte := ws.flatMap wordBytes

/-- Bytes as 16-bit numbers; an odd byte count holds none. -/
def readWords : List Byte → Option (List (BitVec 16))
  | [] => some []
  | [_] => none
  | hi :: lo :: rest => (readWords rest).map ((hi ++ lo) :: ·)

/-- A READING value: a present mark, then 4 bytes in two's complement, most significant first. Chapter 9 gives neither
width nor coding: both are the model's choice (notes/assumptions/6.md), and so is the mark's place. -/
def valueBytes : Option (BitVec 32) → List Byte
  | none => [0, 0, 0, 0, 0]
  | some v => [1, v.extractLsb' 24 8, v.extractLsb' 16 8, v.extractLsb' 8 8, v.extractLsb' 0 8]

/-- The READING value at byte `i`, read by its present mark and four bytes (notes/assumptions/6.md). -/
def valueAt (b : List Byte) (i : Nat) : Option (BitVec 32) :=
  if flagAt b i then some (byteAt b (i + 1) ++ byteAt b (i + 2) ++ byteAt b (i + 3) ++ byteAt b (i + 4)) else none

/-- A coded READING value: a present mark, then the code. -/
def codeBytes : Option Byte → List Byte
  | none => [0, 0]
  | some c => [1, c]

def codeAt (b : List Byte) (i : Nat) : Option Byte := if flagAt b i then some (byteAt b (i + 1)) else none

def readingBytes (r : Reading) : List Byte :=
  valueBytes r.numeric[0] ++ valueBytes r.numeric[1] ++ valueBytes r.numeric[2] ++ valueBytes r.numeric[3]
    ++ valueBytes r.numeric[4] ++ valueBytes r.numeric[5] ++ valueBytes r.numeric[6]
    ++ codeBytes r.surface ++ codeBytes r.precip

def readReading (b : List Byte) : Reading :=
  { numeric := #v[valueAt b 0, valueAt b 5, valueAt b 10, valueAt b 15, valueAt b 20, valueAt b 25, valueAt b 30],
    surface := codeAt b 35, precip := codeAt b 37 }

/-- A received frame as type code and payload. -/
def rxFrame : RxFrame → Frame
  | .ident k none => ⟨1, [k]⟩
  | .ident k (some (w, h)) => ⟨1, [k, w, h]⟩
  | .alive => ⟨2, []⟩
  | .offHook key => ⟨16, [key]⟩
  | .onHook => ⟨17, []⟩
  | .answer => ⟨18, []⟩
  | .samples v => ⟨19, v⟩
  | .ready => ⟨37, []⟩
  | .busy => ⟨38, []⟩
  | .rowsTaken p => ⟨39, [p]⟩
  | .shown p cs => ⟨40, p :: wordsBytes cs⟩
  | .reading r => ⟨49, readingBytes r⟩
  | .record body => ⟨64, body⟩
  | .cell bytes => ⟨80, bytes⟩

/-- R177: the IDENT of equipment of this kind; a sign's carries its width and height. -/
def identOf (kind width height : Byte) : RxFrame :=
  .ident kind (if kind = profileByte .sign then some (width, height) else none)

/-- The profile that receives a frame from its equipment; `none`: every profile does. -/
def rxProfile : RxFrame → Option Profile
  | .ident _ _ => none
  | .alive => none
  | .offHook _ => some .phone
  | .onHook => some .phone
  | .answer => some .phone
  | .samples _ => some .phone
  | .ready => some .sign
  | .busy => some .sign
  | .rowsTaken _ => some .sign
  | .shown _ _ => some .sign
  | .reading _ => some .weather
  | .record _ => some .toll
  | .cell _ => some .centre

/-- R176: the type is one that the port's profile receives. -/
def receives (profile : Profile) (f : RxFrame) : Bool :=
  match rxProfile f with
  | none => true
  | some k => decide (k = profile)

/-- The frame that a type code and payload spell, if the type is known and the length is one it allows (R176: a RECORD
and a CELL pass the length test at any length). A value that no rule names is no ground to refuse a frame (notes/assumptions/38.md). -/
def readFrame (f : Frame) : Option RxFrame :=
  if f.type = 1 then
    match f.payload with
    | [k] => some (.ident k none)
    | [k, w, h] => some (.ident k (some (w, h)))
    | _ => none
  else if f.type = 2 then (if f.payload = [] then some .alive else none)
  else if f.type = 16 then
    match f.payload with
    | [k] => some (.offHook k)
    | _ => none
  else if f.type = 17 then (if f.payload = [] then some .onHook else none)
  else if f.type = 18 then (if f.payload = [] then some .answer else none)
  else if f.type = 19 then (if f.payload.length = 40 then some (.samples f.payload) else none)
  else if f.type = 37 then (if f.payload = [] then some .ready else none)
  else if f.type = 38 then (if f.payload = [] then some .busy else none)
  else if f.type = 39 then
    match f.payload with
    | [p] => some (.rowsTaken p)
    | _ => none
  else if f.type = 40 then
    match f.payload with
    | p :: rest => (readWords rest).map (.shown p)
    | [] => none
  else if f.type = 49 then (if f.payload.length = 39 then some (.reading (readReading f.payload)) else none)
  else if f.type = 64 then some (.record f.payload)
  else if f.type = 80 then some (.cell f.payload)
  else none

/-! ### Frames to the equipment (chapter 10's frame table) -/

/-- IDENT of the node (R177): strap station number, port number, profile. -/
def identFrame (number : BitVec 6) (p : Port) (profile : Profile) : Frame :=
  ⟨1, [number.setWidth 8, natByte p.val, profileByte profile]⟩
def aliveFrame : Frame := ⟨2, []⟩

/-- The code of an indication. R76 gives none: the model numbers the names of its table from 0
(notes/assumptions/38.md). -/
def indicationByte : Indication → Byte
  | .clear => 0
  | .preempted => 1
  | .reconnecting => 2
  | .noCentre => 3
  | .waiting => 4
  | .ringbackNone => 5
  | .ring => 6
  | .connected => 7

def indicateFrame (i : Indication) : Frame := ⟨20, [indicationByte i]⟩
def playFrame (voice : List Byte) : Frame := ⟨21, voice⟩
/-- R84: silence to the phone; the sample value is free (notes/assumptions/22.md). -/
def silenceFrame : Frame := ⟨21, List.replicate 40 Config.silenceSample⟩
def offerFrame (p : Pic) (w h : Nat) : Frame := ⟨32, [picByte p, natByte w, natByte h]⟩
def rowFrame (p : Pic) (row : Nat) (pixels : List (BitVec 3)) : Frame :=
  ⟨33, picByte p :: natByte row :: pixels.map (fun c => c.setWidth 8)⟩
/-- SWITCH: ALTERNATE for a flashing result, else STEADY (R151). The codes 1 and 0 of the mode are the model's
(notes/assumptions/38.md). -/
def switchFrame (alternate : Bool) : Frame := ⟨34, [flagByte alternate]⟩
def blankFrame : Frame := ⟨35, []⟩
def brightFrame (level : Nat) : Frame := ⟨36, [natByte level]⟩
def readFrameOut : Frame := ⟨48, []⟩
def takenFrame (n : BitVec 16) : Frame := ⟨65, wordBytes n⟩
def tollBusyFrame : Frame := ⟨66, []⟩
def rejectedFrame : Frame := ⟨67, []⟩
def deliveredFrame (n : BitVec 16) : Frame := ⟨68, wordBytes n⟩
def downMsgFrame (centre : Nat) (k : BitVec 16) (body : List Byte) : Frame := ⟨69, natByte centre :: wordBytes k ++ body⟩
def gapFrame (centre : Nat) (first last : BitVec 16) : Frame :=
  ⟨70, natByte centre :: wordBytes first ++ wordBytes last⟩
/-- A CELL frame: bytes 0 to 59 of a ring cell (R182, R183). -/
def cellFrameOf (c : Cell) : Frame := ⟨80, cellBytes c⟩
/-- TOLL-RECORD (R183): source station, journal number, body length and body. -/
def tollRecordFrame (source : Byte) (n : BitVec 16) (body : List Byte) : Frame :=
  ⟨tollRecordType, source :: wordBytes n ++ natByte body.length :: body⟩
def pauseFrame : Frame := ⟨82, []⟩
def goFrame : Frame := ⟨83, []⟩

/-! ### Layer records (R119) -/

/-- Fore colour: byte 3, bits 7 to 5. -/
def recFore (r : LayerRec) : BitVec 3 := r.colours.extractLsb' 5 3
/-- Back colour: byte 3, bits 4 to 2. -/
def recBack (r : LayerRec) : BitVec 3 := r.colours.extractLsb' 2 3
/-- Combine code: byte 4, bits 7 to 4. -/
def recCode (r : LayerRec) : BitVec 4 := r.combine.extractLsb' 4 4
/-- Plane mask: byte 4, bits 2 to 0. -/
def recPlane (r : LayerRec) : BitVec 3 := r.combine.extractLsb' 0 3
/-- Scale: byte 5, bits 7 to 6: 0 NORMAL, 1 DOUBLE, 2 HALF. -/
def recScale (r : LayerRec) : BitVec 2 := r.modes.extractLsb' 6 2
/-- Transparency: byte 5, bits 5 to 4: 0 OPAQUE, 1 SKIP-BACK, 2 SKIP-FORE. -/
def recTransparency (r : LayerRec) : BitVec 2 := r.modes.extractLsb' 4 2
/-- Phase: byte 5, bits 3 to 2: 0 BOTH, 1 A, 2 B. -/
def recPhase (r : LayerRec) : BitVec 2 := r.modes.extractLsb' 2 2
/-- Clear colour: byte 6, bits 2 to 0. -/
def recClearColour (r : LayerRec) : BitVec 3 := r.clear.extractLsb' 0 3

/-- R119: a record whose scale, transparency or phase field holds 3 is invalid. -/
def recValid (r : LayerRec) : Bool := decide (recScale r ≠ 3 ∧ recTransparency r ≠ 3 ∧ recPhase r ≠ 3)

end Sys2Proof.Machine
end

