-- ==== Sys2Proof/Machine/Plates.lean ====
section
/-! DEFINITION. The plate store (chapter 6): blocks, directory, load slots, commits and drops. Each operation answers
the new store and, where a plate was committed or dropped, its number, which is reported to the display controllers. -/

namespace Sys2Proof.Machine

/-- R109: bytes in a row of a plate. -/
def rowBytes (width depth : Nat) : Nat := if depth = 1 then (width + 7) / 8 else (width + 1) / 2

/-- R109: the size of a plate in bytes. -/
def plateSize (width height depth : Nat) : Nat := height * rowBytes width depth

/-- R109: the blocks a plate of this size needs. -/
def blocksNeeded (size : Nat) : Nat := (size + 255) / 256

/-- R110: the parts a plate of this size travels in. -/
def partsNeeded (size : Nat) : Nat := (size + 47) / 48

/-- R110: the data bytes that part `index` of `parts` carries. -/
def partLength (size parts index : Nat) : Nat :=
  if index + 1 = parts then size - Config.partSize * (parts - 1) else Config.partSize

/-- The block map with every block of one owner given to another. -/
def giveBlocks (blocks : Vector Owner 256) (old new : Owner) : Vector Owner 256 :=
  blocks.map (fun o => if o = old then new else o)

/-- R107: the block map with a run of blocks given to an owner. -/
def giveRun (blocks : Vector Owner 256) (first count : Nat) (new : Owner) : Vector Owner 256 :=
  blocks.mapIdx (fun i o => if first ≤ i ∧ i < first + count then new else o)

/-- Block `i` is FREE. -/
def isFree (blocks : Vector Owner 256) (i : Nat) : Bool := decide (blocks[i]? = some .free)

/-- R112: the first block of the lowest-numbered run of `count` consecutive FREE blocks. -/
def findRun (blocks : Vector Owner 256) (count : Nat) : Option Nat :=
  (List.range (257 - count)).find? (fun i => (List.range count).all (fun j => isFree blocks (i + j)))

/-- The directory entry of a plate number. -/
def plateOf (st : PlateStore) (n : Nat) : Option Plate := (st.dir[n]?).join

/-- R111: abandon a slot: its blocks become FREE and it closes. -/
def abandonSlot (k : Fin 2) (st : PlateStore) : PlateStore :=
  { st with blocks := giveBlocks st.blocks (.slot k) .free, slots := st.slots.set k none }

/-- The open slot for a plate number. -/
def slotFor (n : Nat) (st : PlateStore) : Option (Fin 2) :=
  if (st.slots[(0 : Fin 2)].map (·.plate)) = some n then some 0
  else if (st.slots[(1 : Fin 2)].map (·.plate)) = some n then some 1
  else none

/-- R115: commit the load of a slot. -/
def commitSlot (k : Fin 2) (st : PlateStore) : PlateStore × Option Nat :=
  match st.slots[k] with
  | none => (st, none)
  | some sl =>
    ({ st with
        blocks := giveBlocks (giveBlocks st.blocks (.plate sl.plate) .free) (.slot k) (.plate sl.plate)
        dir := st.dir.setIfInBounds sl.plate (some ⟨sl.width, sl.height, sl.depth, sl.first, sl.count⟩)
        slots := st.slots.set k none },
      some sl.plate)

/-- R112 step 1: what a part 0 must satisfy. -/
def partZeroGood (q : PlatePart) : Bool :=
  decide (q.plate ≤ 63 ∧ 1 ≤ q.width ∧ 1 ≤ q.height ∧ q.height ≤ 64 ∧ (q.depth = 1 ∨ q.depth = 3) ∧
    q.parts = partsNeeded (plateSize q.width q.height q.depth) ∧
    q.length = partLength (plateSize q.width q.height q.depth) q.parts 0)

/-- R112 step 2: a slot open for the same plate is abandoned. -/
def abandonSame (n : Nat) (st : PlateStore) : PlateStore :=
  match slotFor n st with
  | some k => { abandonSlot k st with loadBroken := bump st.loadBroken }
  | none => st

/-- R112 step 3: when both slots are still open, the one whose last part was accepted earlier is abandoned. -/
def makeSlotRoom (st : PlateStore) : PlateStore :=
  match st.slots[(0 : Fin 2)], st.slots[(1 : Fin 2)] with
  | some a, some b =>
    { abandonSlot (if a.order < b.order then 0 else 1) st with displaced := bump st.displaced }
  | _, _ => st

/-- R112: the lower-numbered closed slot. -/
def closedSlot (st : PlateStore) : Fin 2 := if st.slots[(0 : Fin 2)].isNone then 0 else 1

/-- R112 step 5: open a load in the blocks from `first` on. -/
def openSlot (q : PlatePart) (first count : Nat) (now : Time) (st : PlateStore) : PlateStore × Option Nat :=
  let k := closedSlot st
  let st' : PlateStore :=
    { st with
      blocks := giveRun st.blocks first count (.slot k)
      mem := memWriteAll st.mem (first * Config.blockSize) q.data
      accepted := st.accepted + 1
      slots := st.slots.set k (some
        { plate := q.plate, width := q.width, height := q.height, depth := q.depth, parts := q.parts, expected := 1,
          first := first, count := count, lastPart := now, order := st.accepted, timer := now + Config.partTime }) }
  if q.parts = 1 then commitSlot k st' else (st', none)

/-- R112: a PLATE cell with part index 0. -/
def loadOpen (q : PlatePart) (now : Time) (st : PlateStore) : PlateStore × Option Nat :=
  if partZeroGood q then
    let st' := makeSlotRoom (abandonSame q.plate st)
    let count := blocksNeeded (plateSize q.width q.height q.depth)
    match findRun st'.blocks count with
    | none => ({ st' with storeFull := bump st'.storeFull }, none)
    | some first => openSlot q first count now st'
  else ({ st with plateRange := bump st.plateRange }, none)

/-- R113: a later part fits its slot. -/
def partFits (q : PlatePart) (sl : Slot) : Bool :=
  decide (q.index = sl.expected ∧ q.width = sl.width ∧ q.height = sl.height ∧ q.depth = sl.depth ∧
    q.parts = sl.parts ∧ q.length = partLength (plateSize sl.width sl.height sl.depth) sl.parts q.index)

/-- R113: a PLATE cell with part index 1 or more. -/
def laterPart (q : PlatePart) (now : Time) (st : PlateStore) : PlateStore × Option Nat :=
  match slotFor q.plate st with
  | none => ({ st with strayParts := bump st.strayParts }, none)
  | some k =>
    match st.slots[k] with
    | none => (st, none)
    | some sl =>
      if partFits q sl then
        let st' : PlateStore :=
          { st with
            mem := memWriteAll st.mem (sl.first * Config.blockSize + Config.partSize * q.index) q.data
            accepted := st.accepted + 1
            slots := st.slots.set k (some
              { sl with expected := sl.expected + 1, lastPart := now, order := st.accepted,
                        timer := now + Config.partTime }) }
        if q.index + 1 = sl.parts then commitSlot k st' else (st', none)
      else ({ abandonSlot k st with loadBroken := bump st.loadBroken }, none)

/-- R112, R113: a PLATE cell the store acts on. -/
def platePart (q : PlatePart) (now : Time) (st : PlateStore) : PlateStore × Option Nat :=
  if q.index = 0 then loadOpen q now st else laterPart q now st

/-- R116: drop a plate; the flag says whether it was present. -/
def dropPlate (n : Nat) (st : PlateStore) : PlateStore × Bool :=
  match plateOf st n with
  | none => (st, false)
  | some _ =>
    ({ st with blocks := giveBlocks st.blocks (.plate n) .free, dir := st.dir.setIfInBounds n none }, true)

/-- The present plates, in ascending order. -/
def presentPlates (st : PlateStore) : List Nat := (List.range 64).filter (fun n => (plateOf st n).isSome)

/-- The number of FREE blocks (R107). -/
def freeBlocks (st : PlateStore) : Nat := st.blocks.toList.countP (fun o => decide (o = .free))

/-- R109: byte `i` of a plate. -/
def plateByte (st : PlateStore) (pl : Plate) (i : Nat) : Byte := memRead st.mem (pl.first * Config.blockSize + i)

/-- R134: a pixel of a depth-1 plate: true for foreground. -/
def plateBit (st : PlateStore) (pl : Plate) (su sv : Nat) : Bool :=
  (plateByte st pl (sv * rowBytes pl.width pl.depth + su / 8)).getLsbD (7 - su % 8)

/-- R134: a pixel of a depth-3 plate: the low 3 bits of its nibble, the high nibble for even columns. -/
def plateColour (st : PlateStore) (pl : Plate) (su sv : Nat) : BitVec 3 :=
  let b := plateByte st pl (sv * rowBytes pl.width pl.depth + su / 2)
  if su % 2 = 0 then b.extractLsb' 4 3 else b.extractLsb' 0 3

end Sys2Proof.Machine
end

