-- ==== Sys2Proof/Machine/Compose.lean ====
section
/-! DEFINITION. Composing a sign picture (chapter 7): one layer pixel by pixel, row checks, and the steps of a compose
up to its result. -/

namespace Sys2Proof.Machine

/-! ### One pixel (R132 to R138) -/

/-- R132: the width (or height) of a layer's region for a plate of width (or height) `n`. -/
def regionSize (scale : BitVec 2) (n : Nat) : Nat :=
  if scale = 1 then 2 * n else if scale = 2 then (n + 1) / 2 else n

/-- R133: the plate column (or row) under offset `u` of the region. -/
def sourceIndex (scale : BitVec 2) (u : Nat) : Nat :=
  if scale = 1 then u / 2 else if scale = 2 then 2 * u else u

/-- R132: the picture pixel lies in the layer's region. -/
def inRegion (r : LayerRec) (pl : Plate) (fx fy : Nat) : Bool :=
  decide (r.x.toNat ≤ fx ∧ fx < r.x.toNat + regionSize (recScale r) pl.width ∧
    r.y.toNat ≤ fy ∧ fy < r.y.toNat + regionSize (recScale r) pl.height)

/-- R135: a depth-1 pixel is skipped. -/
def skipBit (mode : BitVec 2) (b : Bool) : Bool := (decide (mode = 1) && !b) || (decide (mode = 2) && b)

/-- R135: a depth-3 pixel is skipped. -/
def skipColour (mode : BitVec 2) (clear s : BitVec 3) : Bool :=
  (decide (mode = 1) && decide (s = clear)) || (decide (mode = 2) && decide (s ≠ clear))

/-- R137: one bit of the combination: bit (2 × d + r) of the code. -/
def combineBit (code : BitVec 4) (d r : Bool) : Bool :=
  code.getLsbD ((if d then 2 else 0) + (if r then 1 else 0))

/-- R137: the combine code joins D and R bit by bit. -/
def combine (code : BitVec 4) (d r : BitVec 3) : BitVec 3 :=
  BitVec.ofBool (combineBit code (d.getLsbD 2) (r.getLsbD 2)) ++
    BitVec.ofBool (combineBit code (d.getLsbD 1) (r.getLsbD 1)) ++
    BitVec.ofBool (combineBit code (d.getLsbD 0) (r.getLsbD 0))

/-- R138: the plane mask chooses which bits the layer may change. -/
def masked (mask d result : BitVec 3) : BitVec 3 := (result &&& mask) ||| (d &&& ~~~mask)

/-- R135, R136: the source colour of the plate pixel, or `none` where it is skipped. -/
def sourceColour (st : PlateStore) (r : LayerRec) (pl : Plate) (su sv : Nat) : Option (BitVec 3) :=
  if pl.depth = 1 then
    if skipBit (recTransparency r) (plateBit st pl su sv) then none
    else some (if plateBit st pl su sv then recFore r else recBack r)
  else
    if skipColour (recTransparency r) (recClearColour r) (plateColour st pl su sv) then none
    else some (plateColour st pl su sv)

/-- R127, R132 to R138: the value of the picture pixel (fx, fy) after a layer, given its value `d` before. -/
def layerPixel (st : PlateStore) (r : LayerRec) (pl : Plate) (fx fy : Nat) (d : BitVec 3) : BitVec 3 :=
  if inRegion r pl fx fy then
    match sourceColour st r pl (sourceIndex (recScale r) (fx - r.x.toNat)) (sourceIndex (recScale r) (fy - r.y.toNat)) with
    | none => d
    | some c => masked (recPlane r) d (combine (recCode r) d c)
  else d

/-- R127: a layer over a picture. -/
def layerPicture (st : PlateStore) (r : LayerRec) (pl : Plate) (pic : Picture) : Picture :=
  pic.mapIdx (fun fy row => row.mapIdx (fun fx d => layerPixel st r pl fx fy d))

/-- R126: an all-dark picture. -/
def darkPicture (w h : Nat) : Picture := List.replicate h (List.replicate w 0)

/-! ### Row checks and flashing (R139, R140) -/

/-- R139: the row check: the sum of (c + 1) × p_c, modulo 65536. -/
def rowCheck (row : List (BitVec 3)) : BitVec 16 :=
  BitVec.ofNat 16 (row.mapIdx (fun c p => (c + 1) * p.toNat)).sum

/-- The row checks of a picture. -/
def rowChecks (pic : Picture) : List (BitVec 16) := pic.map rowCheck

/-- R130, R140: the result of a finished compose. -/
def resultOf (c : Compose) : Result :=
  { page := c.page, width := c.width, height := c.height, a := c.a, b := c.b, checksA := rowChecks c.a,
    checksB := rowChecks c.b, flashing := decide (rowChecks c.a ≠ rowChecks c.b), faults := c.faults }

/-! ### A layer of a compose (R127, R128) -/

/-- R128: the plate of a layer, or `none` for a faulted layer (BEYOND or ABSENT). -/
def layerPlate (st : PlateStore) (r : LayerRec) : Option Plate :=
  if r.plate.toNat ≤ 63 then plateOf st r.plate.toNat else none

/-- R127, R128: a compose after its next layer. -/
def applyNext (st : PlateStore) (c : Compose) : Compose :=
  match c.layers[c.next]? with
  | none => c
  | some r =>
    match layerPlate st r with
    | none => { c with faults := c.faults + 1, next := c.next + 1 }
    | some pl =>
      { c with
        a := if recPhase r = 2 then c.a else layerPicture st r pl c.a
        b := if recPhase r = 1 then c.b else layerPicture st r pl c.b
        next := c.next + 1 }

/-- R126: a compose of a page at its start. -/
def composeStart (page : Fin 8) (layers : List LayerRec) (w h : Nat) : Compose :=
  { page := page, layers := layers, next := 0, faults := 0, a := darkPicture w h, b := darkPicture w h, width := w,
    height := h }

end Sys2Proof.Machine
end

