-- ==== Sys2Proof/Machine/Display.lean ====
section
/-! DEFINITION. The display controller of a sign port (chapter 8) with the composer it drives (chapter 7): page claims
and the selected page, compose requests, results, transfers, verification and escalation, brightness. -/

namespace Sys2Proof.Machine

/-! ### Selection (R141, R142) -/

/-- R142: `a` is selected rather than `b`. -/
def outranks (a b : PageClaim) : Bool :=
  decide (b.priority < a.priority) || (decide (a.priority = b.priority) && isBefore b.order a.order)

/-- R142: the selected entry. -/
def selectedClaim (claims : List PageClaim) : PageClaim :=
  match claims with
  | [] => restClaim
  | c :: rest => rest.foldl (fun best x => if outranks x best then x else best) c

/-- R142: the selected page of a sign port. -/
def selectedPage (g : Sign) : Fin 8 := (selectedClaim g.claims).page

/-- R157: the display state that the port's state gives. -/
def displayOf (link : Link) (g : Sign) : DisplayState :=
  if link = .pass then .pass
  else if link ≠ .up then .noSign
  else if g.dark then .dark
  else if g.transfer.isSome || g.pendingResult.isSome || g.awaiting then .updating
  else .steady

/-- R157, R158: the display state of a port; a MUTE station goes on showing the one it had, but for the loss of its
sign link. -/
def displayState (s : State) (p : Port) : DisplayState :=
  match s.signs[p].frozen with
  | none => displayOf s.ports[p].link s.signs[p]
  | some d => if s.ports[p].link = .up then d else .noSign

/-! ### Transfers (R150, R151) -/

/-- The picture of a result. -/
def Result.picture (r : Result) : Pic → Picture
  | .a => r.a
  | .b => r.b

/-- A transfer ends without another frame. -/
def endTransfer (p : Port) (s : State) : State :=
  modSign p (fun g => { g with transfer := none, answerTimer := none, retryTimer := none }) s

/-- R151: OFFER of a picture, with the answer timer running from the step that queues it (notes/assumptions/42.md). -/
def sendOffer (p : Port) (t : Transfer) (pic : Pic) (s : State) : State :=
  sendService p (offerFrame pic t.result.width t.result.height)
    (modSign p (fun g => { g with transfer := some { t with await := .ready pic },
                                  answerTimer := some (s.now + Config.answerTime), retryTimer := none }) s)

/-- R151: a transfer of a result begins with OFFER of picture A. -/
def startTransfer (p : Port) (r : Result) (s : State) : State :=
  sendOffer p { result := r, await := .ready .a, shownA := [] } .a s

/-- R151: the ROW frames of a picture, top row first. -/
def rowFrames (r : Result) (pic : Pic) : List Frame := (r.picture pic).mapIdx (fun i row => rowFrame pic i row)

/-- R151: the rows of a picture are sent, and ROWS-TAKEN is awaited, with the answer timer running from the step that
queues them (notes/assumptions/42.md). -/
def sendRows (p : Port) (t : Transfer) (pic : Pic) (s : State) : State :=
  sendServices p (rowFrames t.result pic)
    (modSign p (fun g => { g with transfer := some { t with await := .rows pic },
                                  answerTimer := some (s.now + Config.answerTime) }) s)

/-- R151: SWITCH, after which SHOWN for picture A is awaited, with the answer timer running from the step that queues it
(notes/assumptions/42.md). -/
def sendSwitch (p : Port) (t : Transfer) (s : State) : State :=
  sendService p (switchFrame t.result.flashing)
    (modSign p (fun g => { g with transfer := some { t with await := .shown .a, shownA := [] },
                                  answerTimer := some (s.now + Config.answerTime) }) s)

/-- R150: when a transfer has ended, the pending result is transferred next. -/
def transferPending (p : Port) (s : State) : State :=
  match s.signs[p].pendingResult with
  | none => s
  | some r => startTransfer p r (modSign p (fun g => { g with pendingResult := none }) s)

/-- R150: a result reaches the display controller. -/
def receiveResult (p : Port) (r : Result) (s : State) : State :=
  let s := modSign p (fun g => { g with awaiting := false }) s
  if !s.inService p || s.signs[p].dark || decide (s.phase = .mute) || decide (r.page ≠ s.signs[p].target) then s
  else if s.signs[p].transfer.isNone then startTransfer p r s
  else modSign p (fun g => { g with pendingResult := some r }) s

/-! ### The composer (R125 to R131) -/

/-- R130: a compose completes: the result is handed over and the composer becomes IDLE. -/
def completeCompose (p : Port) (c : Compose) (s : State) : State :=
  receiveResult p (resultOf c) (modSign p (fun g => { g with compose := none, faultCount := c.faults }) s)

/-- R126: the compose of a page starts; a page of 0 layers completes at once. -/
def startCompose (p : Port) (page : Fin 8) (s : State) : State :=
  match s.signs[p].geometry with
  | none => modSign p (fun g => { g with compose := none }) s
  | some (w, h) =>
    let c := composeStart page s.signs[p].pages[page] w h
    if c.layers.isEmpty then completeCompose p c s
    else modSign p (fun g => { g with compose := some c }) s

/-- R125: a compose request reaches the composer. -/
def composeRequest (p : Port) (page : Fin 8) (s : State) : State :=
  if s.phase = .starting ∨ s.phase = .active then
    if s.signs[p].compose.isSome then modSign p (fun g => { g with slot := some page }) s
    else if s.signs[p].geometry.isSome then startCompose p page s
    else s
  else s

/-- R129, R131: the tests at a layer boundary, `c` being the compose after the layer. -/
def layerBoundary (p : Port) (c : Compose) (s : State) : State :=
  if s.phase = .mute then modSign p (fun g => { g with compose := none, slot := none }) s
  else
    match s.signs[p].slot with
    | some q => startCompose p q (modSign p (fun g => { g with slot := none }) s)
    | none =>
      if s.signs[p].geometry ≠ some (c.width, c.height) then startCompose p c.page s
      else if c.next = c.layers.length then completeCompose p c s
      else modSign p (fun g => { g with compose := some c }) s

/-- R127 to R130: the composer of a port applies its next layer and takes the boundary tests. -/
def applyLayer (p : Port) (s : State) : State :=
  match s.signs[p].compose with
  | none => s
  | some c => layerBoundary p (applyNext s.plates c) s

/-! ### Target page and requests (R149) -/

/-- R149: a compose of the target page is requested, unless the port is not in service or DARK or the station MUTE or
in STRAP-FAULT. -/
def requestTarget (p : Port) (s : State) : State :=
  if s.inService p && !s.signs[p].dark && decide (s.phase ≠ .mute) && decide (s.phase ≠ .strapFault) then
    composeRequest p s.signs[p].target (modSign p (fun g => { g with awaiting := true }) s)
  else s

/-- R149, R150: the target page becomes `page`; a change of it discards a pending result. -/
def setTarget (p : Port) (page : Fin 8) (s : State) : State :=
  if s.signs[p].target = page then s
  else modSign p (fun g => { g with target := page, pendingResult := none }) s

/-- R149, R154: the selected page becomes the target and its compose is requested. -/
def trySelected (p : Port) (s : State) : State := requestTarget p (setTarget p (selectedPage s.signs[p]) s)

/-- R142, R149: change a claims list and choose the selected entry afresh; a change of the selected page makes it the
target. -/
def changeClaims (p : Port) (f : Sign → Sign) (s : State) : State :=
  let s' := modSign p f s
  if selectedPage s'.signs[p] = selectedPage s.signs[p] then s' else trySelected p s'

/-- R141: a sign's list with a claim placed or renewed, with a new entry order. -/
def withClaim (source : ClaimSource) (page : Fin 8) (priority : Nat) (g : Sign) : Sign :=
  let a := advanceOrder g.claimCount (g.claims.map (·.order))
  { g with
    claims := (g.claims.map (fun c => { c with order := a.1 c.order })).filter (fun c => decide (c.source ≠ source))
      ++ [{ source := source, page := page, priority := priority, order := a.2 }]
    claimCount := a.2 }

/-- R141: a sign's list without the claim of a source. -/
def withoutClaim (source : ClaimSource) (g : Sign) : Sign :=
  { g with claims := g.claims.filter (fun c => decide (c.source ≠ source)) }

/-- R141: place or renew the claim of a source on a port. -/
def placeClaim (p : Port) (source : ClaimSource) (page : Fin 8) (priority : Nat) (s : State) : State :=
  changeClaims p (withClaim source page priority) s

/-- R141: remove the claim of a source from a port. -/
def removeClaim (p : Port) (source : ClaimSource) (s : State) : State := changeClaims p (withoutClaim source) s

/-- R149 case 2: the page tables report a commit of a page. -/
def pageCommitted (p : Port) (page : Fin 8) (s : State) : State :=
  if s.signs[p].stage = 2 ∧ page = selectedPage s.signs[p] then trySelected p s
  else if page = s.signs[p].target then requestTarget p s
  else s

/-- A page of a sign port names a plate. -/
def pageNames (g : Sign) (page : Fin 8) (plate : Nat) : Bool := g.pages[page].any (fun r => decide (r.plate.toNat = plate))

/-- R149 case 3: the plate store reports a plate to the display controller of a port. -/
def plateReportedTo (plate : Nat) (p : Port) (s : State) : State :=
  if s.profile p ≠ .sign then s
  else if s.signs[p].stage = 2 ∧ pageNames s.signs[p] (selectedPage s.signs[p]) plate = true then trySelected p s
  else if pageNames s.signs[p] s.signs[p].target plate then requestTarget p s
  else s

/-- R115, R116: a plate's commit or drop is reported to the display controller of every sign port. -/
def plateReported (plate : Nat) (s : State) : State := forPorts (plateReportedTo plate) s

/-! ### Service changes (R157, R158) -/

/-- R157: the link of a sign port leaves UP, or pass mode opens on it. -/
def signLinkLeft (p : Port) (s : State) : State :=
  modSign p (fun g => { g with pendingResult := none, awaiting := false, missed := 0 }) (endTransfer p s)

/-- R157: the link of a sign port reaches UP. -/
def signLinkUp (p : Port) (s : State) : State :=
  if s.phase = .mute ∨ s.phase = .strapFault then s
  else
    let s := sendService p (brightFrame s.brightness) s
    if s.signs[p].dark then sendService p blankFrame s else requestTarget p s

/-- R181: the link state that the entry to MUTE leaves a port in: pass mode ends DOWN. -/
def afterPass (link : Link) : Link := if link = .pass then .down else link

/-- R131, R158: a sign port of a station that enters MUTE. -/
def signMute (p : Port) (s : State) : State :=
  modSign p (fun g => { g with pendingResult := none, awaiting := false, slot := none,
                               frozen := some (displayOf (afterPass s.ports[p].link) s.signs[p]) })
    (endTransfer p s)

/-! ### Verification and escalation (R153 to R156) -/

/-- R155: the port enters DARK. -/
def enterDark (p : Port) (s : State) : State :=
  sendService p blankFrame
    (modSign p (fun g => { g with dark := true, pendingResult := none, awaiting := false }) (endTransfer p s))

/-- R154: fall back to the rest page at stage 2. -/
def fallBack (p : Port) (s : State) : State :=
  requestTarget p (setTarget p 0 (modSign p (fun g => { g with stage := 2, pendingResult := none }) (endTransfer p s)))

/-- R154: escalation after a failed verification of `r`. -/
def escalate (p : Port) (r : Result) (s : State) : State :=
  if s.signs[p].stage = 0 then
    let s := modSign p (fun g => { g with stage := 1 }) (endTransfer p s)
    match s.signs[p].pendingResult with
    | some _ => transferPending p s
    | none => startTransfer p r s
  else if s.signs[p].stage = 2 ∧ r.page = 0 then enterDark p s
  else fallBack p s

/-- R153: the stage after a successful transfer of a page. -/
def stageAfter (stage : Nat) (page : Fin 8) : Nat := if page = 0 ∧ stage = 2 then 2 else 0

/-- R153: verification of a transfer: the checks the sign reported for A, and for B where the result is flashing. -/
def verify (p : Port) (r : Result) (shownA shownB : List (BitVec 16)) (s : State) : State :=
  if shownA = r.checksA ∧ (r.flashing = false ∨ shownB = r.checksB) then
    transferPending p (modSign p (fun g => { g with stage := stageAfter g.stage r.page }) (endTransfer p s))
  else
    escalate p r (modSign p (fun g => { g with verifyFails := bump g.verifyFails }) s)

/-! ### Answers of the sign (R151, R152) -/

/-- R152: an awaited answer has arrived in time. -/
def answered (p : Port) (s : State) : State := modSign p (fun g => { g with missed := 0 }) s

/-- R151: READY. -/
def signReady (p : Port) (s : State) : State :=
  match s.signs[p].transfer with
  | some t =>
    match t.await with
    | .ready pic => sendRows p t pic (answered p s)
    | _ => s
  | none => s

/-- R151: BUSY. -/
def signBusy (p : Port) (s : State) : State :=
  match s.signs[p].transfer with
  | some t =>
    match t.await with
    | .ready pic =>
      modSign p (fun g => { g with transfer := some { t with await := .retry pic }, answerTimer := none,
                                   retryTimer := some (s.now + Config.retryTime), busyCount := bump g.busyCount })
        (answered p s)
    | _ => s
  | none => s

/-- R151: ROWS-TAKEN for a picture. -/
def signRowsTaken (p : Port) (pic : Pic) (s : State) : State :=
  match s.signs[p].transfer with
  | some t =>
    if t.await = .rows pic then
      if pic = .a ∧ t.result.flashing = true then sendOffer p t .b (answered p s)
      else sendSwitch p t (answered p s)
    else s
  | none => s

/-- R151, R153: SHOWN for a picture with the sign's row checks. -/
def signShown (p : Port) (pic : Pic) (checks : List (BitVec 16)) (s : State) : State :=
  match s.signs[p].transfer with
  | some t =>
    if t.await = .shown pic then
      if pic = .a ∧ t.result.flashing = true then
        modSign p (fun g => { g with transfer := some { t with await := .shown .b, shownA := checks },
                                     answerTimer := some (s.now + Config.answerTime) }) (answered p s)
      else if pic = .a then verify p t.result checks [] (answered p s)
      else verify p t.result t.shownA checks (answered p s)
    else s
  | none => s

/-- R151: the retry timer of a port expires: OFFER of the same picture is sent again. -/
def signRetry (p : Port) (s : State) : State :=
  match s.signs[p].retryTimer, s.signs[p].transfer with
  | some d, some t =>
    match t.await with
    | .retry pic => sendOffer p t pic (reach d s)
    | _ => s
  | _, _ => s

/-- R152: the frames of the step awaited are sent again. -/
def resendStep (p : Port) (t : Transfer) (s : State) : State :=
  match t.await with
  | .ready pic => sendOffer p t pic s
  | .rows pic => sendRows p t pic s
  | .shown _ => sendSwitch p t s
  | .retry _ => s

/-! ### SIGN-RESTORE (R156) -/

/-- R156: SIGN-RESTORE on a port. -/
def restoreSign (p : Port) (s : State) : State :=
  let s := modSign p (fun g => { g with dark := false, stage := 0, missed := 0, pendingResult := none }) (endTransfer p s)
  trySelected p s

/-! ### Brightness (R159) -/

/-- R159: threshold L, 1 to 7. -/
def brightThreshold (l : Nat) : Nat := Config.brightnessThresholds.getD (l - 1) 0

/-- R159: the brightness level after one evaluation with average `a`. -/
def brightnessStep (level : Nat) (a : Int) : Nat :=
  if level ≤ 7 ∧ (brightThreshold level : Int) ≤ a then level + 1
  else if 2 ≤ level ∧ 4 * a < 3 * (brightThreshold (level - 1) : Int) then level - 1
  else level

/-- R159: BRIGHT to a sign port in service. -/
def sendBright (p : Port) (s : State) : State :=
  if s.profile p = .sign then sendService p (brightFrame s.brightness) s else s

/-- R159: one brightness evaluation. -/
def evaluateBrightness (a : Int) (s : State) : State :=
  let s' := s.setBrightness (brightnessStep s.brightness a)
  if s'.brightness = s.brightness then s
  else if s.phase = .starting ∨ s.phase = .active then forPorts sendBright s'
  else s'

end Sys2Proof.Machine
end

