-- ==== Sys2Proof/Machine/Respond.lean ====
section
/-! DEFINITION. The response table (chapter 8, section 8.2): conditions, claim states and the claims they place. -/

namespace Sys2Proof.Machine

/-- R145: a level as a number; UNKNOWN counts as 0. -/
def levelNumber : Level → Nat
  | .zero => 0
  | .one => 1
  | .two => 2
  | .unknown => 0

/-- The level of an alarm in a weather view entry. -/
def ViewEntry.level (e : ViewEntry) : Alarm → Level
  | .ice => e.ice
  | .fog => e.fog
  | .wind => e.wind

/-- The local level of an alarm (R160). -/
def Weather.level (w : Weather) : Alarm → Level
  | .ice => w.ice
  | .fog => w.fog
  | .wind => w.wind

/-- R60: holder station and priority of a circuit that is not FREE; an own entry's holder is this station. -/
def circuitHolder (own : Nat) : Circuit → Option (Nat × Nat)
  | .free => none
  | .ownClaiming _ prio _ => some (own, prio)
  | .ownHeld _ prio => some (own, prio)
  | .remote st _ prio _ _ => some (st, prio)

/-- The weather view entry of a station number. -/
def State.viewOf (s : State) (station : Nat) : Option ViewEntry := (s.weather.view[station]?).join

/-- R145: the level a station has for WX-RANGE: the local one for the own number, else the view's, else none. -/
def stationLevel (s : State) (alarm : Alarm) (n : Nat) : Nat :=
  if s.own = some n then levelNumber (s.weather.level alarm)
  else
    match s.viewOf n with
    | some e => levelNumber (e.level alarm)
    | none => 0

/-- R145: the value of a condition. -/
def conditionValue (s : State) : Condition → Bool
  | .callRange lo hi minPriority =>
    s.call.circuits.toList.any (fun c =>
      match circuitHolder (s.own.getD 0) c with
      | some (st, prio) => decide (lo ≤ st ∧ st ≤ hi ∧ minPriority ≤ prio)
      | none => false)
  | .wxRange lo hi alarm minLevel =>
    (List.range' lo (hi + 1 - lo)).any (fun n => decide (minLevel ≤ stationLevel s alarm n))
  | .noCentre => s.selectedCentre.isNone

/-- Change one response entry. -/
def modResponse (k : Fin 16) (f : Response → Response) (s : State) : State :=
  s.setResponses (s.responses.set k (f s.responses[k]))

/-- R147: the claims of an entry are placed on each SIGN port in its mask. -/
def placeClaims (k : Fin 16) (s : State) : State :=
  forPorts (fun p s =>
    if inMask s.responses[k].mask p && decide (s.profile p = .sign) then
      placeClaim p (.response k) s.responses[k].page s.responses[k].priority s
    else s) s

/-- R144, R147, R148: the claims of an entry are removed from every list that holds them. -/
def removeClaims (k : Fin 16) (s : State) : State := forPorts (fun p s => removeClaim p (.response k) s) s

/-- R147: the step of an enabled LEVEL entry whose value has become `v`. -/
def levelStep (k : Fin 16) (v : Bool) (s : State) : State :=
  match s.responses[k].claim, v with
  | .idle, true => placeClaims k (modResponse k (fun e => { e with claim := .active }) s)
  | .lingering, true => modResponse k (fun e => { e with claim := .active, timer := none }) s
  | .active, false =>
    if s.responses[k].linger = 0 then removeClaims k (modResponse k (fun e => { e with claim := .idle }) s)
    else
      modResponse k (fun e => { e with claim := .lingering, timer := some (s.now + e.linger * Config.second) }) s
  | _, _ => s

/-- R148: the step of an enabled LATCH entry whose value has become `v`. -/
def latchStep (k : Fin 16) (v : Bool) (s : State) : State :=
  if v = true ∧ s.responses[k].claim ≠ .latched then
    placeClaims k (modResponse k (fun e => { e with claim := .latched }) s)
  else s

/-- R146: an entry's value is computed afresh; an enabled entry whose value changes takes its step. -/
def respondEntry (s : State) (k : Fin 16) : State :=
  let v := conditionValue s s.responses[k].condition
  if v = s.responses[k].value then s
  else
    let s' := modResponse k (fun e => { e with value := v }) s
    if s.responses[k].enable then (if s.responses[k].latch then latchStep k v s' else levelStep k v s') else s'

/-- R146: a view has reported a change: every entry's value is computed. -/
def respond (s : State) : State := (List.finRange 16).foldl respondEntry s

/-! ### RESPONSE-SET and RESPONSE-CLEAR (R144, R148) -/

/-- The alarm of a code. R145 gives none: the model takes those that R168 gives WX-LIMITS, 1 ICE, 2 FOG, 3 WIND
(notes/assumptions/5.md). -/
def readAlarm (b : Byte) : Option Alarm :=
  if b = 1 then some .ice else if b = 2 then some .fog else if b = 3 then some .wind else none

/-- R145: two station numbers that bound a range. -/
def goodRange (lo hi : Byte) : Bool := decide (1 ≤ lo.toNat ∧ lo.toNat ≤ hi.toNat ∧ hi.toNat ≤ 60)

/-- R145: the condition that the parameters name, or `none` where the kind is unknown or a parameter lies outside its
range. The kind codes 1 CALL-RANGE, 2 WX-RANGE, 3 NO-CENTRE are the model's (notes/assumptions/5.md). -/
def readCondition (q : ResponseParams) : Option Condition :=
  if q.kind = 1 then
    if goodRange q.cond1 q.cond2 && decide (1 ≤ q.cond3.toNat ∧ q.cond3.toNat ≤ 3) then
      some (.callRange q.cond1.toNat q.cond2.toNat q.cond3.toNat)
    else none
  else if q.kind = 2 then
    match readAlarm q.cond3 with
    | some a =>
      if goodRange q.cond1 q.cond2 && decide (1 ≤ q.cond4.toNat ∧ q.cond4.toNat ≤ 2) then
        some (.wxRange q.cond1.toNat q.cond2.toNat a q.cond4.toNat)
      else none
    | none => none
  else if q.kind = 3 then some .noCentre
  else none

/-- R144: the entry that admitted parameters give, before its value is computed: IDLE, its mask cleared of ports that are
not strapped SIGN. -/
def responseOf (signs : BitVec 4) (q : ResponseParams) (c : Condition) (v : Bool) : Response :=
  { enable := q.enable, latch := decide (q.mode = 1), condition := c, mask := q.mask.extractLsb' 0 4 &&& signs,
    page := Fin.ofNat 8 q.page.toNat, priority := q.priority.toNat, linger := q.linger.toNat, value := v,
    claim := .idle, timer := none }

/-- R144: the tests of RESPONSE-SET that need no condition. -/
def responseGood (q : ResponseParams) : Bool :=
  decide (q.index.toNat ≤ 15 ∧ q.page.toNat ≤ 7 ∧ 1 ≤ q.priority.toNat ∧ q.priority.toNat ≤ 7 ∧ q.mode.toNat ≤ 1)

/-- R144: an enabled entry whose condition is true claims at once. -/
def claimAtOnce (k : Fin 16) (s : State) : State :=
  if s.responses[k].enable && s.responses[k].value then
    placeClaims k (modResponse k (fun e => { e with claim := if e.latch then .latched else .active }) s)
  else s

/-- R144: RESPONSE-SET. -/
def setResponse (q : ResponseParams) (s : State) : State :=
  match readCondition q with
  | none => reject .range s
  | some c =>
    if responseGood q then
      let k : Fin 16 := Fin.ofNat 16 q.index.toNat
      let s' := removeClaims k (modResponse k (fun e => { e with claim := .idle, timer := none }) s)
      claimAtOnce k (modResponse k (fun _ => responseOf (maskOf s.straps.profiles .sign) q c (conditionValue s' c)) s')
    else reject .range s

/-- R148: a named entry that is LATCHED becomes IDLE and its claims are removed. -/
def clearEntry (s : State) (k : Fin 16) : State :=
  if s.responses[k].claim = .latched then removeClaims k (modResponse k (fun e => { e with claim := .idle }) s) else s

/-- R148: RESPONSE-CLEAR. -/
def clearResponses (index : Byte) (s : State) : State :=
  if index = 255 then (List.finRange 16).foldl clearEntry s
  else if index.toNat ≤ 15 then clearEntry s (Fin.ofNat 16 index.toNat)
  else reject .range s

/-- R147: the linger timer of an entry reaches its linger time. -/
def lingerExpired (k : Fin 16) (s : State) : State :=
  match s.responses[k].timer with
  | some d =>
    if s.responses[k].claim = .lingering then
      removeClaims k (modResponse k (fun e => { e with claim := .idle, timer := none }) (reach d s))
    else s
  | none => s

end Sys2Proof.Machine
end

