-- ==== Sys2Proof/Machine/Call.lean ====
section
/-! DEFINITION. The call unit (chapter 4): requests, the circuit view, claims, holds and releases, indications, voice. -/

namespace Sys2Proof.Machine

/-! ### Claim order and entry updates (R55, R60) -/

/-- R55: the claim or hold of priority `p1` at station `n1` beats that of `p2` at `n2`. -/
def beats (p1 n1 p2 n2 : Nat) : Bool := decide (p2 < p1 ∨ (p1 = p2 ∧ n1 < n2))

/-- Write an entry of the circuit view and report it to the response table (R60). -/
def setCircuit (c : Fin 16) (e : Circuit) (s : State) : State :=
  respond (s.setCall { s.call with circuits := s.call.circuits.set c e })

/-- The entry order of a REMOTE entry. -/
def Circuit.order? : Circuit → Option (BitVec 16)
  | .remote _ _ _ _ o => some o
  | _ => none

/-- An entry with its order renumbered. -/
def Circuit.renumber (f : BitVec 16 → BitVec 16) : Circuit → Circuit
  | .remote st p prio t o => .remote st p prio t (f o)
  | e => e

/-- R60: an entry becomes REMOTE naming a holder it did not name just before: a new entry order, age 0. -/
def enterRemote (c : Fin 16) (station : Nat) (port : Port) (prio : Nat) (s : State) : State :=
  let a := advanceOrder s.call.orderCount (s.call.circuits.toList.filterMap Circuit.order?)
  respond (s.setCall { s.call with
    circuits := (s.call.circuits.map (Circuit.renumber a.1)).set c (.remote station port prio s.now a.2)
    orderCount := a.2 })

/-- R66, R72: an entry is set to REMOTE; one that names the station already keeps its entry order. -/
def setRemote (c : Fin 16) (station : Nat) (port : Port) (prio : Nat) (s : State) : State :=
  match s.call.circuits[c] with
  | .remote st _ _ _ o =>
    if st = station then setCircuit c (.remote station port prio s.now o) s else enterRemote c station port prio s
  | _ => enterRemote c station port prio s

/-! ### The request list (R58) -/

/-- The place of a request in the list: by priority, highest first, then by joining. -/
def insertRequest (r : Request) : List Request → List Request
  | [] => [r]
  | x :: rest =>
    if r.priority < x.priority ∨ (r.priority = x.priority ∧ x.joined < r.joined) then x :: insertRequest r rest
    else r :: x :: rest

/-- R58: a new request joins the list. -/
def joinRequest (p : Port) (prio : Nat) (s : State) : State :=
  s.setCall { s.call with requests := insertRequest ⟨p, prio, s.call.joins⟩ s.call.requests, joins := s.call.joins + 1 }

/-- R58: the request of a port leaves the list. -/
def leaveRequest (p : Port) (s : State) : State :=
  s.setCall { s.call with requests := s.call.requests.filter (fun r => decide (r.port ≠ p)) }

/-- R58: the priority of a port's request is raised; it keeps its joining. -/
def raiseRequest (p : Port) (prio : Nat) (s : State) : State :=
  match s.call.requests.find? (fun r => decide (r.port = p)) with
  | none => s
  | some r =>
    s.setCall { s.call with
      requests := insertRequest { r with priority := prio } (s.call.requests.filter (fun r => decide (r.port ≠ p))) }

/-! ### Claiming (R59, R61, R62, R69) -/

/-- R61: the FREE circuits, lowest first. -/
def freeCircuits (v : Vector Circuit 16) : List (Fin 16) := (List.finRange 16).filter (fun c => decide (v[c] = .free))

/-- R61: a circuit that a claim of this priority may preempt: its priority and entry order. -/
def preemptable (v : Vector Circuit 16) (prio : Nat) (c : Fin 16) : Option (Fin 16 × Nat × BitVec 16) :=
  match v[c] with
  | .remote _ _ q _ o => if q < prio then some (c, q, o) else none
  | _ => none

/-- R61 step 2: `a` is taken rather than `b`: lower priority, then entered more recently. -/
def preemptBetter (a b : Fin 16 × Nat × BitVec 16) : Bool :=
  decide (a.2.1 < b.2.1) || (decide (a.2.1 = b.2.1) && isBefore b.2.2 a.2.2)

/-- The entry of a list that R61 step 2 takes. -/
def bestPreempt : List (Fin 16 × Nat × BitVec 16) → Option (Fin 16)
  | [] => none
  | x :: rest => some (rest.foldl (fun best y => if preemptBetter y best then y else best) x).1

/-- R61: the circuit for a request and the preempt flag of its claim. -/
def chooseCircuit (v : Vector Circuit 16) (prio : Nat) (avoided : Option (Fin 16)) : Option (Fin 16 × Bool) :=
  let free := freeCircuits v
  match free.filter (fun c => decide (some c ≠ avoided)), free with
  | c :: _, _ => some (c, false)
  | [], c :: _ => some (c, false)
  | [], [] =>
    let all := (List.finRange 16).filterMap (preemptable v prio)
    match bestPreempt (all.filter (fun x => decide (some x.1 ≠ avoided))) with
    | some c => some (c, true)
    | none => (bestPreempt all).map (fun c => (c, true))

/-- R59: the head of the request list and the centre to aim at, when a claim may start. -/
def claimHead (s : State) : Option (Request × Nat) :=
  if s.phase = .active ∧ s.call.attempt = none then
    match s.call.requests, s.selectedCentre with
    | r :: _, some centre =>
      if s.call.phones[r.port].state = .waiting ∧ s.call.floor ≤ r.priority then some (r, centre) else none
    | _, _ => none
  else none

/-- R69, R70: one more failed attempt of a port: BACKOFF at the fourth, else WAITING. -/
def failPort (p : Port) (s : State) : State :=
  modPhone p (fun ph =>
    if Config.maxFailed ≤ ph.failed + 1 then
      { ph with state := .backoff, failed := ph.failed + 1, circuit := none, target := none,
                backoff := some (s.now + Config.backoffTime) }
    else { ph with state := .waiting, failed := ph.failed + 1, circuit := none, target := none }) s

/-- R62: the CLAIM for a request is sent; the flag says whether the insert queue accepted it. The claim counter
advances either way. -/
def sendClaim (r : Request) (centre : Nat) (c : Fin 16) (preempt : Bool) (s : State) : State × Bool :=
  let n := s.call.claimCounter + 1
  let s := s.setCall { s.call with claimCounter := n }
  let body : Claim :=
    { circuit := c, priority := r.priority, port := r.port, preempt := preempt, ring := s.call.phones[r.port].ringFlag,
      target := centre, number := n, beaten := false }
  match offer kClaim allStations (claimBytes body) s with
  | (s, false) => (s, false)
  | (s, true) =>
    let s := modPhone r.port (fun ph => { ph with state := .claiming, circuit := some c, target := some centre }) s
    let a : Attempt :=
      { port := r.port, circuit := c, priority := r.priority, number := n, hangUp := false, target := centre,
        expires := s.now + Config.attemptTime }
    let s := s.setCall { s.call with attempt := some a }
    (setCircuit c (.ownClaiming r.port r.priority n) s, true)

/-- R59, R69: the claim test. A refused claim fails at once and the test is made again; the fourth failure ends it with
BACKOFF, so four tries are the most. -/
def claimTests : Nat → State → State
  | 0, s => s
  | k + 1, s =>
    match claimHead s with
    | none => s
    | some (r, centre) =>
      match chooseCircuit s.call.circuits r.priority s.call.phones[r.port].avoided with
      | none => s
      | some (c, preempt) =>
        match sendClaim r centre c preempt s with
        | (s, true) => s
        | (s, false) => claimTests k (failPort r.port s)

/-- R59: test whether the head of the request list may claim. -/
def testClaim (s : State) : State := claimTests Config.maxFailed s

/-- The entry is OWN-CLAIMING for this attempt. -/
def claimsFor (e : Circuit) (a : Attempt) : Bool :=
  match e with
  | .ownClaiming _ _ n => decide (n = a.number)
  | _ => false

/-- R69: the circuit of a beaten return becomes the port's avoided circuit. -/
def avoidCircuit (p : Port) (beaten : Option (Fin 16)) (s : State) : State :=
  match beaten with
  | some c => modPhone p (fun ph => { ph with avoided := some c }) s
  | none => s

/-- R69: an attempt ends in failure; `beaten` is the circuit of the return, where its claim came home beaten. -/
def failAttempt (a : Attempt) (beaten : Option (Fin 16)) (s : State) : State :=
  let s := s.setCall { s.call with attempt := none }
  let s := if claimsFor s.call.circuits[a.circuit] a then setCircuit a.circuit .free s else s
  let s := avoidCircuit a.port beaten s
  testClaim (if a.hangUp then s else failPort a.port s)

/-- R8: withdraw the CLAIM of an attempt from its insert queue; the flag says whether it was still there. -/
def withdrawClaim (a : Attempt) (s : State) : State × Bool :=
  withdrawC (fun c => decide (c.kind = kClaim) && decide ((readClaim c.payload).number = a.number)) s

/-- R69: the attempt timer reaches 200 ms. -/
def attemptExpired (s : State) : State :=
  match s.call.attempt with
  | none => s
  | some a => failAttempt a none (withdrawClaim a (reach a.expires s)).1

/-! ### Calls that end (R74, R75, R78, R79) -/

/-- R84: a phone that leaves CONNECTED: playout timer stopped, queue emptied. -/
def quietPhone (ph : Phone) : Phone :=
  { ph with playout := [], playing := false, priming := 0, playTimer := none, ringing := none, circuit := none,
            target := none }

/-- R74: a RELEASE is sent and the entry becomes FREE, whether the queue accepts the cell or not. -/
def sendRelease (c : Fin 16) (p : Port) (s : State) : State :=
  setCircuit c .free (offerCounted kRelease allStations (releaseBytes c p) s)

/-- R75, R79: a held call is lost: a caller's call becomes a new request, a centre-started one becomes IDLE. -/
def loseCall (p : Port) (reason : CallReason) (s : State) : State :=
  if s.call.phones[p].ringFlag then
    modPhone p (fun ph => { quietPhone ph with state := .idle, reason := reason }) s
  else
    joinRequest p s.call.phones[p].priority
      (modPhone p (fun ph => { quietPhone ph with state := .waiting, failed := 0, reason := reason }) s)

/-- R75: the call on a circuit is lost with its target centre. -/
def loseTarget (station : Nat) (s : State) (c : Fin 16) : State :=
  match s.call.circuits[c] with
  | .ownHeld p _ =>
    if s.call.phones[p].target = some station then
      let s := loseCall p .reconnecting (sendRelease c p s)
      if s.call.phones[p].ringFlag then s else modPhone p (fun ph => { ph with avoided := none }) s
    else s
  | _ => s

/-- R75: the heard entry of a station has been removed. The circuits are taken in ascending order and R59 is tested once,
after all of them: the model's choice (notes/assumptions/39.md). -/
def targetRemoved (station : Nat) (s : State) : State := testClaim ((List.finRange 16).foldl (loseTarget station) s)

/-- R78: a phone after its call has ended. -/
def idlePhone (ph : Phone) : Phone :=
  { quietPhone ph with state := .idle, reason := .none, failed := 0, avoided := none, backoff := none }

/-- R78: the attempt of a CLAIMING port whose phone hangs up: withdrawn if its CLAIM is still queued, else marked
hang-up-pending. -/
def hangUpAttempt (p : Port) (s : State) : State :=
  match s.call.attempt with
  | none => s
  | some a =>
    if a.port = p then
      match withdrawClaim a s with
      | (s, true) => setCircuit a.circuit .free (s.setCall { s.call with attempt := none })
      | (s, false) => s.setCall { s.call with attempt := some { a with hangUp := true } }
    else s

/-- R74, R78: the circuit a port holds is released. -/
def releaseHeld (p : Port) (s : State) : State :=
  match s.call.phones[p].circuit with
  | some c => sendRelease c p s
  | none => s

/-- R78: ON-HOOK, or the loss of the port link, ends the port's call. -/
def endCall (p : Port) (s : State) : State :=
  let s' :=
    match s.call.phones[p].state with
    | .idle => s
    | .waiting => leaveRequest p s
    | .backoff => leaveRequest p s
    | .claiming => hangUpAttempt p (leaveRequest p s)
    | .ringing => releaseHeld p s
    | .connected => releaseHeld p s
  testClaim (modPhone p idlePhone s')

/-- R77, R68: a phone becomes CONNECTED. -/
def connectPhone (now : Time) (ph : Phone) : Phone :=
  { ph with state := .connected, ringing := none, sendSeq := 0, recvSeq := none, playout := [], playing := false,
            priming := 0, playTimer := some (now + Config.playoutTime) }

/-! ### Indications (R76) -/

/-- R76: the indication that a record gives. -/
def indicationOf (phase : Phase) (centre : Bool) (ph : Phone) : Indication :=
  if phase = .mute ∨ phase = .strapFault then .noCentre
  else
    match ph.state with
    | .idle =>
      match ph.reason with
      | .none => .clear
      | .preempted => .preempted
      | .reconnecting => .reconnecting
    | .claiming => if ph.ringFlag then .clear else .ringbackNone
    | .ringing => .ring
    | .connected => .connected
    | .waiting => waitingIndication centre ph
    | .backoff => waitingIndication centre ph
where
  /-- R76: the rows for WAITING and BACKOFF. -/
  waitingIndication (centre : Bool) (ph : Phone) : Indication :=
    if ph.ringFlag then .clear
    else if centre then
      match ph.reason with
      | .none => .waiting
      | .preempted => .preempted
      | .reconnecting => .reconnecting
    else .noCentre

/-- The indication of a port now. -/
def State.indication (s : State) (p : Port) : Indication :=
  indicationOf s.phase s.selectedCentre.isSome s.call.phones[p]

/-- R76: a phone port's indication is sent when it has changed. -/
def settlePort (p : Port) (s : State) : State :=
  if s.profile p = .phone ∧ s.indication p ≠ s.call.phones[p].indicated then
    sendService p (indicateFrame (s.indication p)) (modPhone p (fun ph => { ph with indicated := s.indication p }) s)
  else s

/-- R76: the indications that the call unit has changed are sent when it is done (notes/assumptions/8.md). -/
def settle (s : State) : State := forPorts settlePort s

/-- R76: the port link of a phone comes UP: the indication is sent. -/
def phoneLinkUp (p : Port) (s : State) : State :=
  sendService p (indicateFrame (s.indication p)) (modPhone p (fun ph => { ph with indicated := s.indication p }) s)

/-! ### Phone events (R77, R80) -/

/-- R77, R80: a new request of an IDLE port. -/
def newRequest (p : Port) (prio : Nat) (ring : Bool) (s : State) : State :=
  testClaim (joinRequest p prio
    (modPhone p (fun ph =>
      { ph with state := .waiting, priority := prio, ringFlag := ring, reason := .none, failed := 0 }) s))

/-- R77: OFF-HOOK in WAITING, CLAIMING or BACKOFF: the ring flag is cleared and the priority raised. -/
def liftRequest (p : Port) (prio : Nat) (s : State) : State :=
  let s := modPhone p (fun ph => { ph with ringFlag := false }) s
  if s.call.phones[p].priority < prio then
    testClaim (raiseRequest p prio (modPhone p (fun ph => { ph with priority := prio }) s))
  else s

/-- R81: phone events are taken in STARTING and ACTIVE. -/
def callsTaken (s : State) : Bool := decide (s.phase = .starting) || decide (s.phase = .active)

/-- R77: OFF-HOOK with a key. -/
def phoneOffHook (p : Port) (key : Key) (s : State) : State :=
  if callsTaken s then
    match s.call.phones[p].state with
    | .idle => newRequest p (keyPriority key) false s
    | .waiting => liftRequest p (keyPriority key) s
    | .claiming => liftRequest p (keyPriority key) s
    | .backoff => liftRequest p (keyPriority key) s
    | .ringing => s
    | .connected => s
  else s

/-- R78: ON-HOOK. -/
def phoneOnHook (p : Port) (s : State) : State := if callsTaken s then endCall p s else s

/-- R77: ANSWER. -/
def phoneAnswer (p : Port) (s : State) : State :=
  if callsTaken s && decide (s.call.phones[p].state = .ringing) then modPhone p (connectPhone s.now) s else s

/-- R82: a frame of samples from a CONNECTED phone leads to a VOICE cell. -/
def phoneSamples (p : Port) (voice : List Byte) (s : State) : State :=
  match s.call.phones[p].state, s.call.phones[p].circuit, s.call.phones[p].target with
  | .connected, some c, some t =>
    modPhone p (fun ph => { ph with sendSeq := ph.sendSeq + 1 })
      (offerCounted kVoice (natByte t) (voiceBytes c s.call.phones[p].sendSeq voice) s)
  | _, _, _ => s

/-- R80: CALL-PHONE on a port. -/
def callPhoneOn (prio : Byte) (p : Port) (s : State) : State :=
  if ¬(1 ≤ prio.toNat ∧ prio.toNat ≤ 3) then reject .range s
  else if ¬(s.ports[p].link = .up ∧ s.call.phones[p].state = .idle) then reject .state s
  else settle (newRequest p prio.toNat true s)

/-- R79: the ringing timer reaches 60 s. -/
def ringingExpired (p : Port) (s : State) : State :=
  match s.call.phones[p].ringing with
  | some d =>
    if s.call.phones[p].state = .ringing then
      testClaim (modPhone p (fun ph => { quietPhone ph with state := .idle, reason := .none })
        (releaseHeld p (reach d s)))
    else s
  | none => s

/-- R70: the backoff timer reaches 1 s. -/
def backoffExpired (p : Port) (s : State) : State :=
  match s.call.phones[p].backoff with
  | some d =>
    if s.call.phones[p].state = .backoff then
      testClaim (modPhone p (fun ph => { ph with state := .waiting, failed := 0, avoided := none, backoff := none })
        (reach d s))
    else s
  | none => s

/-! ### Cells of other stations (R63 to R66, R72, R74) -/

/-- R43: the call unit keeps its view in STARTING and ACTIVE. -/
def viewKept (s : State) : Bool := callsTaken s

/-- R63 to R66: a passing CLAIM is judged; the flag says that the call unit sets its beaten flag. -/
def claimCopied (source : Nat) (cl : Claim) (s : State) : State × Bool :=
  if !viewKept s || cl.beaten then (s, false)
  else
    match s.call.circuits[cl.circuit] with
    | .ownClaiming _ prio _ =>
      if beats cl.priority source prio (s.own.getD 0) then
        let s := setRemote cl.circuit source cl.port cl.priority s
        match s.call.attempt with
        | none => (testClaim s, false)
        | some a =>
          match withdrawClaim a s with
          | (s, true) => (failAttempt a none s, false)
          | (s, false) => (testClaim s, false)
      else (s, true)
    | .ownHeld p prio =>
      if prio < cl.priority then
        (testClaim (loseCall p .preempted (setRemote cl.circuit source cl.port cl.priority s)), false)
      else (s, true)
    | .free => (testClaim (setRemote cl.circuit source cl.port cl.priority s), false)
    | .remote st _ prio _ _ =>
      if st = source ∨ beats cl.priority source prio st = true then
        (testClaim (setRemote cl.circuit source cl.port cl.priority s), false)
      else (s, false)

/-- R72: one circuit that a HOLD of another station lists. -/
def holdListed (source : Nat) (s : State) (h : Fin 16 × Nat × Port) : State :=
  match s.call.circuits[h.1] with
  | .free => setRemote h.1 source h.2.2 h.2.1 s
  | .remote st _ _ _ _ => if st = source then setRemote h.1 source h.2.2 h.2.1 s else s
  | .ownClaiming _ _ _ => s
  | .ownHeld p prio =>
    if beats h.2.1 source prio (s.own.getD 0) then
      loseCall p .reconnecting (setRemote h.1 source h.2.2 h.2.1 s)
    else s

/-- R72: a HOLD of another station. That R59 is tested once, after all the circuits listed, is the model's choice
(notes/assumptions/39.md). -/
def holdCopied (source : Nat) (held : List (Fin 16 × Nat × Port)) (s : State) : State :=
  if viewKept s then testClaim (held.foldl (holdListed source) s) else s

/-- R74: a RELEASE of another station. -/
def releaseCopied (source : Nat) (c : Fin 16) (port : Port) (s : State) : State :=
  if viewKept s then
    match s.call.circuits[c] with
    | .remote st p _ _ _ => if st = source ∧ p = port then testClaim (setCircuit c .free s) else s
    | _ => s
  else s

/-- R73: the REMOTE entry of a circuit reaches an age of 3.5 s. -/
def remoteExpired (c : Fin 16) (s : State) : State :=
  match s.call.circuits[c] with
  | .remote _ _ _ t _ => testClaim (setCircuit c .free (reach (t + Config.entryAge) s))
  | _ => s

/-! ### The claim comes home (R67 to R69) -/

/-- R68: the attempt succeeds with a return for circuit `c`: the circuit is held. -/
def claimWon (a : Attempt) (c : Fin 16) (s : State) : State :=
  let s := s.setCall { s.call with attempt := none }
  if a.hangUp then testClaim (sendRelease c a.port s)
  else
    let s := leaveRequest a.port (setCircuit c (.ownHeld a.port a.priority) s)
    testClaim (modPhone a.port (fun ph =>
      let ph := { ph with failed := 0, avoided := none, reason := .none }
      if ph.ringFlag then { ph with state := .ringing, ringing := some (s.now + Config.ringingTime) }
      else connectPhone s.now ph) s)

/-- R67 to R69: an own CLAIM stripped on return. The entry for its circuit, the one the cell carries, decides. -/
def claimReturned (cl : Claim) (s : State) : State :=
  match s.call.attempt with
  | none => s
  | some a =>
    if s.phase = .active ∧ cl.number = a.number then
      if cl.beaten then failAttempt a (some cl.circuit) s
      else if claimsFor s.call.circuits[cl.circuit] a then
        if (s.heardOf a.target).present then claimWon a cl.circuit s
        else failAttempt a none (sendRelease cl.circuit a.port s)
      else failAttempt a none s
    else s

/-! ### HOLD (R71) -/

/-- R71: the OWN-HELD circuits in ascending order, with priority and holder port. -/
def heldCircuits (v : Vector Circuit 16) : List (Fin 16 × Nat × Port) :=
  (List.finRange 16).filterMap (fun c =>
    match v[c] with
    | .ownHeld p prio => some (c, prio, p)
    | _ => none)

/-- R71: the end of a HOLD period. -/
def holdPeriodEnds (s : State) : State :=
  match s.call.holdAt with
  | none => s
  | some d =>
    if s.phase = .active then
      let s := reach d s
      let s := s.setCall { s.call with holdAt := some (d + Config.holdTime) }
      if (heldCircuits s.call.circuits).isEmpty then s
      else offerCounted kHold allStations (holdBytes (heldCircuits s.call.circuits)) s
    else s

/-! ### Voice (R83, R84) -/

/-- R83: a CONNECTED port with this circuit and target centre. -/
def voicePort (c : Fin 16) (source : Nat) (s : State) (p : Port) : Bool :=
  decide (s.profile p = .phone ∧ s.call.phones[p].state = .connected ∧ s.call.phones[p].circuit = some c ∧
    s.call.phones[p].target = some source)

/-- R83: a VOICE cell taken by its port. -/
def takeVoice (seq : BitVec 8) (voice : List Byte) (ph : Phone) : Phone :=
  let late := match ph.recvSeq with
    | some r => !isNewer seq r
    | none => false
  if late then { ph with late := bump ph.late }
  else if ph.playout.length < Config.playoutSize then
    { ph with playout := ph.playout ++ [⟨seq, voice⟩], recvSeq := some seq, priming := ph.priming + 1 }
  else
    { ph with playout := ph.playout.drop 1 ++ [⟨seq, voice⟩], recvSeq := some seq, priming := ph.priming + 1,
              overflow := bump ph.overflow }

/-- R83: a VOICE cell delivered to this station. -/
def voiceDelivered (source : Nat) (c : Fin 16) (seq : BitVec 8) (voice : List Byte) (s : State) : State :=
  match (List.finRange 4).find? (fun p => voicePort c source s p) with
  | some p => modPhone p (takeVoice seq voice) s
  | none => s

/-- R84: what an expiry of the playout timer sends to the phone, and the record afterwards. -/
def playNext (ph : Phone) : Frame × Phone :=
  match ph.playing, ph.playout with
  | true, v :: rest => (playFrame v.voice, { ph with playout := rest })
  | true, [] =>
    (silenceFrame, { ph with playing := false, priming := 0, recvSeq := none, underrun := bump ph.underrun })
  | false, v :: rest =>
    if 2 ≤ ph.priming then (playFrame v.voice, { ph with playout := rest, playing := true }) else (silenceFrame, ph)
  | false, [] => (silenceFrame, ph)

/-- R84: an expiry of a port's playout timer. -/
def playoutExpired (p : Port) (s : State) : State :=
  match s.call.phones[p].playTimer with
  | none => s
  | some d =>
    if s.call.phones[p].state = .connected then
      let n := playNext s.call.phones[p]
      sendService p n.1
        (modPhone p (fun _ => { n.2 with playTimer := some (d + Config.playoutTime) }) (reach d s))
    else s

/-! ### Phases (R81) and the call floor (R56) -/

/-- R81: an own entry becomes FREE without a RELEASE. -/
def freeOwn (s : State) (c : Fin 16) : State :=
  match s.call.circuits[c] with
  | .ownClaiming _ _ _ => setCircuit c .free s
  | .ownHeld _ _ => setCircuit c .free s
  | _ => s

/-- R81: the call unit of a station that enters MUTE. -/
def callMute (s : State) : State :=
  let s := (List.finRange 16).foldl freeOwn s
  s.setCall { s.call with
    attempt := none, requests := [], holdAt := none
    phones := s.call.phones.map (fun ph => { quietPhone ph with state := .idle, reason := .none, backoff := none }) }

/-- R56: CALL-FLOOR. -/
def setFloor (floor : Byte) (s : State) : State :=
  if floor.toNat ≤ 3 then settle (testClaim (s.setCall { s.call with floor := floor.toNat })) else reject .range s

/-- R78: the port link of a phone is lost. -/
def phoneLinkLeft (p : Port) (s : State) : State := if callsTaken s then settle (endCall p s) else s

end Sys2Proof.Machine
end

