-- ==== Sys2Proof/Machine/Toll.lean ====
section
/-! DEFINITION. The toll unit (chapter 5): intake and journal, the channel, the receive table of a centre station, and
downstream messages. -/

namespace Sys2Proof.Machine

/-! ### The journal (R85 to R87) -/

/-- A journal record is SENT. -/
def TollRecord.isSent (r : TollRecord) : Bool := r.sent.isSome

/-- The records with every SENT one NEW again, with no time sent. -/
def allNew (j : List TollRecord) : List TollRecord := j.map (fun r => { r with sent := none })

/-- The number of SENT records. -/
def sentCount (j : List TollRecord) : Nat := j.countP (·.isSent)

/-- R92: the journal with its oldest NEW record SENT at moment `t`, and that record as it was. -/
def sendOldest (t : Time) : List TollRecord → Option (TollRecord × List TollRecord)
  | [] => none
  | r :: rest =>
    if r.isSent then (sendOldest t rest).map (fun x => (x.1, r :: x.2))
    else some (r, { r with sent := some t } :: rest)

/-- The port in whose service the toll unit answers. -/
def State.tollPort (s : State) : Option Port := s.portOf .toll

/-- A frame to the gantry, while the TOLL port is in service. -/
def toGantry (f : Frame) (s : State) : State :=
  match s.tollPort with
  | some p => sendService p f s
  | none => s

/-- R87: DELIVERED with the delivered mark, if the mark is not none. -/
def sendDelivered (s : State) : State :=
  match s.toll.delivered with
  | some n => toGantry (deliveredFrame n) s
  | none => s

/-! ### The channel (R88 to R97) -/

/-- R92: the toll unit could send a record if the queue had room. -/
def tollWants (s : State) : Bool :=
  decide (s.toll.chan = .opened) && s.toll.journal.any (fun r => !r.isSent) &&
    decide (sentCount s.toll.journal < Config.sendWindow)

/-- R88: the newest number sent since entering OPEN, when `n` is sent: a record sent again behind the mark leaves the mark
as it is (notes/assumptions/43.md). -/
def newestSent (mark : Option (BitVec 16)) (n : BitVec 16) : BitVec 16 :=
  match mark with
  | some m => if atOrBefore n m then m else n
  | none => n

/-- R92: one TOLL-REC, the three conditions holding. -/
def sendRecord (s : State) : State :=
  match s.toll.bound, sendOldest s.now s.toll.journal with
  | some centre, some (r, j) =>
    let s' := (offer kTollRec (natByte centre) (tollBodyBytes r.number r.body) s).1
    s'.setToll { s'.toll with journal := j, sendMark := some (newestSent s.toll.sendMark r.number) }
  | _, _ => s

/-- R92: the sending test, at most `k` records. -/
def sendRecords : Nat → State → State
  | 0, s => s
  | k + 1, s => if tollWants s && s.insertRoom .b then sendRecords k (sendRecord s) else s

/-- R92: the sending test. No more than 16 records can be SENT, so no more are sent at once. -/
def testSend (s : State) : State := sendRecords Config.sendWindow s

/-- R90: the start number: the oldest record's, or the next number. -/
def startNumber (u : TollUnit) : BitVec 16 :=
  match u.journal with
  | r :: _ => r.number
  | [] => u.next

/-- R90: a TOLL-SYNC with the start number is offered to the bound centre. -/
def offerSync (s : State) : State :=
  match s.toll.bound with
  | some c => offerCounted kTollSync (natByte c) (wordBytes s.toll.start) s
  | none => s

/-- R90: the channel enters SYNCING toward a centre. -/
def enterSyncing (centre : Nat) (s : State) : State :=
  offerSync (s.setToll { s.toll with
    chan := .syncing, bound := some centre, start := startNumber s.toll, journal := allNew s.toll.journal,
    expiries := 0, sendMark := none, syncTimer := some (s.now + Config.syncTime) })

/-- R90, R93 to R95: the channel enters SYNCING toward the centre it is bound to. -/
def resync (s : State) : State :=
  match s.toll.bound with
  | some c => enterSyncing c s
  | none => s

/-- R89: the channel becomes CLOSED. -/
def closeChannel (s : State) : State :=
  s.setToll { s.toll with
    chan := .closed, bound := none, journal := allNew s.toll.journal, expiries := 0, sendMark := none,
    syncTimer := none }

/-- R89, R96: the channel follows the toll centre now selected. A station without a TOLL port keeps it CLOSED. -/
def followTollCentre (s : State) : State :=
  if s.tollPort.isSome ∧ s.phase = .active then
    match s.tollCentre with
    | some c => enterSyncing c s
    | none => if s.toll.chan = .closed then s else closeChannel s
  else s

/-- R90: the sync timer reaches 500 ms. -/
def syncExpired (s : State) : State :=
  match s.toll.syncTimer with
  | some d =>
    if s.toll.chan = .syncing then
      offerSync ((reach d s).setToll { s.toll with syncTimer := some (d + Config.syncTime) })
    else s
  | none => s

/-- R94: the retransmit deadline: 400 ms after the later of last progress and the time sent of the oldest SENT
record; `none` while no record is SENT. -/
def retransmitAt (u : TollUnit) : Option Time :=
  match u.journal.find? (·.isSent) with
  | some r => some (max (u.progress.getD 0) (r.sent.getD 0) + Config.retransmitTime)
  | none => none

/-- R94: the go-back. -/
def goBack (s : State) : State :=
  let s := s.setToll { s.toll with journal := allNew s.toll.journal, expiries := s.toll.expiries + 1 }
  if Config.maxExpiries ≤ s.toll.expiries then resync s else testSend s

/-- R94: the retransmit deadline is reached. -/
def retransmit (s : State) : State :=
  match retransmitAt s.toll with
  | some d => if s.toll.chan = .opened then goBack (reach d s) else s
  | none => s

/-- R91: one more stray answer. -/
def strayAnswer (s : State) : State := modTollCounters (fun c => { c with stray := bump c.stray }) s

/-- R93: a number lies from `o`, the journal's oldest, through `n`. -/
def isThrough (o n : BitVec 16) (r : TollRecord) : Bool := decide ((r.number - o).toNat ≤ (n - o).toNat)

/-- R93: the records of a journal from number `o`, its oldest, through `n`. -/
def recordsThrough (o n : BitVec 16) (j : List TollRecord) : List TollRecord := j.takeWhile (isThrough o n)

/-- R93: the records of a journal behind those from number `o`, its oldest, through `n`. -/
def recordsBehind (o n : BitVec 16) (j : List TollRecord) : List TollRecord := j.dropWhile (isThrough o n)

/-- R93 case 3: every record from the oldest, `o`, through `n` is removed. R85, R87: the delivered mark becomes the number
of the newest of them. -/
def ackProgress (o n : BitVec 16) (s : State) : State :=
  testSend (sendDelivered (s.setToll { s.toll with
    journal := recordsBehind o n s.toll.journal,
    delivered := (recordsThrough o n s.toll.journal).getLast?.map (·.number),
    expiries := 0, progress := some s.now }))

/-- R93: the answer acknowledges a record that this channel has not sent since it opened: the send mark is none, or `n`
is after it. -/
def beyondMark (mark : Option (BitVec 16)) (n : BitVec 16) : Bool :=
  match mark with
  | none => true
  | some m => !atOrBefore n m

/-- R93: a PLAIN answer in OPEN. -/
def plainAnswer (n : BitVec 16) (s : State) : State :=
  if beyondMark s.toll.sendMark n then
    resync (modTollCounters (fun c => { c with outOfStep := bump c.outOfStep }) s)
  else
    match s.toll.journal with
    | [] => s
    | r :: _ => if isBefore n r.number then s else ackProgress r.number n s

/-- R91: SYNC with the start number opens a SYNCING channel. -/
def syncAnswer (n : BitVec 16) (s : State) : State :=
  if n = s.toll.start then
    testSend (s.setToll { s.toll with chan := .opened, syncTimer := none, progress := some s.now, sendMark := none })
  else s

/-- R91: a TOLL-ACK delivered in ACTIVE. -/
def tollAck (source : Nat) (answer : Byte) (n : BitVec 16) (s : State) : State :=
  if s.toll.bound ≠ some source then strayAnswer s
  else if answer ≠ ackPlain ∧ answer ≠ ackSync ∧ answer ≠ ackUnsynced then strayAnswer s
  else
    match s.toll.chan with
    | .closed => s
    | .syncing => if answer = ackSync then syncAnswer n s else s
    | .opened =>
      if answer = ackPlain then plainAnswer n s
      else if answer = ackUnsynced then resync (modTollCounters (fun c => { c with unsynced := bump c.unsynced }) s)
      else s

/-! ### Intake (R86) -/

/-- R86: a record joins the journal's tail and is answered TAKEN. -/
def takeRecord (body : List Byte) (s : State) : State :=
  testSend (toGantry (takenFrame s.toll.next) (s.setToll { s.toll with
    journal := s.toll.journal ++ [⟨s.toll.next, body, none⟩], next := s.toll.next + 1 }))

/-- R86: BUSY. -/
def recordBusy (s : State) : State :=
  toGantry tollBusyFrame (modTollCounters (fun c => { c with busy := bump c.busy }) s)

/-- R86: a RECORD frame from the gantry, its port being UP. -/
def tollRecordIn (body : List Byte) (s : State) : State :=
  if ¬(s.phase = .starting ∨ s.phase = .active) then recordBusy s
  else if body.length = 0 ∨ 48 < body.length then
    toGantry rejectedFrame (modTollCounters (fun c => { c with rejected := bump c.rejected }) s)
  else if s.toll.journal.length < Config.journalSize then takeRecord body s
  else recordBusy s

/-! ### The receive table (R98 to R101) -/

/-- The expected number of a source; `none` is UNSYNCED. -/
def State.expected (s : State) (source : Nat) : Option (BitVec 16) := (s.toll.receive[source]?).join

/-- Set the entry of a source. -/
def setExpected (source : Nat) (e : Option (BitVec 16)) (s : State) : State :=
  s.setToll { s.toll with receive := s.toll.receive.setIfInBounds source e }

/-- R99, R100: a TOLL-ACK to a source. -/
def answerToll (source : Nat) (answer : Byte) (n : BitVec 16) (s : State) : State :=
  offerCounted kTollAck (natByte source) (ackBytes answer n) s

/-- R99: a TOLL-SYNC delivered in ACTIVE. -/
def tollSyncIn (source : Nat) (start : BitVec 16) (s : State) : State :=
  if s.isCentre then answerToll source ackSync start (setExpected source (some start) s) else strayAnswer s

/-- R101: the receive table has delivery room. -/
def deliveryRoom (s : State) : Bool :=
  match s.portOf .centre with
  | some p =>
    s.inService p && (decide (s.centre.delivery.length < Config.deliverySize) || holdsCell s.centre.delivery)
  | none => false

/-- R100: a TOLL-REC delivered in ACTIVE. That one with a body length of 0 or above 48 is judged like any other is the
model's choice (notes/assumptions/40.md). -/
def tollRecIn (source : Nat) (q : TollBody) (s : State) : State :=
  if s.isCentre then
    match s.expected source with
    | none => answerToll source ackUnsynced q.number s
    | some e =>
      if q.number = e then
        if deliveryRoom s then
          answerToll source ackPlain q.number
            (setExpected source (some (e + 1)) (placeDelivery (tollRecordFrame (natByte source) q.number q.body) s))
        else modTollCounters (fun c => { c with noRoom := bump c.noRoom }) s
      else if isBefore q.number e then
        answerToll source ackPlain (e - 1) (modTollCounters (fun c => { c with repeats := bump c.repeats }) s)
      else answerToll source ackPlain (e - 1) (modTollCounters (fun c => { c with gaps := bump c.gaps }) s)
  else strayAnswer s

/-! ### Downstream messages (R102 to R105) -/

/-- R102, R103: a TOLL-DOWN that is not acted on. -/
def downRefused (s : State) : State := modTollCounters (fun c => { c with downRefused := bump c.downRefused }) s

/-- R103: the entry that can be emptied: its centre is not this station and is not heard as a centre. -/
def downStale (s : State) (e : Option DownEntry) : Bool :=
  match e with
  | none => false
  | some e => decide (s.own ≠ some e.centre) && !s.centreHeard e.centre

/-- R103: which entry a TOLL-DOWN from a centre uses, and whether it is bound by this cell. Where both entries are empty,
and where both can be emptied, that it is entry 0 is the model's choice (notes/assumptions/40.md). -/
def downEntryFor (centre : Nat) (s : State) : Option (Fin 2 × Bool) :=
  let e0 := s.toll.down[(0 : Fin 2)]
  let e1 := s.toll.down[(1 : Fin 2)]
  if e0.map (·.centre) = some centre then some (0, false)
  else if e1.map (·.centre) = some centre then some (1, false)
  else if e0.isNone then some (0, true)
  else if e1.isNone then some (1, true)
  else if downStale s e0 then some (0, true)
  else if downStale s e1 then some (1, true)
  else none

/-- Write a downstream entry. -/
def setDown (i : Fin 2) (e : Option DownEntry) (s : State) : State :=
  s.setToll { s.toll with down := s.toll.down.set i e }

/-- R104: DOWN-MSG to the gantry; the entry then expects the next counter. -/
def sendDown (i : Fin 2) (centre : Nat) (q : TollBody) (s : State) : State :=
  toGantry (downMsgFrame centre q.number q.body) (setDown i (some ⟨centre, q.number + 1⟩) s)

/-- R104: a TOLL-DOWN at a port in service, against the expected counter `x` of an entry bound before. -/
def downAgainst (i : Fin 2) (centre : Nat) (x : BitVec 16) (q : TollBody) (s : State) : State :=
  if q.number = x then sendDown i centre q s
  else if isBefore q.number x then modTollCounters (fun c => { c with downRepeats := bump c.downRepeats }) s
  else
    sendDown i centre q (toGantry (gapFrame centre x (q.number - 1))
      (modTollCounters (fun c => { c with downMissing := bumpBy c.downMissing (q.number - x).toNat }) s))

/-- R105: a TOLL-DOWN while the port is not in service. -/
def downUndelivered (s : State) : State :=
  modTollCounters (fun c => { c with downUndelivered := bump c.downUndelivered }) s

/-- R103 to R105: an accepted TOLL-DOWN from a centre. That one refused while the port is out of service counts as
refused only is the model's choice (notes/assumptions/40.md). -/
def downAccepted (p : Port) (centre : Nat) (q : TollBody) (s : State) : State :=
  match downEntryFor centre s with
  | none => downRefused s
  | some (i, true) =>
    if s.inService p then sendDown i centre q s else downUndelivered (setDown i (some ⟨centre, q.number⟩) s)
  | some (i, false) =>
    if s.inService p then
      match s.toll.down[i] with
      | some e => downAgainst i centre e.expected q s
      | none => s
    else downUndelivered s

/-- R102: a TOLL-DOWN handed to the toll unit in ACTIVE, delivered by unicast or copied. -/
def tollDownIn (ownPort delivered : Bool) (source : Nat) (q : TollBody) (s : State) : State :=
  match s.tollPort with
  | none => downRefused s
  | some p =>
    if delivered && (ownPort || s.centreHeard source) && decide (1 ≤ q.length ∧ q.length ≤ 48) then
      downAccepted p source q s
    else downRefused s

/-! ### Notices (R96, R98, R103) -/

/-- R103: an entry that names a restarted station is emptied. -/
def emptyDown (station : Nat) (e : Option DownEntry) : Option DownEntry :=
  if e.map (·.centre) = some station then none else e

/-- R96, R98, R103: a restart notice for a station. -/
def restartNotice (station : Nat) (s : State) : State :=
  let s := (setExpected station none s)
  let s := s.setToll { s.toll with down := s.toll.down.map (emptyDown station) }
  if s.toll.bound = some station ∧ s.toll.chan ≠ .closed then resync s else s

/-- R87: the TOLL port returns to service. -/
def tollLinkUp (s : State) : State := sendDelivered s

end Sys2Proof.Machine
end

