-- ==== Sys2Proof/Machine/Weather.lean ====
section
/-! DEFINITION. The weather unit (chapter 9): polls, readings, windows and averages, alarm levels, reports and alarms on
the loop, and the weather view. -/

namespace Sys2Proof.Machine

/-! ### Quantities (chapter 9's table) -/

/-- The range of a numeric quantity, in the order of chapter 9's table: surface temperature, air temperature, dew point,
visibility, gust, mean wind, ambient light. -/
def quantityRange (i : Fin 7) : Int × Int :=
  if i.val ≤ 2 then (-400, 800) else if i.val = 3 then (0, 10000) else if i.val ≤ 5 then (0, 750) else (0, 100000)

/-- A value held to a range. -/
def clampTo (lo hi v : Int) : Int := if v < lo then lo else if hi < v then hi else v

/-- R163 step 1: a value of quantity `i`, clamped. -/
def clampValue (i : Fin 7) (v : BitVec 32) : Int := clampTo (quantityRange i).1 (quantityRange i).2 v.toInt

/-- The surface state of a code. -/
def readSurface (b : Byte) : Option Surface :=
  if b = 0 then some .dry else if b = 1 then some .damp else if b = 2 then some .wet else if b = 3 then some .ice
  else none

/-- The precipitation of a code. -/
def readPrecip (b : Byte) : Option Precip :=
  if b = 0 then some .none else if b = 1 then some .rain else if b = 2 then some .snow else none

/-! ### Taking a reading (R163) -/

/-- R163 steps 1 and 2: a quantity after its value, or absent mark, in a reading. -/
def takeValue (now : Time) (i : Fin 7) (v : Option (BitVec 32)) (q : Quantity) : Quantity :=
  match v with
  | none => { q with latest := none }
  | some x =>
    { window := (if q.window.length < Config.windowSize then q.window else q.window.drop 1) ++ [⟨clampValue i x, now⟩],
      last := some now, latest := some (clampValue i x) }

/-- R163: the value of quantity `i` is clamped. -/
def isClamped (i : Fin 7) (v : Option (BitVec 32)) : Bool :=
  match v with
  | none => false
  | some x => decide (clampValue i x ≠ x.toInt)

/-- R163: how much the clamped count rises by: numeric values clamped and codes outside their lists. -/
def clampedIn (r : Reading) : Nat :=
  (List.finRange 7).countP (fun i => isClamped i r.numeric[i])
    + (if r.surface.isSome && (r.surface.bind readSurface).isNone then 1 else 0)
    + (if r.precip.isSome && (r.precip.bind readPrecip).isNone then 1 else 0)

/-- R163: the weather unit after it has taken a reading. -/
def takeReading (now : Time) (r : Reading) (w : Weather) : Weather :=
  { w with
    quantities := Vector.ofFn (fun i => takeValue now i r.numeric[i] w.quantities[i])
    surface := r.surface.bind readSurface
    precip := r.precip.bind readPrecip
    held := match r.surface.bind readSurface with
      | some x => some (x, now)
      | none => w.held
    clamped := bumpBy w.clamped (clampedIn r) }

/-! ### Windows and averages (R164, R165) -/

/-- R164: a moment lies less than six times the poll interval back. -/
def fresh (now : Time) (interval : Nat) (taken : Time) : Bool :=
  decide (now < taken + Config.windowSize * interval * Config.second)

/-- R165 step 1: samples and the held surface state age out. -/
def ageOut (now : Time) (w : Weather) : Weather :=
  { w with
    quantities := w.quantities.map (fun q => { q with window := q.window.filter (fun x => fresh now w.interval x.taken) })
    held := w.held.filter (fun h => fresh now w.interval h.2) }

/-- R164: a window with fewer than 3 samples is stale. -/
def Quantity.stale (q : Quantity) : Bool := decide (q.window.length < Config.freshSamples)

/-- The sum of a window. -/
def Quantity.sum (q : Quantity) : Int := (q.window.map (·.value)).sum

/-- R165 step 2: floor((2S + n) / (2n)), and none for an empty window. -/
def Quantity.average (q : Quantity) : Option Int :=
  if q.window.isEmpty then none else some ((2 * q.sum + q.window.length) / (2 * q.window.length))

/-- R165 step 2: the window maximum. -/
def Quantity.maximum (q : Quantity) : Option Int := (q.window.map (·.value)).max?

/-- R165 step 3: the spread, when neither air temperature nor dew point is stale. -/
def Weather.spread (w : Weather) : Option Int :=
  if w.quantities[1].stale || w.quantities[2].stale then none
  else
    match w.quantities[1].average, w.quantities[2].average with
    | some a, some d => some (a - d)
    | _, _ => none

/-! ### Judging (R166, R167) -/

/-- R166: the spread exists and is at or below a threshold. -/
def spreadAtMost (w : Weather) (t : Int) : Bool :=
  match w.spread with
  | some x => decide (x ≤ t)
  | none => false

/-- R166: the held surface state is one of these. -/
def heldIn (w : Weather) (xs : List Surface) : Bool :=
  match w.held with
  | some h => xs.contains h.1
  | none => false

/-- The level of the highest enter condition that holds. -/
def enterLevel (e1 e2 : Bool) : Level := if e2 then .two else if e1 then .one else .zero

/-- R166: the level after, from enter level `e`, the leave conditions and the level before. -/
def judged (e : Level) (leave1 leave2 : Bool) : Level → Level
  | .unknown => e
  | .zero => e
  | .one => if e = .two then .two else if leave1 then .zero else .one
  | .two => if leave2 then .one else .two

/-- R167: the level of an alarm whose deciding input is stale. -/
def staleLevel (now : Time) (last : Option Time) (l : Level) : Level :=
  match last with
  | none => .unknown
  | some t => if t + Config.staleHold ≤ now then .unknown else l

/-- R166, R167: the ICE level after an evaluation. -/
def judgeIce (now : Time) (w : Weather) : Level :=
  if w.quantities[0].stale then staleLevel now w.quantities[0].last w.ice
  else
    let a := w.quantities[0].average.getD 0
    judged
      (enterLevel
        (decide (a ≤ w.thresholds.ice1) && (spreadAtMost w w.thresholds.spread1 || heldIn w [.damp, .wet, .ice]))
        (decide (a ≤ w.thresholds.ice2) && (spreadAtMost w w.thresholds.spread2 || heldIn w [.wet, .ice])))
      (decide (w.thresholds.ice1 + 10 < a)) (decide (w.thresholds.ice2 + 10 < a)) w.ice

/-- R166, R167: the FOG level after an evaluation. -/
def judgeFog (now : Time) (w : Weather) : Level :=
  if w.quantities[3].stale then staleLevel now w.quantities[3].last w.fog
  else
    let a := w.quantities[3].average.getD 0
    judged (enterLevel (decide (a < w.thresholds.fog1)) (decide (a < w.thresholds.fog2)))
      (decide (5 * w.thresholds.fog1 < 4 * a)) (decide (5 * w.thresholds.fog2 < 4 * a)) w.fog

/-- R166, R167: the WIND level after an evaluation. -/
def judgeWind (now : Time) (w : Weather) : Level :=
  if w.quantities[4].stale then staleLevel now w.quantities[4].last w.wind
  else
    let m := w.quantities[4].maximum.getD 0
    judged (enterLevel (decide (w.thresholds.wind1 ≤ m)) (decide (w.thresholds.wind2 ≤ m)))
      (decide (m < w.thresholds.wind1 - 30)) (decide (m < w.thresholds.wind2 - 30)) w.wind

/-- R165 steps 1 to 4: the weather unit after ageing and judging. -/
def judge (now : Time) (w : Weather) : Weather :=
  let w := ageOut now w
  { w with ice := judgeIce now w, fog := judgeFog now w, wind := judgeWind now w }

/-! ### Cells (R169 to R171) -/

/-- R171: the code of a level. -/
def levelByte : Level → Byte
  | .zero => 0
  | .one => 1
  | .two => 2
  | .unknown => 3

/-- R171: the payload of WX-ALARM. -/
def alarmBytes (w : Weather) : List Byte := [levelByte w.ice, levelByte w.fog, levelByte w.wind]

/-- R171: a WX-ALARM is offered; accepted or refused, it starts the alarm timer again. -/
def sendAlarm (s : State) : State :=
  let s := offerCounted kWxAlarm allStations (alarmBytes s.weather) s
  s.setWeather { s.weather with alarmTimer := some (s.now + Config.alarmTime) }

/-- R170: a 2-byte value, 0 where there is none. R170 gives size and range only: that a negative value is coded in two's
complement is the model's choice (notes/assumptions/5.md). -/
def valueWord (v : Option Int) : List Byte := wordBytes (BitVec.ofInt 16 (v.getD 0))

/-- R170: a 3-byte value, 0 where there is none. -/
def valueTriple (v : Option Int) : List Byte := tripleBytes (BitVec.ofInt 24 (v.getD 0))

/-- The code of a surface state, or 255 when absent (R170). -/
def surfaceByte : Option Surface → Byte
  | none => 255
  | some .dry => 0
  | some .damp => 1
  | some .wet => 2
  | some .ice => 3

/-- The code of a precipitation, or 255 when absent (R170). -/
def precipByte : Option Precip → Byte
  | none => 255
  | some .none => 0
  | some .rain => 1
  | some .snow => 2

/-- A flag as bit `n` of a byte or word. -/
def flagBit (w : Nat) (b : Bool) (n : Nat) : BitVec w := if b then BitVec.ofNat w (2 ^ n) else 0

/-- R170, R184: the stale flags, bit n for the nth numeric quantity. -/
def staleFlags (w : Weather) : Byte :=
  (List.finRange 7).foldl (fun acc i => acc ||| flagBit 8 w.quantities[i].stale i.val) 0

/-- R170: the absent flags, bit n for the nth quantity of chapter 9's table. -/
def absentFlags (w : Weather) : BitVec 16 :=
  (List.finRange 7).foldl (fun acc i => acc ||| flagBit 16 w.quantities[i].latest.isNone i.val) 0
    ||| flagBit 16 w.surface.isNone 7 ||| flagBit 16 w.precip.isNone 8

/-- R170: the outcome codes. -/
def outcomeAnswered : Byte := 1
def outcomeMissed : Byte := 2

/-- R170: the payload of WX-REPORT. -/
def reportBytes (outcome : Byte) (w : Weather) : List Byte :=
  wordBytes w.pollNumber ++ [outcome]
    ++ (w.quantities.toList.take 6).flatMap (fun q => valueWord q.average)
    ++ (w.quantities.toList.take 6).flatMap (fun q => valueWord q.latest)
    ++ valueTriple w.quantities[6].average ++ valueTriple w.quantities[6].latest
    ++ valueWord w.quantities[4].maximum
    ++ [surfaceByte w.surface, precipByte w.precip]
    ++ w.quantities.toList.map (fun q => natByte q.window.length)
    ++ [staleFlags w] ++ wordBytes (absentFlags w) ++ alarmBytes w

/-- R169: the stations a WX-REPORT goes to: the selected centre and, when it is another station, the toll centre; none
when no centre is selected. R169 does not say which of two copies is offered first: that it is the selected centre's, so
that one insert place left goes to it, is the model's choice (notes/assumptions/35.md). -/
def reportTo (s : State) : List Nat :=
  match s.selectedCentre with
  | some c => c :: (s.tollCentre.filter (fun t => decide (t ≠ c))).toList
  | none => []

/-- R170: a WX-REPORT to each station of a list, built at one moment. -/
def sendReportTo (bytes : List Byte) : List Nat → State → State
  | [], s => s
  | c :: rest, s => sendReportTo bytes rest (offerCounted kWxReport (natByte c) bytes s)

/-- R170: WX-REPORT. -/
def sendReport (outcome : Byte) (s : State) : State := sendReportTo (reportBytes outcome s.weather) (reportTo s) s

/-! ### The evaluation (R165) -/

/-- R173: the weather unit evaluates in STARTING and ACTIVE. -/
def weatherRuns (s : State) : Bool := decide (s.phase = .starting) || decide (s.phase = .active)

/-- R165 step 5: the alarm levels have changed. -/
def levelsChanged (before after : Weather) : Bool :=
  decide (before.ice ≠ after.ice) || decide (before.fog ≠ after.fog) || decide (before.wind ≠ after.wind)

/-- R165 step 5: a change of a level is reported and, in ACTIVE, sent as WX-ALARM. -/
def tellLevels (before : Weather) (s : State) : State :=
  if levelsChanged before s.weather then
    let s := respond s
    if s.phase = .active then sendAlarm s else s
  else s

/-- R165 step 6: the light average goes to the display controllers when ambient light is not stale. -/
def tellLight (s : State) : State :=
  if s.weather.quantities[6].stale then s else evaluateBrightness (s.weather.quantities[6].average.getD 0) s

/-- R165: an evaluation; `outcome` is the outcome code of the poll, none for a suspended poll. -/
def evaluate (outcome : Option Byte) (s : State) : State :=
  if weatherRuns s then
    let s' := tellLight (tellLevels s.weather (s.setWeather (judge s.now s.weather)))
    match outcome with
    | some o => if s'.phase = .active then sendReport o s' else s'
    | none => s'
  else s

/-! ### Polls (R161 to R163) -/

/-- R161: a poll time at the WEATHER port. -/
def pollAt (p : Port) (s : State) : State :=
  if s.inService p then
    if weatherRuns s then
      sendService p readFrameOut (s.setWeather { s.weather with
        pollNumber := s.weather.pollNumber + 1, reply := some (s.now + Config.replyTime) })
    else s
  else evaluate none s

/-- R161: the poll timer reaches the poll interval. -/
def poll (s : State) : State :=
  match s.weather.pollTimer, s.portOf .weather with
  | some d, some p =>
    pollAt p ((reach d s).setWeather { s.weather with
      pollTimer := some (d + s.weather.interval * Config.second) })
  | _, _ => s

/-- R163: a READING from the station. -/
def readingIn (r : Reading) (s : State) : State :=
  match s.weather.reply with
  | some _ =>
    evaluate (some outcomeAnswered) (s.setWeather { takeReading s.now r s.weather with reply := none })
  | none => s.setWeather { s.weather with lateReplies := bump s.weather.lateReplies }

/-- R163: every latest value becomes absent. -/
def clearLatest (w : Weather) : Weather :=
  { w with quantities := w.quantities.map (fun q => { q with latest := none }), surface := none, precip := none }

/-- R163: the reply timer reaches 2 s: the poll is missed. -/
def replyExpired (s : State) : State :=
  match s.weather.reply with
  | some d =>
    evaluate (some outcomeMissed) ((reach d s).setWeather { clearLatest s.weather with
      reply := none, missedPolls := bump s.weather.missedPolls })
  | none => s

/-- R163: the WEATHER port leaves service: a poll in AWAITING counts as suspended. -/
def weatherLinkLeft (s : State) : State :=
  match s.weather.reply with
  | some _ => evaluate none (s.setWeather { s.weather with reply := none })
  | none => s

/-- R171: the alarm timer reaches 10 s. -/
def alarmExpired (s : State) : State :=
  match s.weather.alarmTimer with
  | some d => if s.phase = .active then sendAlarm (reach d s) else s
  | none => s

/-- R173: the weather unit of a station that enters MUTE. -/
def weatherMute (s : State) : State :=
  s.setWeather { s.weather with pollTimer := none, alarmTimer := none, reply := none }

/-! ### The weather view (R172) -/

/-- The level of a code 0 to 3. -/
def readLevel (b : Byte) : Option Level :=
  if b = 0 then some .zero else if b = 1 then some .one else if b = 2 then some .two else if b = 3 then some .unknown
  else none

/-- R172: the levels a WX-ALARM carries, if no code is above 3. -/
def readAlarmCell (b : List Byte) : Option (Level × Level × Level) :=
  match readLevel (byteAt b 0), readLevel (byteAt b 1), readLevel (byteAt b 2) with
  | some i, some f, some w => some (i, f, w)
  | _, _, _ => none

/-- Write an entry of the view. -/
def setView (station : Nat) (e : Option ViewEntry) (s : State) : State :=
  s.setWeather { s.weather with view := s.weather.view.setIfInBounds station e }

/-- R172: a WX-ALARM of another station, copied in STARTING or ACTIVE. -/
def alarmCopied (source : Nat) (payload : List Byte) (s : State) : State :=
  if weatherRuns s then
    match readAlarmCell payload with
    | none => s
    | some (i, f, w) =>
      let s' := setView source (some ⟨i, f, w, s.now⟩) s
      match s.viewOf source with
      | none => respond s'
      | some e => if e.ice = i ∧ e.fog = f ∧ e.wind = w then s' else respond s'
  else s

/-- R172: the view entry of a station reaches 35 s. -/
def viewExpired (station : Nat) (s : State) : State :=
  match s.viewOf station with
  | some e => respond (setView station none (reach (e.refreshed + Config.viewAge) s))
  | none => s

/-- R172: the number of entries. -/
def viewCount (w : Weather) : Nat := w.view.toList.countP (·.isSome)

/-! ### WX-RATE and WX-LIMITS (R162, R168) -/

/-- R162: WX-RATE. -/
def setRate (interval : Byte) (s : State) : State :=
  let n := if interval.toNat < 5 then 5 else if 60 < interval.toNat then 60 else interval.toNat
  s.setWeather { s.weather with interval := n, pollTimer := some (s.now + n * Config.second) }

/-- R168: thresholds of ICE. -/
def setIce (q : LimitParams) (s : State) : State :=
  let l1 := clampTo (-400) 800 q.level1.toInt
  let l2 := clampTo (-400) 800 q.level2.toInt
  let p1 := clampTo (-1200) 1200 q.spread1.toInt
  let p2 := clampTo (-1200) 1200 q.spread2.toInt
  if l2 < l1 ∧ p2 < p1 then
    s.setWeather { s.weather with
      thresholds := { s.weather.thresholds with ice1 := l1, ice2 := l2, spread1 := p1, spread2 := p2 } }
  else reject .range s

/-- R168: thresholds of FOG. -/
def setFog (q : LimitParams) (s : State) : State :=
  let l1 := clampTo 0 10000 q.level1.toInt
  let l2 := clampTo 0 10000 q.level2.toInt
  if l2 < l1 then
    s.setWeather { s.weather with thresholds := { s.weather.thresholds with fog1 := l1, fog2 := l2 } }
  else reject .range s

/-- R168: thresholds of WIND. -/
def setWind (q : LimitParams) (s : State) : State :=
  let l1 := clampTo 0 750 q.level1.toInt
  let l2 := clampTo 0 750 q.level2.toInt
  if l1 < l2 then
    s.setWeather { s.weather with thresholds := { s.weather.thresholds with wind1 := l1, wind2 := l2 } }
  else reject .range s

/-- R168: WX-LIMITS. -/
def setLimits (q : LimitParams) (s : State) : State :=
  match readAlarm q.kind with
  | some .ice => setIce q s
  | some .fog => setFog q s
  | some .wind => setWind q s
  | none => reject .range s

end Sys2Proof.Machine
end

