-- ==== Sys2Proof/Machine/Centre.lean ====
section
/-! DEFINITION. The centre port (R182, R183) up to its intake FIFO and delivery queue, and the STATUS report (R184). -/

namespace Sys2Proof.Machine

/-! ### Intake of CELL frames (R182) -/

/-- The kinds the centre equipment may send (R182). -/
def intakeKind (k : Byte) : Bool :=
  decide (k = kVoice) || decide (k = kCommand) || decide (k = kTollDown) || decide (k = kPlate) || decide (k = kPass)

/-- A valid destination code: 1 to 60, 64 to 95 or 255 (00_scope.md, Destination codes). -/
def validDest (b : Byte) : Bool :=
  decide ((1 ≤ b.toNat ∧ b.toNat ≤ 60) ∨ (64 ≤ b.toNat ∧ b.toNat ≤ 95) ∨ b.toNat = 255)

/-- The cell of 60 bytes; its check is computed when it joins an insert queue (R7). -/
def cellOf (bytes : List Byte) : Cell :=
  { kind := byteAt bytes 0, source := byteAt bytes 1, dest := byteAt bytes 2, hops := byteAt bytes 3,
    payload := bytes.drop 4, check := 0 }

/-- R182: a CELL frame that can join the FIFO. -/
def intakeFrameGood (bytes : List Byte) : Bool :=
  decide (bytes.length = 60) && intakeKind (byteAt bytes 0) && validDest (byteAt bytes 2)

/-- R182: the FIFO comes to hold 64 cells: PAUSE is sent and the mark set. -/
def pauseIfFull (p : Port) (s : State) : State :=
  if s.centre.intake.length = Config.intakeSize then
    sendService p pauseFrame (s.setCentre { s.centre with paused := true })
  else s

/-- R182: a CELL frame from the centre equipment, its port being UP. -/
def intakeFrame (p : Port) (bytes : List Byte) (s : State) : State :=
  if s.phase = .strapFault ∨ s.phase = .mute then s
  else if intakeFrameGood bytes then
    if s.centre.intake.length < Config.intakeSize then
      pauseIfFull p (s.setCentre { s.centre with intake := s.centre.intake ++ [cellOf bytes] })
    else modPortCounts (fun c => { c with intakeOverflow := bump c.intakeOverflow }) s
  else modPortCounts (fun c => { c with intakeRefused := bump c.intakeRefused }) s

/-- R178: the CENTRE port reaches UP: PAUSE or GO as the intake state stands, and delivery restarts. -/
def centreLinkUp (p : Port) (s : State) : State :=
  startNext p (sendService p (if s.centre.paused then pauseFrame else goFrame) s)

/-! ### Offers to the centre port (R20, R183) -/

/-- R183: the kinds whose delivered cells go to the centre equipment. -/
def deliveredKind (k : Byte) : Bool :=
  decide (k = kVoice) || decide (k = kWxReport) || decide (k = kStatus) || decide (k = kPass)

/-- R183: a cell that the receive filter delivers or copies, as it arrived. -/
def offerCentre (delivered : Bool) (c : Cell) (s : State) : State :=
  if (delivered && deliveredKind c.kind)
      || (!delivered && decide (c.dest = allStations) && decide (classOf c.kind = .c)) then
    placeDelivery (cellFrameOf c) s
  else s

/-! ### STATUS (R184) -/

/-! The codes of the state fields: the order in which the defining rule lists the values, starting at 0. -/

def phaseByte : Phase → Byte
  | .strapFault => 0
  | .starting => 1
  | .active => 2
  | .mute => 3

def lineStateByte : LineState → Byte
  | .down => 0
  | .proving => 1
  | .up => 2

def causeByte : DownCause → Byte
  | .none => 0
  | .silence => 1
  | .errors => 2
  | .farDeaf => 3

/-- NONE codes as 0 (R184), then the order of R54. -/
def rejectByte : RejectReason → Byte
  | .none => 0
  | .notCentre => 1
  | .unknown => 2
  | .range => 3
  | .state => 4
  | .port => 5

def linkByte : Link → Byte
  | .down => 0
  | .up => 1
  | .mismatch => 2
  | .pass => 3

def callStateByte : CallState → Byte
  | .idle => 0
  | .waiting => 1
  | .claiming => 2
  | .ringing => 3
  | .connected => 4
  | .backoff => 5

def displayByte : DisplayState → Byte
  | .pass => 0
  | .noSign => 1
  | .dark => 2
  | .updating => 3
  | .steady => 4

def channelByte : ChannelState → Byte
  | .closed => 0
  | .syncing => 1
  | .opened => 2

/-- R184: the report of one line: state, last down cause, far-end number and fold state, down-event count. -/
def lineBytes (l : LineUnit) : List Byte :=
  [lineStateByte l.state, causeByte l.cause, l.farNumber.setWidth 8, foldByte l.farFold] ++ wordBytes l.downEvents

/-- R48: the number of present entries. -/
def heardCount (s : State) : Nat := s.station.heard.toList.countP (·.present)

/-- R48: the number of present entries whose fold state is not NORMAL. -/
def foldedCount (s : State) : Nat := s.station.heard.toList.countP (fun e => e.present && decide (e.fold ≠ .normal))

/-- The ports of a profile, in port order. -/
def portsOf (s : State) (k : Profile) : List Port := (List.finRange 4).filter (fun p => decide (s.profile p = k))

/-- R184 section 0, byte 4. -/
def conflictByte (s : State) : Byte :=
  flagBit 8 s.straps.conflicts[0] 0 ||| flagBit 8 s.straps.conflicts[1] 1 ||| flagBit 8 s.straps.conflicts[2] 2
    ||| flagBit 8 s.straps.conflicts[3] 3 ||| flagBit 8 s.station.duplicateFlag 4

/-- R184: section 0. -/
def statusSection0 (s : State) : List Byte :=
  [0, s.station.reportNumber, phaseByte s.phase, foldByte s.fold, conflictByte s]
    ++ lineBytes s.lines.u ++ lineBytes s.lines.d
    ++ wordBytes s.ring.flushed
    ++ [natByte (heardCount s), natByte (foldedCount s)]
    ++ wordBytes s.station.rejects ++ [rejectByte s.station.lastReject]
    ++ (List.finRange 4).flatMap (fun p => [profileByte (s.profile p), linkByte s.ports[p].link])
    ++ wordBytes s.ring.badU ++ wordBytes s.ring.badD ++ wordBytes s.ring.malformed ++ wordBytes s.ring.lineDown
    ++ wordBytes s.ring.expired ++ wordBytes s.ring.undeliverable ++ wordBytes s.ring.transitDrops
    ++ wordBytes s.ring.insertDrops

/-- R184: the nine bytes of a PHONE port. -/
def phoneBytes (ph : Phone) : List Byte :=
  [callStateByte ph.state, natByte ph.priority, match ph.circuit with | some c => natByte c.val | none => 255]
    ++ wordBytes ph.late ++ wordBytes ph.overflow ++ wordBytes ph.underrun

/-- R184: the ten bytes of a SIGN port. -/
def signBytes (s : State) (p : Port) : List Byte :=
  [natByte (selectedPage s.signs[p]).val, displayByte (displayState s p), natByte s.signs[p].stage,
   natByte s.signs[p].faultCount]
    ++ wordBytes s.signs[p].verifyFails ++ wordBytes s.signs[p].missedTotal ++ wordBytes s.signs[p].busyCount

/-- The bytes of the first or second port of a list, or zeros if absent. -/
def portBytes (f : Port → List Byte) (n : Nat) : Option Port → List Byte
  | some p => f p
  | none => List.replicate n 0

/-- R184: section 1. -/
def statusSection1 (s : State) : List Byte :=
  let phones := portsOf s .phone
  let signs := portsOf s .sign
  [1, s.station.reportNumber, natByte s.call.floor]
    ++ portBytes (fun p => phoneBytes s.call.phones[p]) 9 phones[0]?
    ++ portBytes (fun p => phoneBytes s.call.phones[p]) 9 phones[1]?
    ++ portBytes (signBytes s) 10 signs[0]? ++ portBytes (signBytes s) 10 signs[1]?
    ++ wordBytes (BitVec.ofNat 16 (freeBlocks s.plates)) ++ [natByte (presentPlates s.plates).length]
    ++ wordBytes s.plates.plateRange ++ wordBytes s.plates.storeFull ++ wordBytes s.plates.loadBroken
    ++ wordBytes s.plates.displaced ++ wordBytes s.plates.strayParts

/-- R184: the twelve toll counters of R106, in its order. -/
def tollCountBytes (c : TollCounters) : List Byte :=
  wordBytes c.busy ++ wordBytes c.rejected ++ wordBytes c.stray ++ wordBytes c.outOfStep ++ wordBytes c.unsynced
    ++ wordBytes c.repeats ++ wordBytes c.gaps ++ wordBytes c.noRoom ++ wordBytes c.downRefused
    ++ wordBytes c.downRepeats ++ wordBytes c.downMissing ++ wordBytes c.downUndelivered

/-- R184: section 2. -/
def statusSection2 (s : State) : List Byte :=
  [2, s.station.reportNumber, channelByte s.toll.chan, natByte s.toll.journal.length]
    ++ tollCountBytes s.toll.counters
    ++ wordBytes s.portCounts.badFrames ++ wordBytes s.portCounts.frameDrops ++ wordBytes s.portCounts.intakeRefused
    ++ wordBytes s.portCounts.intakeOverflow ++ wordBytes s.portCounts.deliveryDrops ++ wordBytes s.portCounts.strayPass
    ++ alarmBytes s.weather ++ [staleFlags s.weather, natByte (viewCount s.weather), natByte s.weather.interval]
    ++ wordBytes s.weather.clamped ++ wordBytes s.weather.missedPolls ++ wordBytes s.weather.lateReplies

/-- R184: the stations a report goes to: those of a WX-REPORT, and the toll centre also where no centre is selected; that
the selected centre's copy is offered first is the model's choice (notes/assumptions/35.md). -/
def statusTo (s : State) : List Nat := if s.selectedCentre.isNone then s.tollCentre.toList else reportTo s

/-- R184: one STATUS cell to each station of a list. -/
def sendStatusTo (bytes : List Byte) : List Nat → State → State
  | [], s => s
  | c :: rest, s => sendStatusTo bytes rest (offerCounted kStatus (natByte c) bytes s)

/-- R184: a centre station's own STATUS cell goes into its own delivery queue (notes/assumptions/17.md). -/
def keepStatus (bytes : List Byte) (s : State) : State :=
  if s.isCentre then placeDelivery (cellFrameOf (originate kStatus s.ownByte bytes s)) s else s

/-- R184: one section of a report, to the stations of a list and to the own delivery queue. -/
def sendSection (bytes : List Byte) (stations : List Nat) (s : State) : State :=
  keepStatus bytes (sendStatusTo bytes stations s)

/-- R184: a report: three sections built at one moment. That the later sections do not show the drops that sending the
earlier ones causes is the model's choice (notes/assumptions/46.md). -/
def sendStatus (s : State) : State :=
  let s' := sendSection (statusSection2 s) (statusTo s)
    (sendSection (statusSection1 s) (statusTo s) (sendSection (statusSection0 s) (statusTo s) s))
  s'.setStation { s'.station with reportNumber := s'.station.reportNumber + 1 }

/-- R184: the end of a 5 s period. -/
def statusPeriodEnds (s : State) : State :=
  match s.station.statusAt with
  | none => s
  | some d =>
    if s.phase = .active ∨ s.phase = .mute then
      sendStatus ((reach d s).setStation { s.station with statusAt := some (d + Config.statusTime) })
    else s

end Sys2Proof.Machine
end

