-- ==== Sys2Proof/Machine/Ports.lean ====
section
/-! DEFINITION. The port units (chapter 10): frames and their handling, link supervision, and pass mode. -/

namespace Sys2Proof.Machine

/-- R176: the frame that a port unit is reading from now on. -/
def setRx (p : Port) (x : Option PartFrame) (s : State) : State := s.setRx (s.rx.set p x)

/-! ### Link changes and the service (R178) -/

/-- R178: the service of a port is told that its link has left UP. -/
def tellLeft (p : Port) (s : State) : State :=
  match s.profile p with
  | .none => s
  | .phone => phoneLinkLeft p s
  | .sign => signLinkLeft p s
  | .weather => weatherLinkLeft s
  | .toll => s
  | .centre => s

/-- R178: the service of a port is told that its link has reached UP. -/
def tellUp (p : Port) (s : State) : State :=
  match s.profile p with
  | .none => s
  | .phone => phoneLinkUp p s
  | .sign => signLinkUp p s
  | .weather => s
  | .toll => tollLinkUp s
  | .centre => centreLinkUp p s

/-- The link of a port enters a state; when it leaves UP so, its transmit frame queue is emptied (R176) and its service
told. -/
def leaveTo (p : Port) (link : Link) (s : State) : State :=
  if s.ports[p].link = .up then tellLeft p (modPort p (fun u => { u with link := link, queue := [] }) s)
  else modPort p (fun u => { u with link := link }) s

/-- R177: a valid frame restarts the silence timer. -/
def restartSilence (p : Port) (s : State) : State :=
  modPort p (fun u => { u with silence := some (s.now + Config.portSilence) }) s

/-- R177: the node's IDENT. -/
def sendIdent (p : Port) (s : State) : State := sendFrame p (identFrame s.straps.number p (s.profile p)) s

/-- R177: the link goes DOWN, for silence or for a sign lost. -/
def portDown (p : Port) (s : State) : State := leaveTo p .down (modPort p (fun u => { u with silence := none }) s)

/-! ### IDENT (R177, R122) -/

/-- R122: a sign's width and height lie within their ranges. -/
def goodGeometry (w h : Byte) : Bool := decide (8 ≤ w.toNat ∧ w.toNat ≤ 192 ∧ 8 ≤ h.toNat ∧ h.toNat ≤ 64)

/-- R177: an IDENT of the right kind. A sign's IDENT without width and height is of the wrong kind; those of another kind
of equipment are not read (notes/assumptions/6.md). -/
def rightKind (k : Profile) (kind : Byte) (size : Option (Byte × Byte)) : Bool :=
  decide (kind = profileByte k) && (decide (k ≠ .sign) ||
    match size with
    | some (w, h) => goodGeometry w h
    | none => false)

/-- R122: the IDENT that brings a SIGN port UP sets its geometry. -/
def setGeometry (p : Port) (size : Option (Byte × Byte)) (s : State) : State :=
  if s.profile p = .sign then
    modSign p (fun g => { g with geometry := size.map (fun x => (x.1.toNat, x.2.toNat)) }) s
  else s

/-- R177, R178: an IDENT of the right kind brings the port UP, afresh when it was UP (notes/assumptions/18.md). -/
def identRight (p : Port) (size : Option (Byte × Byte)) (s : State) : State :=
  let s := leaveTo p .down s
  let s := restartSilence p (modPort p (fun u => { u with link := .up }) s)
  tellUp p (sendIdent p (setGeometry p size s))

/-- R177: an IDENT of the wrong kind. -/
def identWrong (p : Port) (s : State) : State := sendIdent p (restartSilence p (leaveTo p .mismatch s))

/-- R177: an IDENT on a port that is not in PASS. -/
def identIn (p : Port) (kind : Byte) (size : Option (Byte × Byte)) (s : State) : State :=
  if rightKind (s.profile p) kind size then identRight p size s else identWrong p s

/-! ### Pass mode (R179 to R181) -/

/-- R179: the idle time an idle code names; code 3 is no limit. -/
def idleTime (code : BitVec 2) : Option Time :=
  if code = 0 then some (2 * Config.second)
  else if code = 1 then some (8 * Config.second)
  else if code = 2 then some (32 * Config.second)
  else none

/-- R180: the idle timer restarts. -/
def restartIdle (p : Port) (s : State) : State :=
  modPort p (fun u => { u with idleTimer := (idleTime u.idleCode).map (s.now + ·) }) s

/-- R180: the gather buffer is sent as one PASS cell and starts empty again. A station that is not ACTIVE offers
none (R43, R181). -/
def sendGather (p : Port) (s : State) : State :=
  let s' := modPort p (fun u => { u with gather := [], gatherTimer := none }) s
  match s.ports[p].opening with
  | some centre =>
    if s.phase = .active ∧ s.ports[p].gather ≠ [] then
      offerCounted kPass (natByte centre) (passBytes p s.ports[p].gather) s'
    else s'
  | none => s'

/-- R180: one byte from the equipment in PASS. -/
def passByteIn (p : Port) (b : Byte) (s : State) : State :=
  let s' := restartIdle p (modPort p (fun u =>
    { u with gather := u.gather ++ [b],
             gatherTimer := if u.gather.isEmpty then some (s.now + Config.gatherTime) else u.gatherTimer }) s)
  if Config.gatherSize ≤ s'.ports[p].gather.length then sendGather p s' else s'

/-- R180: bytes from the equipment, in order. -/
def passBytesIn (p : Port) : List Byte → State → State
  | [], s => s
  | b :: rest, s => passBytesIn p rest (passByteIn p b s)

/-- R180: 20 ms have passed since the first byte of the gather buffer. -/
def gatherExpired (p : Port) (s : State) : State :=
  match s.ports[p].gatherTimer with
  | some d => if s.ports[p].link = .pass then sendGather p (reach d s) else s
  | none => s

/-- R181: the end of pass mode. -/
def endPass (p : Port) (s : State) : State :=
  sendIdent p (modPort p (fun u => { u with link := .down, silence := none, idleTimer := none, opening := none })
    (sendGather p s))

/-- R181: the idle timer reaches the time its code names. -/
def idleExpired (p : Port) (s : State) : State :=
  match s.ports[p].idleTimer with
  | some d => if s.ports[p].link = .pass then endPass p (reach d s) else s
  | none => s

/-- R181: the line signal of a port goes or returns. -/
def lineSignal (p : Port) (present : Bool) (s : State) : State :=
  if s.profile p = .none then s
  else
    modPort p (fun u =>
      { u with lineLoss := if present then none
                           else match u.lineLoss with
                             | some d => some d
                             | none => some (s.now + Config.lineLossTime) }) s

/-- R181: the line-loss timer reaches 1 s. -/
def lineLossExpired (p : Port) (s : State) : State :=
  match s.ports[p].lineLoss with
  | some d =>
    let s' := modPort p (fun u => { u with lineLoss := none }) (reach d s)
    if s.ports[p].link = .pass then endPass p s' else s'
  | none => s

/-- R45, R181: a port of a station that enters MUTE. -/
def portMute (p : Port) (s : State) : State := if s.ports[p].link = .pass then endPass p s else s

/-- R179: pass mode opens toward a centre. A frame that was being read is forgotten (notes/assumptions/37.md). -/
def openPass (p : Port) (centre : Nat) (code : BitVec 2) (s : State) : State :=
  let s := setRx p none (leaveTo p .pass s)
  restartIdle p (modPort p (fun u =>
    { u with silence := none, queue := [], gather := [], gatherTimer := none, opening := some centre,
             idleCode := code }) s)

/-- R179: PASS-OPEN on a port. R179 states no order for its two refusals: that a code above 3 is rejected with RANGE also
at a port already in PASS is the model's choice (notes/assumptions/47.md). -/
def passOpenOn (centre : Nat) (idle : Byte) (p : Port) (s : State) : State :=
  if 3 < idle.toNat then reject .range s
  else if s.ports[p].link = .pass then reject .state s
  else openPass p centre (idle.setWidth 2) s

/-- R181: PASS-CLOSE on a port. -/
def passCloseOn (p : Port) (s : State) : State :=
  if s.ports[p].link = .pass then endPass p s else reject .state s

/-- R180: the port that a delivered PASS cell is written out to. -/
def passTarget (source : Nat) (payload : List Byte) (s : State) : Option Port :=
  if (byteAt payload 0).toNat ≤ 3 ∧ s.ports[portAt payload 0].link = .pass ∧
      s.ports[portAt payload 0].opening = some source ∧
      1 ≤ (byteAt payload 1).toNat ∧ (byteAt payload 1).toNat ≤ 48 then
    some (portAt payload 0)
  else none

/-- R180: a PASS cell delivered to this station. -/
def passDelivered (source : Nat) (payload : List Byte) (s : State) : State :=
  match passTarget source payload s with
  | some p =>
    restartIdle p (modPort p (fun u => { u with written := (payload.drop 2).take (byteAt payload 1).toNat }) s)
  | none =>
    if s.isCentre then s else modPortCounts (fun c => { c with strayPass := bump c.strayPass }) s

/-! ### Frames from the equipment (R176, R177) -/

/-- R176: one more bad frame. -/
def badFrameIn (s : State) : State := modPortCounts (fun c => { c with badFrames := bump c.badFrames }) s

/-- What the port's service does with a frame other than IDENT. One whose key or picture no rule names is valid and does
nothing here (notes/assumptions/38.md). -/
def serviceFrame (p : Port) : RxFrame → State → State
  | .ident _ _, s => s
  | .alive, s => s
  | .offHook b, s =>
    match readKey b with
    | some key => settle (phoneOffHook p key s)
    | none => s
  | .onHook, s => settle (phoneOnHook p s)
  | .answer, s => settle (phoneAnswer p s)
  | .samples v, s => phoneSamples p v s
  | .ready, s => signReady p s
  | .busy, s => signBusy p s
  | .rowsTaken b, s =>
    match readPic b with
    | some pic => signRowsTaken p pic s
    | none => s
  | .shown b cs, s =>
    match readPic b with
    | some pic => signShown p pic cs s
    | none => s
  | .reading r, s => readingIn r s
  | .record body, s => tollRecordIn body s
  | .cell bytes, s => intakeFrame p bytes s

/-- R177: a valid frame other than IDENT, by the link state. -/
def frameIn (p : Port) (f : RxFrame) (s : State) : State :=
  match s.ports[p].link with
  | .up => serviceFrame p f (restartSilence p s)
  | .mismatch => restartSilence p s
  | .down => s
  | .pass => s

/-- R177: a valid frame. -/
def validFrame (p : Port) (f : RxFrame) (s : State) : State :=
  match f with
  | .ident kind size => identIn p kind size s
  | _ => frameIn p f s

/-- R176: the length of a SAMPLES frame is 40; the other frames' shapes leave no wrong length. -/
def lengthGood : RxFrame → Bool
  | .samples v => decide (v.length = 40)
  | _ => true

/-- The bytes of a frame that carries this check. -/
def frameBytesWith (f : Frame) (check : BitVec 16) : List Byte :=
  startFlag :: f.type :: BitVec.ofNat 8 f.payload.length :: f.payload ++ wordBytes check

/-- R176: the frame that the bytes behind a start flag spell, its check and the bytes behind it; none while its last byte
has not come. -/
def frameAt : List Byte → Option (Frame × BitVec 16 × List Byte)
  | type :: length :: rest =>
    if length.toNat + 2 ≤ rest.length then
      some (⟨type, rest.take length.toNat⟩, wordAt (rest.drop length.toNat) 0, rest.drop (length.toNat + 2))
    else none
  | _ => none

/-- R176: what a whole frame is to a port of this profile, if it is valid: its check is good, its type is one that the
profile receives, and its length is one that the type allows. -/
def goodFrame (profile : Profile) (f : Frame) (check : BitVec 16) : Option RxFrame :=
  if check = frameCheck f then (readFrame f).filter (receives profile) else none

/-- R176: the port unit reads its link byte by byte. Bytes before a start flag are ignored; a valid frame goes to link
supervision and the service; a discarded frame is counted, and the search goes on from the byte after its flag. A frame
whose last byte has not come is kept, or discarded too where the bytes have `stopped`. No more steps than bytes are
needed. -/
def readBytes (p : Port) (stopped : Bool) : Nat → List Byte → State → State
  | 0, _, s => s
  | _ + 1, [], s => s
  | k + 1, b :: rest, s =>
    if b ≠ startFlag then readBytes p stopped k rest s
    else
      match frameAt rest with
      | some (f, check, behind) =>
        match goodFrame (s.profile p) f check with
        | some r => readBytes p stopped k behind (validFrame p r s)
        | none => readBytes p stopped k rest (badFrameIn s)
      | none =>
        if stopped then readBytes p stopped k rest (badFrameIn s)
        else setRx p (some ⟨b :: rest, s.now + Config.byteTime⟩) s

/-- R176: the bytes of the frame being read. -/
def bytesRead (p : Port) (s : State) : List Byte :=
  match s.rx[p] with
  | some x => x.bytes
  | none => []

/-- R176: bytes arrive on the link of a port that reads frames, behind those of the frame being read. -/
def takeBytes (p : Port) (stopped : Bool) (bytes : List Byte) (s : State) : State :=
  readBytes p stopped (bytesRead p s ++ bytes).length (bytesRead p s ++ bytes) (setRx p none s)

/-- R175, R176, R179: bytes from the equipment. A port treated as NONE discards every byte; a port in PASS reads no frame
and takes the bytes (notes/assumptions/23.md). -/
def linkBytes (p : Port) (stopped : Bool) (bytes : List Byte) (s : State) : State :=
  if s.profile p = .none then s
  else if s.ports[p].link = .pass then passBytesIn p bytes s
  else takeBytes p stopped bytes s

/-- The port unit reads frames, waits for a start flag, and would take this frame as valid. -/
def readsWhole (p : Port) (f : RxFrame) (s : State) : Bool :=
  decide (s.profile p ≠ .none ∧ s.ports[p].link ≠ .pass ∧ s.rx[p] = none) && receives (s.profile p) f && lengthGood f

/-- R176: a frame with a good check arrives: its bytes do, and one that the port unit reads as valid is taken whole. -/
def frameArrives (p : Port) (f : RxFrame) (s : State) : State :=
  if readsWhole p f s then validFrame p f s else linkBytes p false (frameBytes (rxFrame f)) s

/-- R176: a frame as it stands on the link, with its check, arrives. -/
def rawFrame (p : Port) (f : Frame) (check : BitVec 16) (s : State) : State := linkBytes p false (frameBytesWith f check) s

/-- R176, R180: one byte from the equipment arrives. -/
def equipmentByte (p : Port) (b : Byte) (s : State) : State := linkBytes p false [b] s

/-- R176: the bytes of the frame being read have stopped for more than 10 ms: it is discarded, and so is each frame behind
its flag whose last byte has not come (notes/assumptions/37.md). -/
def byteTimeout (p : Port) (s : State) : State :=
  match s.rx[p] with
  | some x => linkBytes p true [] (reach x.timer s)
  | none => s

/-! ### Timers and frames sent (R176, R177, R183) -/

/-- R177: the silence timer reaches 1 s. -/
def portSilenceExpired (p : Port) (s : State) : State :=
  match s.ports[p].silence with
  | some d => portDown p (reach d s)
  | none => s

/-- R152: the answer timer of a sign expires. -/
def answerExpired (p : Port) (s : State) : State :=
  match s.signs[p].answerTimer, s.signs[p].transfer with
  | some d, some t =>
    let s := modSign p (fun g => { g with missed := g.missed + 1, missedTotal := bump g.missedTotal,
                                          answerTimer := none }) (reach d s)
    if Config.maxMissed ≤ s.signs[p].missed then portDown p s else resendStep p t s
  | _, _ => s

/-- R177: 200 ms have passed since a frame was last sent on a port that is UP. -/
def aliveDue (p : Port) (s : State) : State :=
  if s.ports[p].link = .up then sendFrame p aliveFrame (reach (s.ports[p].lastSent + Config.aliveTime) s) else s

/-- R176, R183: the frame being sent is of this kind: from the delivery queue or from the transmit frame queue. -/
def sendingIs (p : Port) (delivery : Bool) (s : State) : Bool :=
  match s.ports[p].sending with
  | some x => x.delivery == delivery
  | none => false

/-- R176, R183: a frame of this kind finishes sending, and the next one starts. -/
def frameSent (p : Port) (delivery : Bool) (s : State) : State :=
  if sendingIs p delivery s then startNext p (modPort p (fun u => { u with sending := none }) s) else s

/-- R183: a delivery queue frame finishes sending on the CENTRE port. -/
def deliverySent (s : State) : State :=
  match s.portOf .centre with
  | some p => frameSent p true s
  | none => s

end Sys2Proof.Machine
end

