-- ==== Sys2Proof/Machine/Station.lean ====
section
/-! DEFINITION. The station table (chapter 3): HELLO, the heard table and the selections, phases and duplicates. -/

namespace Sys2Proof.Machine

/-! ### HELLO (R46) -/

/-- R46: the toll-receive flag: a centre station whose CENTRE port's link is UP. -/
def tollReceives (s : State) : Bool :=
  match s.portOf .centre with
  | some p => s.inService p
  | none => false

/-- R46: the HELLO the station would send now. -/
def helloNow (s : State) : Hello :=
  { stamp := s.station.stamp, fold := s.fold, restart := s.station.restartFlag, centre := s.isCentre,
    tollReceive := tollReceives s, duplicate := s.station.duplicateFlag,
    profiles := s.straps.profiles.map profileByte }

/-- R42, R46: a HELLO is offered; once one that carries the restart flag is accepted, the flag is cleared. -/
def sendHello (s : State) : State :=
  match offer kHello allStations (helloBytes (helloNow s)) s with
  | (s, true) => s.setStation { s.station with restartFlag := false }
  | (s, false) => insertDrop s

/-- R46: the end of a HELLO period. -/
def helloPeriodEnds (s : State) : State :=
  match s.station.helloAt with
  | none => s
  | some d =>
    if s.phase = .active ∨ s.phase = .mute then
      sendHello ((reach d s).setStation { s.station with helloAt := some (d + Config.helloTime) })
    else s

/-! ### Selections (R49) -/

/-- R49: the call unit and the toll unit are told of the selections that came out otherwise than before. That
the call unit is told first is the model's choice (notes/assumptions/39.md). -/
def tellSelections (before : State) (s : State) : State :=
  let s := if s.selectedCentre ≠ before.selectedCentre then testClaim s else s
  if s.tollCentre ≠ before.tollCentre then followTollCentre s else s

/-- Write an entry of the heard table. -/
def setHeard (station : Nat) (e : HeardEntry) (s : State) : State :=
  s.setStation { s.station with heard := s.station.heard.setIfInBounds station e }

/-- R47, R48: a heard entry is replaced and the change told: to the response table, to the call unit when the entry is
removed (R75), and by the selections (R49). The order is the model's choice (notes/assumptions/39.md). -/
def changeHeard (station : Nat) (e : HeardEntry) (s : State) : State :=
  let s' := respond (setHeard station e s)
  tellSelections s (if e.present then s' else targetRemoved station s')

/-! ### HELLO of another station (R47) -/

/-- R47: the entry a HELLO leaves. -/
def heardAfter (now : Time) (h : Hello) : HeardEntry :=
  if h.duplicate then absentEntry
  else { present := true, refreshed := now, stamp := some h.stamp, fold := h.fold, centre := h.centre,
         tollReceive := h.tollReceive }

/-- R47: a restart notice is due: the restart flag; a present entry with another stamp; or a creation after expiry with
another stamp than the one last held. -/
def restartSeen (e : HeardEntry) (h : Hello) : Bool :=
  h.restart || (e.stamp.isSome && decide (e.stamp ≠ some h.stamp) && (e.present || !h.duplicate))

/-- R47: the entry is created or removed, or its centre flag or toll-receive flag changes. -/
def heardChanges (e e' : HeardEntry) : Bool :=
  decide (e.present ≠ e'.present) || decide (e.centre ≠ e'.centre) || decide (e.tollReceive ≠ e'.tollReceive)

/-- R47: the restart notice goes to the toll unit before the new entry changes the selections
(notes/assumptions/13.md). -/
def noteRestart (source : Nat) (h : Hello) (s : State) : State :=
  if restartSeen (s.heardOf source) h then restartNotice source s else s

/-- R47: a HELLO of another station, copied. A station in STRAP-FAULT keeps no heard table (R43). -/
def helloCopied (source : Nat) (h : Hello) (s : State) : State :=
  if s.phase = .strapFault ∨ s.own = some source then s
  else
    let e := s.heardOf source
    let s := noteRestart source h s
    if e.present = false ∧ h.duplicate = true then s
    else if heardChanges e (heardAfter s.now h) then changeHeard source (heardAfter s.now h) s
    else setHeard source (heardAfter s.now h) s

/-- R48: an entry removed by expiry keeps its last stamp. -/
def expiredEntry (e : HeardEntry) : HeardEntry := { absentEntry with stamp := e.stamp }

/-- R48: the heard entry of a station reaches 3.5 s. -/
def heardExpired (station : Nat) (s : State) : State :=
  if (s.heardOf station).present then
    changeHeard station (expiredEntry (s.heardOf station)) (reach ((s.heardOf station).refreshed + Config.entryAge) s)
  else s

/-! ### Phases (R42, R44, R45) -/

/-- R42: the state of the station table at the end of the listening time. -/
def becomeActive (d : Time) (s : State) : State :=
  let s := reach d s
  let s := s.setStation { s.station with
    phase := .active, listening := none, stamp := startCounter s, restartFlag := true,
    helloAt := some (d + Config.helloTime), statusAt := some (d + Config.statusTime) }
  s.setCall { s.call with holdAt := some (d + Config.holdTime) }

/-- R171: a station with a WEATHER port sends WX-ALARM on entering ACTIVE. -/
def firstAlarm (s : State) : State := if (s.portOf .weather).isSome then sendAlarm s else s

/-- R42: the listening timer reaches 3 s: the station becomes ACTIVE, sends its first HELLO, and its units start
(R81, R89, R171). -/
def listeningExpired (s : State) : State :=
  match s.station.listening with
  | some d =>
    if s.phase = .starting then firstAlarm (followTollCentre (testClaim (sendHello (becomeActive d s)))) else s
  | none => s

/-- R45: what the entry to MUTE leaves of an insert queue. -/
def keepMuteCells (q : Queues) : Queues :=
  let keep := fun (c : Cell) => decide (c.kind = kHello) || decide (c.kind = kStatus)
  { v := q.v.filter keep, c := q.c.filter keep, b := q.b.filter keep }

/-- R45: both transmitters' insert queues keep HELLO and STATUS only. -/
def purgeInserts (s : State) : State :=
  s.setTx ⟨{ s.tx.u with insert := keepMuteCells s.tx.u.insert }, { s.tx.d with insert := keepMuteCells s.tx.d.insert }⟩

/-- R158: the display controllers are told that the station is MUTE. -/
def signMuteOn (p : Port) (s : State) : State := if s.profile p = .sign then signMute p s else s

/-- R45: the station enters MUTE. That no GO is sent when a paused intake FIFO is emptied is the model's choice
(notes/assumptions/44.md). -/
def enterMute (s : State) : State :=
  let s := s.setStation { s.station with phase := .mute, duplicateFlag := true }
  let s := (purgeInserts s).setCentre { s.centre with intake := [], paused := false }
  forPorts portMute (weatherMute (forPorts signMuteOn (closeChannel (callMute s))))

/-- R44: an own-source HELLO is shown to the station table. -/
def ownHelloShown (stamp : BitVec 16) (s : State) : State :=
  if stamp ≠ s.station.stamp ∧ s.phase = .active then settle (enterMute s) else s

end Sys2Proof.Machine
end

