-- ==== Sys2Proof/Machine/Commands.lean ====
section
/-! DEFINITION. COMMAND cells (R52 to R54): admission, the target port, and what each command does. -/

namespace Sys2Proof.Machine

/-! ### The target port (R53) -/

/-- What a target port resolves to: the ports to act on, or a reject. -/
inductive Target where
  | ports (ps : List Port)
  | refused (r : RejectReason)
  deriving DecidableEq, Repr

/-- R53: a port has a fitting profile. -/
def fits (fit : List Profile) (s : State) (p : Port) : Bool := fit.contains (s.profile p)

/-- R53: a port is concerned by the addressing: by group, only ports in the group's mask are. -/
def concerned (a : Addressing) (s : State) (p : Port) : Bool :=
  match a with
  | .group g => inMask (s.groupMask g) p
  | .unicast => true
  | .all => true

/-- R53: a target that names one port. -/
def resolveOne (a : Addressing) (fit : List Profile) (p : Port) (s : State) : Target :=
  if concerned a s p then (if fits fit s p then .ports [p] else .refused .port) else .ports []

/-- R53: every port of a fitting profile that the addressing concerns, the lower port first. -/
def fittingPorts (a : Addressing) (fit : List Profile) (s : State) : List Port :=
  (List.finRange 4).filter (fun p => concerned a s p && fits fit s p)

/-- R53: the target port of a port command. -/
def resolve (a : Addressing) (fit : List Profile) (target : Byte) (s : State) : Target :=
  if h : target.toNat < 4 then resolveOne a fit ⟨target.toNat, h⟩ s
  else if target = 255 then
    if (fittingPorts a fit s).isEmpty && decide (a = .unicast) then .refused .port
    else .ports (fittingPorts a fit s)
  else .refused .range

/-- Act on each port, in order. -/
def actOnPorts (act : Port → State → State) : List Port → State → State
  | [], s => s
  | p :: rest, s => actOnPorts act rest (act p s)

/-- R53: a port command that acts on each port its target resolves to. -/
def portCommand (a : Addressing) (fit : List Profile) (target : Byte) (act : Port → State → State) (s : State) : State :=
  match resolve a fit target s with
  | .ports ps => actOnPorts act ps s
  | .refused r => reject r s

/-- The profiles of pass mode (R179). -/
def passProfiles : List Profile := [.sign, .weather, .toll]

/-! ### Effects in the station table, the plate store and the page tables -/

/-- R51: the mask with the bits of NONE ports cleared. -/
def usedPorts (s : State) : BitVec 4 := ~~~ maskOf s.straps.profiles .none

/-- R51: GROUP-SET. -/
def setGroup (group mask : Byte) (s : State) : State :=
  if group.toNat ≤ 31 ∧ mask.toNat ≤ 15 then
    s.setStation { s.station with
      groups := s.station.groups.set (Fin.ofNat 32 group.toNat) (mask.setWidth 4 &&& usedPorts s) }
  else reject .range s

/-- R116: one plate is dropped, and reported when it was present. -/
def dropOne (n : Nat) (s : State) : State :=
  match dropPlate n s.plates with
  | (st, true) => plateReported n (s.setPlates st)
  | (_, false) => s

/-- R116: PLATE-DROP. -/
def dropCommand (plate : Byte) (s : State) : State :=
  if plate.toNat ≤ 63 then dropOne plate.toNat s else reject .range s

/-- Drop each plate of a list. -/
def dropEach : List Nat → State → State
  | [], s => s
  | n :: rest, s => dropEach rest (dropOne n s)

/-- R116: PLATE-DROP-ALL. The ascending order, each plate reported before the next is dropped, is the model's choice
(notes/assumptions/39.md). -/
def dropAll (s : State) : State := dropEach (presentPlates s.plates) s

/-- R120: the staging copy as a PAGE-SET finds it: begun afresh, or the open one for the named page. -/
def stagingFor (q : PageParams) (g : Sign) : Option Staging :=
  if q.start then some { page := Fin.ofNat 8 q.page.toNat, layers := Vector.replicate 16 none, highest := none }
  else
    match g.staging with
    | some st => if st.page.val = q.page.toNat then some st else none
    | none => none

/-- R120: one record is written at a position. -/
def writeLayer (st : Staging) (i : Nat) (r : LayerRec) : Staging :=
  { st with layers := st.layers.setIfInBounds i (some r),
            highest := some (match st.highest with | some h => max h i | none => i) }

/-- R120: records are written from a position onward. -/
def writeLayers : Staging → Nat → List LayerRec → Staging
  | st, _, [] => st
  | st, i, r :: rest => writeLayers (writeLayer st i r) (i + 1) rest

/-- R121: the written records up to the highest index, or `none` when a position below it is unwritten. -/
def stagedPage (st : Staging) : Option Page :=
  match st.highest with
  | none => some []
  | some h => (st.layers.toList.take (h + 1)).mapM id

/-- R120: the RANGE tests of PAGE-SET. -/
def pageSetGood (q : PageParams) : Bool :=
  decide (q.page.toNat ≤ 7 ∧ q.n.toNat ≤ 7 ∧ q.first.toNat + q.n.toNat ≤ 16) && q.records.all recValid

/-- R121: the end of a series: commit, or a reject that leaves the staging copy open. -/
def endPage (p : Port) (st : Staging) (s : State) : State :=
  match stagedPage st with
  | some page =>
    pageCommitted p st.page (modSign p (fun g => { g with staging := none, pages := g.pages.set st.page page }) s)
  | none => reject .range (modSign p (fun g => { g with staging := some st }) s)

/-- R120: PAGE-SET on a port. -/
def pageSetOn (q : PageParams) (p : Port) (s : State) : State :=
  if pageSetGood q then
    match stagingFor q s.signs[p] with
    | none => reject .state s
    | some st =>
      let st' := writeLayers st q.first.toNat q.records
      if q.finish then endPage p st' s else modSign p (fun g => { g with staging := some st' }) s
  else reject .range s

/-- R143: SHOW on a port. -/
def showOn (page priority : Byte) (p : Port) (s : State) : State :=
  if page = 255 then removeClaim p .centre s
  else if page.toNat ≤ 7 ∧ 1 ≤ priority.toNat ∧ priority.toNat ≤ 7 then
    placeClaim p .centre (Fin.ofNat 8 page.toNat) priority.toNat s
  else reject .range s

/-- R185: the node is reset with the strap levels its pins have. -/
def restartNode (s : State) : State := resetWith s.pending s.clock s.straps.pins

/-! ### Admission (R52) -/

/-- R52 test 1: the command came in from the own centre port or from a centre that is heard. -/
def fromCentre (via : Via) (s : State) : Bool := via.ownPort || s.centreHeard via.source.toNat

/-- The command is RESTART. -/
def Command.isRestart : Command → Bool
  | .restart => true
  | _ => false

/-- The code is outside 1 to 15. -/
def Command.isUnknown : Command → Bool
  | .unknown _ => true
  | _ => false

/-- R52: the first of the tests 1 to 3, and test 4 for RESTART, that fails. -/
def commandRefused (via : Via) (c : Command) (s : State) : Option RejectReason :=
  if !fromCentre via s then some .notCentre
  else if c.isUnknown then some .unknown
  else if s.phase ≠ .active ∧ c.isRestart = false then some .state
  else if c.isRestart = true ∧ via.addressing ≠ .unicast then some .range
  else none

/-- The source station of a command (R179): this station for one from the own centre port. -/
def commandSource (via : Via) (s : State) : Nat := if via.ownPort then s.ownByte.toNat else via.source.toNat

/-- R52, R53: what an admitted command does. -/
def commandEffect (via : Via) : Command → State → State
  | .groupSet g m, s => setGroup g m s
  | .callFloor f, s => setFloor f s
  | .callPhone t prio, s => portCommand via.addressing [.phone] t (callPhoneOn prio) s
  | .plateDrop n, s => dropCommand n s
  | .plateDropAll, s => dropAll s
  | .pageSet t q, s => portCommand via.addressing [.sign] t (pageSetOn q) s
  | .showPage t page prio, s => portCommand via.addressing [.sign] t (showOn page prio) s
  | .signRestore t, s => portCommand via.addressing [.sign] t restoreSign s
  | .responseSet q, s => setResponse q s
  | .responseClear i, s => clearResponses i s
  | .wxRate t n, s => portCommand via.addressing [.weather] t (fun _ => setRate n) s
  | .wxLimits t q, s => portCommand via.addressing [.weather] t (fun _ => setLimits q) s
  | .passOpen t idle, s => portCommand via.addressing passProfiles t (passOpenOn (commandSource via s) idle) s
  | .passClose t, s => portCommand via.addressing passProfiles t passCloseOn s
  | .restart, s => restartNode s
  | .unknown _, s => s

/-- R50: the station is addressed: a group cell concerns it only while the group's mask is not empty. -/
def addressed (a : Addressing) (s : State) : Bool :=
  match a with
  | .group g => decide (s.groupMask g ≠ 0)
  | .unicast => true
  | .all => true

/-- R43, R52: a COMMAND at the station table. A station in STRAP-FAULT hands it none. -/
def commandArrives (via : Via) (c : Command) (s : State) : State :=
  if s.phase = .strapFault ∨ addressed via.addressing s = false then s
  else
    match commandRefused via c s with
    | some r => reject r s
    | none => commandEffect via c s

end Sys2Proof.Machine
end

