-- ==== Sys2Proof/Machine/Units.lean ====
section
/-! DEFINITION. Handing a delivered or copied cell to the unit that owns its kind (R5, R20, R43, R50), and the move of
the centre intake FIFO's head (R182). -/

namespace Sys2Proof.Machine

/-- The addressing of a valid destination code (00_scope.md, Destination codes). -/
def addressingOf (dest : Byte) : Addressing :=
  if dest = allStations then .all
  else if 64 ≤ dest.toNat ∧ dest.toNat ≤ 95 then .group (Fin.ofNat 32 (dest.toNat - 64))
  else .unicast

/-- R50: whether a cell of this kind and addressing is handed to a unit: a group cell only at a member, and a group
PLATE only where the mask names a SIGN port. -/
def handedOn (kind : Byte) (a : Addressing) (s : State) : Bool :=
  match a with
  | .group g =>
    decide (s.groupMask g ≠ 0) &&
      (decide (kind ≠ kPlate) || decide (s.groupMask g &&& maskOf s.straps.profiles .sign ≠ 0))
  | .unicast => true
  | .all => true

/-- R110: the plate store may act on a PLATE cell from this source. -/
def plateAllowed (ownPort : Bool) (source : Nat) (s : State) : Bool :=
  (s.portOf .sign).isSome && (ownPort || s.centreHeard source)

/-- R110 to R113: a PLATE cell handed to the plate store in ACTIVE. -/
def plateIn (ownPort : Bool) (source : Nat) (payload : List Byte) (s : State) : State :=
  if plateAllowed ownPort source s then
    match platePart (readPlatePart payload) s.now s.plates with
    | (st, some n) => plateReported n (s.setPlates st)
    | (st, none) => s.setPlates st
  else s.setPlates { s.plates with strayParts := bump s.plates.strayParts }

/-- R114: the part timer of an open slot reaches 2 s: the slot is abandoned. -/
def partExpired (k : Fin 2) (s : State) : State :=
  match s.plates.slots[k] with
  | some sl =>
    (reach sl.timer s).setPlates { abandonSlot k s.plates with loadBroken := bump s.plates.loadBroken }
  | none => s

/-- Do something when the station is ACTIVE (R43). -/
def whenActive (f : State → State) (s : State) : State := if s.phase = .active then f s else s

/-- Hand a cell, other than a CLAIM, to the unit that owns its kind. `delivered` tells a unicast cell delivered from a
cell copied; `ownPort` a cell from this station's own centre port. -/
def handPlain (delivered ownPort : Bool) (c : Cell) (s : State) : State :=
  if c.kind = kVoice then
    if delivered then
      whenActive (voiceDelivered c.source.toNat (circuitAt c.payload 0) (byteAt c.payload 1) (readVoice c.payload)) s
    else s
  else if c.kind = kRelease then
    if delivered then s else settle (releaseCopied c.source.toNat (circuitAt c.payload 0) (portAt c.payload 1) s)
  else if c.kind = kHold then (if delivered then s else settle (holdCopied c.source.toNat (readHold c.payload) s))
  else if c.kind = kHello then (if delivered then s else settle (helloCopied c.source.toNat (readHello c.payload) s))
  else if c.kind = kCommand then
    commandArrives ⟨ownPort, c.source, addressingOf c.dest⟩ (readCommand c.payload) s
  else if c.kind = kTollRec then
    if delivered then whenActive (tollRecIn c.source.toNat (readTollBody c.payload)) s else s
  else if c.kind = kTollAck then
    if delivered then whenActive (tollAck c.source.toNat (byteAt c.payload 0) (wordAt c.payload 1)) s else s
  else if c.kind = kTollSync then
    if delivered then whenActive (tollSyncIn c.source.toNat (wordAt c.payload 0)) s else s
  else if c.kind = kTollDown then
    whenActive (tollDownIn ownPort delivered c.source.toNat (readTollBody c.payload)) s
  else if c.kind = kPlate then whenActive (plateIn ownPort c.source.toNat c.payload) s
  else if c.kind = kWxAlarm then (if delivered then s else alarmCopied c.source.toNat c.payload s)
  else if c.kind = kPass then (if delivered then whenActive (passDelivered c.source.toNat c.payload) s else s)
  else s

/-- R20, R64: hand a copied CLAIM to the call unit, which may set its beaten flag. -/
def handClaim (c : Cell) (s : State) : State × Cell :=
  match claimCopied c.source.toNat (readClaim c.payload) s with
  | (s', true) => (settle s', { c with payload := markBeaten c.payload })
  | (s', false) => (settle s', c)

/-- R5, R20: hand a cell to the unit that owns its kind, if R50 lets it pass; the cell as the unit leaves it. -/
def handCell (delivered ownPort : Bool) (c : Cell) (s : State) : State × Cell :=
  if handedOn c.kind (addressingOf c.dest) s then
    if c.kind = kClaim then (if delivered then (s, c) else handClaim c s)
    else (handPlain delivered ownPort c s, c)
  else (s, c)

/-! ### The head of the intake FIFO (R182) -/

/-- R182: a paused FIFO that has fallen to 31 cells sends GO. -/
def goIfLow (s : State) : State :=
  match s.portOf .centre with
  | some p =>
    if s.centre.paused = true ∧ s.centre.intake.length ≤ Config.intakeGo then
      sendService p goFrame (s.setCentre { s.centre with paused := false })
    else s
  | none => s

/-- R182: the cell as the port unit sends it on: this station as source, 127 hops left. -/
def intakeCell (c : Cell) (s : State) : Cell := { c with source := s.ownByte, hops := Config.firstHops }

/-- R4, R7: a cell of the intake FIFO is offered to the insert queue of its class, the payload bytes that its kind leaves
unused as 0. -/
def insertIntake (c : Cell) (s : State) : State := offerCounted c.kind c.dest (clearUnused c.kind c.payload) s

/-- R182: the path a cell from the FIFO takes. -/
def routeIntake (c : Cell) (s : State) : State :=
  if s.own = some c.dest.toNat then (handCell true true c s).1
  else if addressingOf c.dest = .unicast then insertIntake c s
  else
    match handCell false true c s with
    | (s', c') => insertIntake c' s'

/-- R182: the head of the FIFO can move on: ACTIVE, and room in the insert queue of its class. -/
def intakeReady (s : State) : Bool :=
  match s.centre.intake with
  | c :: _ => decide (s.phase = .active) && s.insertRoom (classOf c.kind)
  | [] => false

/-- R182: the head of the FIFO moves on. -/
def moveIntake (s : State) : State :=
  match s.centre.intake with
  | c :: rest =>
    routeIntake (intakeCell c s) (goIfLow (s.setCentre { s.centre with intake := rest }))
  | [] => s

/-- R182: the head of the FIFO moves on if it can. -/
def advanceIntake (s : State) : State := if intakeReady s then moveIntake s else s

end Sys2Proof.Machine
end

