-- ==== Sys2Proof/Machine/Lines.lean ====
section
/-! DEFINITION. Line supervision and folding (chapter 2), and the transmit arbiter (R10 to R12). -/

namespace Sys2Proof.Machine

/-! ### Queue moves of a fold change (R31 to R34) -/

/-- R40: more flushed cells. -/
def countFlushed (n : Nat) (s : State) : State := modRing (fun r => { r with flushed := bumpBy r.flushed n }) s

/-- The cells in three queues. -/
def Queues.total (q : Queues) : Nat := q.v.length + q.c.length + q.b.length

/-- No cells. -/
def Queues.none : Queues := ⟨[], [], []⟩

/-- R31: as many moved cells as fit behind those already waiting. -/
def appendFitting (k : CellClass) (kept moved : List Cell) : List Cell := kept ++ moved.take (transitCapacity k - kept.length)

/-- R31: the transit queues of one transmitter with those of the other appended, class by class. -/
def mergeQueues (kept moved : Queues) : Queues :=
  { v := appendFitting .v kept.v moved.v, c := appendFitting .c kept.c moved.c, b := appendFitting .b kept.b moved.b }

/-- R31, R32: the transit cells of line `l` are moved to the other line; those that do not fit are flushed. -/
def moveTransit (l dest : Line) (s : State) : State :=
  let q := mergeQueues (s.tx.get dest).transit (s.tx.get l).transit
  countFlushed ((s.tx.get dest).transit.total + (s.tx.get l).transit.total - q.total)
    (modTx l (fun t => { t with transit := .none }) (modTx dest (fun t => { t with transit := q }) s))

/-- R33, R34: the transit queues of line `l` are flushed. -/
def flushTransit (l : Line) (s : State) : State :=
  countFlushed (s.tx.get l).transit.total (modTx l (fun t => { t with transit := .none }) s)

/-- R30 to R34: the moves and flushes of a change of fold state. -/
def foldMoves (before after : Fold) (s : State) : State :=
  if after = .isolated then flushTransit .d (flushTransit .u s)
  else if before = .normal ∧ after = .foldD then moveTransit .d .u s
  else if before = .normal ∧ after = .foldU then moveTransit .u .d s
  else if before = .foldD ∧ after = .normal then flushTransit .u s
  else s

/-- R30: a line unit changes, and with its state the fold state; the queue moves follow in the same step, and the toll
unit, whose insert queue may now be another (R7), makes its sending test (R92). -/
def changeLine (l : Line) (f : LineUnit → LineUnit) (s : State) : State :=
  let s' := modLine l f s
  if s'.fold = s.fold then s' else testSend (foldMoves s.fold s'.fold s')

/-! ### Down conditions (R24 to R29) -/

/-- R29: a line unit as it enters DOWN. -/
def downUnit (cause : DownCause) (u : LineUnit) : LineUnit :=
  { u with state := .down, cause := cause, proving := none, farHeard := false, deaf := none,
           downEvents := if u.state = .up then bump u.downEvents else u.downEvents }

/-- R29: a down condition on a line; it has no effect in DOWN. -/
def lineDown (l : Line) (cause : DownCause) (s : State) : State :=
  if (s.lines.get l).state = .down then s else changeLine l (downUnit cause) s

/-- R24: the silence timer expires. -/
def silenceExpired (l : Line) (s : State) : State :=
  match (s.lines.get l).silence with
  | some d => lineDown l .silence (modLine l (fun u => { u with silence := none }) (reach d s))
  | none => s

/-- R25: an error window ends and a new one begins. -/
def windowEnds (l : Line) (s : State) : State :=
  modLine l (fun u => { u with windowEnd := u.windowEnd + Config.errorWindow, windowBad := 0 })
    (reach (s.lines.get l).windowEnd s)

/-- R26: the deaf timer reaches 10 ms: it stops, and outside DOWN the line goes DOWN. -/
def deafExpired (l : Line) (s : State) : State :=
  match (s.lines.get l).deaf with
  | some d => lineDown l .farDeaf (modLine l (fun u => { u with deaf := none }) (reach d s))
  | none => s

/-- R28: the proving timer reaches 500 ms. -/
def provingExpired (l : Line) (s : State) : State :=
  match (s.lines.get l).proving with
  | some d =>
    if (s.lines.get l).state = .proving then
      changeLine l (fun u => { u with state := .up, proving := none }) (reach d s)
    else s
  | none => s

/-- R25: a bad cell is reported; the eighth of a window is the error condition. -/
def badCellReported (l : Line) (s : State) : State :=
  let s' := modLine l (fun u => { u with windowBad := u.windowBad + 1 }) s
  if (s.lines.get l).windowBad + 1 = Config.errorLimit then lineDown l .errors s' else s'

/-! ### Valid words (R24, R26, R27) -/

/-- R24: a valid word restarts the silence timer. -/
def validWord (l : Line) (s : State) : State :=
  modLine l (fun u => { u with silence := some (s.now + Config.lineSilence) }) s

/-- R26: the far-end report and the deaf timer after a valid fill word. -/
def hearFill (now : Time) (w : FillWord) (u : LineUnit) : LineUnit :=
  { u with
    farNumber := w.number, farFold := w.fold, farHeard := w.heard
    deaf := if w.heard then none else match u.deaf with
      | some d => some d
      | none => some (now + Config.deafTime) }

/-- R27: a line in DOWN whose stored heard flag has become 1 enters PROVING. -/
def proveIfHeard (now : Time) (u : LineUnit) : LineUnit :=
  if u.state = .down ∧ u.farHeard = true then
    { u with state := .proving, proving := some (now + Config.provingTime), windowEnd := now + Config.errorWindow,
             windowBad := 0 }
  else u

/-- R3, R26: a fill word arrives; one with a bad check is dropped. -/
def fillArrives (l : Line) (w : FillWord) (good : Bool) (s : State) : State :=
  if good then modLine l (fun u => proveIfHeard s.now (hearFill s.now w u)) (validWord l s) else s

/-! ### The transmit arbiter (R10 to R12) -/

/-- R2: the heard flag of a fill word that starts now on a line: a valid word has arrived in the 2 ms before. -/
def heardFlag (l : Line) (s : State) : Bool :=
  match (s.lines.get l).silence with
  | some d => decide (s.now ≤ d)
  | none => false

/-- Where the arbiter takes a cell from. -/
inductive Pick where
  | transit (k : CellClass)
  | insert (k : CellClass)
  deriving DecidableEq, Repr

/-- R11 step 5: the choice between the two B queues. -/
def pickBulk (t : Transmitter) : Option Pick :=
  if t.insert.b ≠ [] ∧ (t.transit.b = [] ∨ t.fairness = Config.maxFairness) then some (.insert .b)
  else if t.transit.b ≠ [] then some (.transit .b)
  else none

/-- R11: the arbiter's choice. -/
def pick (t : Transmitter) : Option Pick :=
  if t.transit.v ≠ [] then some (.transit .v)
  else if t.insert.v ≠ [] then some (.insert .v)
  else if t.transit.c ≠ [] then some (.transit .c)
  else if t.insert.c ≠ [] then some (.insert .c)
  else pickBulk t

/-- R12: the bulk fairness count after a start. -/
def fairnessAfter (n : Nat) : Pick → Nat
  | .transit .b => if n < Config.maxFairness then n + 1 else n
  | .insert .b => 0
  | _ => n

/-- The queue a pick names. -/
def pickedQueue (t : Transmitter) : Pick → List Cell
  | .transit k => t.transit.get k
  | .insert k => t.insert.get k

/-- The transmitter without the head of the queue a pick names. -/
def dropPicked (t : Transmitter) : Pick → Transmitter
  | .transit k => { t with transit := t.transit.set k ((t.transit.get k).drop 1) }
  | .insert k => { t with insert := t.insert.set k ((t.insert.get k).drop 1) }

/-- R1, R2, R12: the picked cell starts. -/
def startCell (now : Time) (c : Cell) (k : Pick) (t : Transmitter) : Transmitter :=
  { dropPicked t k with
    fairness := fairnessAfter t.fairness k, consecutive := t.consecutive + 1, onLine := .cell c,
    endsAt := now + Config.cellTime }

/-- R1, R2: a fill word starts. -/
def startFill (now : Time) (w : FillWord) (t : Transmitter) : Transmitter :=
  { t with consecutive := 0, onLine := fillOf w, endsAt := now + Config.fillTime }

/-- R10, R11: the choice of a transmitter whose word has ended: a pick and its cell, or a fill word. -/
def chosen (up : Bool) (t : Transmitter) : Option (Pick × Cell) :=
  if up && decide (t.consecutive < Config.maxConsecutive) then
    match pick t with
    | some k => (pickedQueue t k).head?.map (fun c => (k, c))
    | none => none
  else none

/-- R7: the toll unit and the head of the intake FIFO both wait for a place in the B insert queue that R7 names. -/
def bothWait (s : State) : Bool :=
  tollWants s && intakeReady s && decide (s.centre.intake.head?.map (fun c => classOf c.kind) = some .b)

/-- R182: the head of the intake FIFO is addressed to this station, and takes no place in a queue. -/
def headStaysHere (s : State) : Bool :=
  match s.centre.intake with
  | c :: _ => decide (s.own = some c.dest.toNat)
  | [] => false

/-- R7: a place in the B insert queue that R7 names goes to the toll unit and the centre intake FIFO in turn when both
wait for it, beginning with the toll unit. On the intake's turn the head moves on; one that takes no place leaves the
place to be handed out again, with the same turn (notes/assumptions/25.md). The sending test of R92 ends it. -/
def handPlace : Nat → State → State
  | 0, s => testSend s
  | k + 1, s =>
    if bothWait s then
      if s.toll.lastPlace = some .toll then
        if headStaysHere s then handPlace k (moveIntake s)
        else testSend (moveIntake (s.setToll { s.toll with lastPlace := some .intake }))
      else testSend (sendRecord (s.setToll { s.toll with lastPlace := some .toll }))
    else testSend s

/-- R7, R92: a cell has left the B insert queue that R7 names. No more cells move on than the FIFO holds. -/
def placeFreed (s : State) : State := handPlace s.centre.intake.length s

/-- R1, R10, R11: a word has ended on a line and the next one starts. -/
def wordEnds (l : Line) (s : State) : State :=
  let s := reach (s.tx.get l).endsAt s
  match chosen (decide ((s.lines.get l).state = .up)) (s.tx.get l) with
  | some (k, c) =>
    let s' := modTx l (startCell s.now c k) s
    if k = .insert .b ∧ l = insertLine s.fold then placeFreed s' else s'
  | none => modTx l (startFill s.now ⟨s.straps.number, s.fold, heardFlag l s⟩) s

end Sys2Proof.Machine
end

