-- ==== Sys2Proof/Machine/Filter.lean ====
section
/-! DEFINITION. The receive filter (R13 to R20): what becomes of a whole cell that arrives on a line. -/

namespace Sys2Proof.Machine

/-! ### Step 1 (R13) -/

/-- R13: a cell with a good check whose kind, source or destination is invalid. -/
def malformed (c : Cell) : Bool :=
  !(decide (1 ≤ c.kind.toNat ∧ c.kind.toNat ≤ 15) && decide (1 ≤ c.source.toNat ∧ c.source.toNat ≤ 60)
    && validDest c.dest)

/-- R13: one more bad cell of a line, reported to its line unit. -/
def badCell (l : Line) (s : State) : State :=
  badCellReported l (modRing (fun r =>
    match l with
    | .u => { r with badU := bump r.badU }
    | .d => { r with badD := bump r.badD }) s)

/-! ### Routing (R17 to R19) -/

/-- R17, R18: the receive on which own cells are stripped and group and all-stations cells copied. -/
def copyingLine : Fold → Line
  | .foldU => .d
  | _ => .u

/-- The other line. -/
def otherLine : Line → Line
  | .u => .d
  | .d => .u

/-- R19: the transmitter a forwarded cell goes to. -/
def forwardLine (f : Fold) (l : Line) : Line := if f = .normal then otherLine l else l

/-- R19: a cell as it is forwarded: one hop less and a fresh check. -/
def forwarded (c : Cell) : Cell := sealCell { c with hops := c.hops - 1 }

/-- R9: a cell joins the tail of a transit queue, or a full queue turns it away. -/
def enqueueTransit (l : Line) (c : Cell) (s : State) : State :=
  if ((s.tx.get l).transit.get (classOf c.kind)).length < transitCapacity (classOf c.kind) then
    modTx l (fun t =>
      { t with transit := t.transit.set (classOf c.kind) (t.transit.get (classOf c.kind) ++ [c]) }) s
  else modRing (fun r => { r with transitDrops := bump r.transitDrops }) s

/-- R19: step 7. -/
def forward (l : Line) (c : Cell) (s : State) : State := enqueueTransit (forwardLine s.fold l) (forwarded c) s

/-- R20: every cell that the filter delivers or copies is also offered to the centre port of a centre station, as it
arrived. -/
def toCentre (delivered : Bool) (c : Cell) (s : State) : State := if s.isCentre then offerCentre delivered c s else s

/-- R16: step 4, delivery. -/
def deliver (c : Cell) (s : State) : State := toCentre true c (handCell true false c s).1

/-- R18: step 6, copy and forward. -/
def copyForward (l : Line) (c : Cell) (s : State) : State :=
  if l = copyingLine s.fold ∧ addressingOf c.dest ≠ .unicast then
    match handCell false false c s with
    | (s', c') => forward l c' (toCentre false c s')
  else forward l c s

/-- R17: step 5, an own cell is stripped; an own CLAIM comes home (R67). A unicast one, which
no station sends, only counts: the model's choice (notes/assumptions/41.md). -/
def strip (c : Cell) (s : State) : State :=
  if addressingOf c.dest = .unicast then modRing (fun r => { r with undeliverable := bump r.undeliverable }) s
  else if c.kind = kClaim then settle (claimReturned (readClaim c.payload) s)
  else s

/-- R44: an own-source HELLO is shown to the station table before step 5. -/
def showOwnHello (c : Cell) (s : State) : State :=
  if c.kind = kHello ∧ s.own = some c.source.toNat then ownHelloShown (readHello c.payload).stamp s else s

/-- R16 to R20: steps 4 to 7. -/
def routeCell (l : Line) (c : Cell) (s : State) : State :=
  if s.own = some c.dest.toNat then deliver c s
  else if s.own = some c.source.toNat ∧ l = copyingLine s.fold then strip c s
  else copyForward l c s

/-- R14, R15: steps 2 and 3, and what follows them. -/
def judgeCell (l : Line) (c : Cell) (s : State) : State :=
  if (s.lines.get l).state ≠ .up then modRing (fun r => { r with lineDown := bump r.lineDown }) s
  else if c.hops = 0 then modRing (fun r => { r with expired := bump r.expired }) s
  else routeCell l c (showOwnHello c s)

/-- R13 to R20: a whole cell arrives on a line. A cell with a good check is a valid word (R3), malformed or not. -/
def cellArrivesOn (l : Line) (c : Cell) (s : State) : State :=
  if checkGood c then
    if malformed c then modRing (fun r => { r with malformed := bump r.malformed }) (validWord l s)
    else judgeCell l c (validWord l s)
  else badCell l s

end Sys2Proof.Machine
end

