-- ==== Sys2Proof/Machine/CallCommands.lean ====
section
/-! DEFINITION. The meanings of the call unit's commands (chapter 4). -/

namespace Sys2Proof.Machine

/-- OFF_HOOK (R77). -/
def execOffHook (p : Port) (key : Key) (s : State) : Host.Outcome State Fault Refusal :=
  .next (frameArrives p (.offHook (keyByte key)) s)

/-- ON_HOOK (R78). -/
def execOnHook (p : Port) (s : State) : Host.Outcome State Fault Refusal :=
  .next (frameArrives p .onHook s)

/-- ANSWER (R77). -/
def execAnswer (p : Port) (s : State) : Host.Outcome State Fault Refusal :=
  .next (frameArrives p .answer s)

/-- SAMPLES (R82). -/
def execSamples (p : Port) (voice : List Byte) (s : State) : Host.Outcome State Fault Refusal :=
  .next (frameArrives p (.samples voice) s)

/-- ATTEMPT_TIMER_EXPIRES (R69). -/
def execAttemptTimerExpires (s : State) : Host.Outcome State Fault Refusal :=
  .next (settle (attemptExpired s))

/-- BACKOFF_TIMER_EXPIRES (R70). -/
def execBackoffTimerExpires (p : Port) (s : State) : Host.Outcome State Fault Refusal :=
  .next (settle (backoffExpired p s))

/-- HOLD_PERIOD (R71). -/
def execHoldPeriod (s : State) : Host.Outcome State Fault Refusal :=
  .next (holdPeriodEnds s)

/-- REMOTE_ENTRY_EXPIRES (R73). -/
def execRemoteEntryExpires (circuit : Fin 16) (s : State) : Host.Outcome State Fault Refusal :=
  .next (settle (remoteExpired circuit s))

/-- RINGING_TIMER_EXPIRES (R79). -/
def execRingingTimerExpires (p : Port) (s : State) : Host.Outcome State Fault Refusal :=
  .next (settle (ringingExpired p s))

/-- PLAYOUT_TIMER (R84). -/
def execPlayoutTimer (p : Port) (s : State) : Host.Outcome State Fault Refusal :=
  .next (playoutExpired p s)

end Sys2Proof.Machine
end

