-- ==== Sys2Proof/Machine/PortCommands.lean ====
section
/-! DEFINITION. The meanings of the port units' commands, pass mode and the centre port among them (chapter 10). -/

namespace Sys2Proof.Machine

/-- IDENT (R177, R178). -/
def execIdent (p : Port) (kind width height : Byte) (s : State) : Host.Outcome State Fault Refusal :=
  .next (frameArrives p (identOf kind width height) s)

/-- ALIVE (R177). -/
def execAlive (p : Port) (s : State) : Host.Outcome State Fault Refusal :=
  .next (frameArrives p .alive s)

/-- BAD_FRAME (R176). -/
def execBadFrame (p : Port) (frame : Frame) (check : BitVec 16) (s : State) : Host.Outcome State Fault Refusal :=
  .next (rawFrame p frame check s)

/-- FRAME_BYTE_TIMEOUT (R176). -/
def execFrameByteTimeout (p : Port) (s : State) : Host.Outcome State Fault Refusal :=
  .next (byteTimeout p s)

/-- PORT_SILENCE_TIMER_EXPIRES (R177). -/
def execPortSilenceTimerExpires (p : Port) (s : State) : Host.Outcome State Fault Refusal :=
  .next (portSilenceExpired p s)

/-- ALIVE_TIMER (R177). -/
def execAliveTimer (p : Port) (s : State) : Host.Outcome State Fault Refusal :=
  .next (aliveDue p s)

/-- PORT_FRAME_SENT (R176). -/
def execPortFrameSent (p : Port) (s : State) : Host.Outcome State Fault Refusal :=
  .next (frameSent p false s)

/-- PASS_BYTE (R176, R180). -/
def execPassByte (p : Port) (byte : Byte) (s : State) : Host.Outcome State Fault Refusal :=
  .next (equipmentByte p byte s)

/-- GATHER_TIMER_EXPIRES (R180). -/
def execGatherTimerExpires (p : Port) (s : State) : Host.Outcome State Fault Refusal :=
  .next (gatherExpired p s)

/-- PASS_IDLE_TIMER_EXPIRES (R181). -/
def execPassIdleTimerExpires (p : Port) (s : State) : Host.Outcome State Fault Refusal :=
  .next (idleExpired p s)

/-- PORT_LINE_SIGNAL (R181). -/
def execPortLineSignal (p : Port) (present : Bool) (s : State) : Host.Outcome State Fault Refusal :=
  .next (lineSignal p present s)

/-- LINE_LOSS_TIMER_EXPIRES (R181). -/
def execLineLossTimerExpires (p : Port) (s : State) : Host.Outcome State Fault Refusal :=
  .next (lineLossExpired p s)

/-- CELL_FRAME (R182). -/
def execCellFrame (p : Port) (bytes : List Byte) (s : State) : Host.Outcome State Fault Refusal :=
  .next (frameArrives p (.cell bytes) s)

/-- INTAKE_ADVANCE (R182). -/
def execIntakeAdvance (s : State) : Host.Outcome State Fault Refusal :=
  .next (advanceIntake s)

/-- DELIVERY_FRAME_SENT (R183). -/
def execDeliveryFrameSent (s : State) : Host.Outcome State Fault Refusal :=
  .next (deliverySent s)

/-- STATUS_PERIOD (R184). -/
def execStatusPeriod (s : State) : Host.Outcome State Fault Refusal :=
  .next (statusPeriodEnds s)

end Sys2Proof.Machine
end

