-- ==== Sys2Proof/Machine/RingCommands.lean ====
section
/-! DEFINITION. The meanings of RESET and of the commands of the lines, the fold controller and the transmit arbiter (chapters 1
and 2). -/

namespace Sys2Proof.Machine

/-- RESET (R41, R175, R185): every block takes its reset state and the strap levels are read; the clock and its start
counter run on, and the commands that wait still wait. -/
def execReset (pins : Straps) (s : State) : Host.Outcome State Fault Refusal :=
  .next (resetWith s.pending s.clock pins)

/-- WORD_END (R1, R2, R10 to R12). -/
def execWordEnd (l : Line) (s : State) : Host.Outcome State Fault Refusal :=
  .next (wordEnds l s)

/-- FILL_WORD_ARRIVES (R3, R26, R27). -/
def execFillWordArrives (l : Line) (w : FillWord) (good : Bool) (s : State) : Host.Outcome State Fault Refusal :=
  .next (fillArrives l w good s)

/-- WORD_CUT_SHORT (R3): the word is dropped without a count. -/
def execWordCutShort (_l : Line) (s : State) : Host.Outcome State Fault Refusal :=
  .next s

/-- CELL_ARRIVES (R13 to R20). -/
def execCellArrives (l : Line) (c : Cell) (s : State) : Host.Outcome State Fault Refusal :=
  .next (cellArrivesOn l c s)

/-- SILENCE_TIMER_EXPIRES (R24, R29). -/
def execSilenceTimerExpires (l : Line) (s : State) : Host.Outcome State Fault Refusal :=
  .next (silenceExpired l s)

/-- ERROR_WINDOW_ENDS (R25). -/
def execErrorWindowEnds (l : Line) (s : State) : Host.Outcome State Fault Refusal :=
  .next (windowEnds l s)

/-- DEAF_TIMER_EXPIRES (R26, R29). -/
def execDeafTimerExpires (l : Line) (s : State) : Host.Outcome State Fault Refusal :=
  .next (deafExpired l s)

/-- PROVING_TIMER_EXPIRES (R28, R30). -/
def execProvingTimerExpires (l : Line) (s : State) : Host.Outcome State Fault Refusal :=
  .next (provingExpired l s)

end Sys2Proof.Machine
end

