-- ==== Sys2Proof/Machine/SignCommands.lean ====
section
/-! DEFINITION. The meanings of the composer's and the display controller's commands (chapters 7 and 8). -/

namespace Sys2Proof.Machine

/-- LAYER_APPLY (R127 to R130). -/
def execLayerApply (p : Port) (s : State) : Host.Outcome State Fault Refusal :=
  .next (applyLayer p s)

/-- READY (R151). -/
def execReady (p : Port) (s : State) : Host.Outcome State Fault Refusal :=
  .next (frameArrives p .ready s)

/-- SIGN_BUSY (R151). -/
def execSignBusy (p : Port) (s : State) : Host.Outcome State Fault Refusal :=
  .next (frameArrives p .busy s)

/-- ROWS_TAKEN (R151). -/
def execRowsTaken (p : Port) (pic : Pic) (s : State) : Host.Outcome State Fault Refusal :=
  .next (frameArrives p (.rowsTaken (picByte pic)) s)

/-- SHOWN (R151, R153). -/
def execShown (p : Port) (pic : Pic) (checks : List (BitVec 16)) (s : State) : Host.Outcome State Fault Refusal :=
  .next (frameArrives p (.shown (picByte pic) checks) s)

/-- RETRY_TIMER_EXPIRES (R151). -/
def execRetryTimerExpires (p : Port) (s : State) : Host.Outcome State Fault Refusal :=
  .next (signRetry p s)

/-- ANSWER_TIMER_EXPIRES (R152). -/
def execAnswerTimerExpires (p : Port) (s : State) : Host.Outcome State Fault Refusal :=
  .next (answerExpired p s)

/-- LINGER_TIMER_EXPIRES (R147). -/
def execLingerTimerExpires (entry : Fin 16) (s : State) : Host.Outcome State Fault Refusal :=
  .next (lingerExpired entry s)

end Sys2Proof.Machine
end

