-- ==== Sys2Proof/Machine/StationCommands.lean ====
section
/-! DEFINITION. The meanings of the station table's commands and of the commands a centre sends (chapter 3 and the chapters each
command belongs to). -/

namespace Sys2Proof.Machine

/-- LISTENING_TIMER_EXPIRES (R42). -/
def execListeningTimerExpires (s : State) : Host.Outcome State Fault Refusal :=
  .next (settle (listeningExpired s))

/-- HELLO_PERIOD (R46). -/
def execHelloPeriod (s : State) : Host.Outcome State Fault Refusal :=
  .next (helloPeriodEnds s)

/-- HEARD_ENTRY_EXPIRES (R48). -/
def execHeardEntryExpires (station : Nat) (s : State) : Host.Outcome State Fault Refusal :=
  .next (settle (heardExpired station s))

/-- GROUP_SET (R52, R53, R51). -/
def execGroupSet (via : Via) (group : Byte) (mask : Byte) (s : State) : Host.Outcome State Fault Refusal :=
  .next (commandArrives via (.groupSet group mask) s)

/-- CALL_FLOOR (R52, R53, R56). -/
def execCallFloor (via : Via) (floor : Byte) (s : State) : Host.Outcome State Fault Refusal :=
  .next (commandArrives via (.callFloor floor) s)

/-- CALL_PHONE (R52, R53, R80). -/
def execCallPhone (via : Via) (target : Byte) (priority : Byte) (s : State) : Host.Outcome State Fault Refusal :=
  .next (commandArrives via (.callPhone target priority) s)

/-- PLATE_DROP (R52, R53, R116). -/
def execPlateDrop (via : Via) (plate : Byte) (s : State) : Host.Outcome State Fault Refusal :=
  .next (commandArrives via (.plateDrop plate) s)

/-- PLATE_DROP_ALL (R52, R53, R116). -/
def execPlateDropAll (via : Via) (s : State) : Host.Outcome State Fault Refusal :=
  .next (commandArrives via .plateDropAll s)

/-- PAGE_SET (R52, R53, R120, R121). -/
def execPageSet (via : Via) (target : Byte) (params : PageParams) (s : State) : Host.Outcome State Fault Refusal :=
  .next (commandArrives via (.pageSet target params) s)

/-- SHOW (R52, R53, R143). -/
def execShowPage (via : Via) (target : Byte) (page : Byte) (priority : Byte) (s : State) : Host.Outcome State Fault Refusal :=
  .next (commandArrives via (.showPage target page priority) s)

/-- SIGN_RESTORE (R52, R53, R156). -/
def execSignRestore (via : Via) (target : Byte) (s : State) : Host.Outcome State Fault Refusal :=
  .next (commandArrives via (.signRestore target) s)

/-- RESPONSE_SET (R52, R53, R144). -/
def execResponseSet (via : Via) (params : ResponseParams) (s : State) : Host.Outcome State Fault Refusal :=
  .next (commandArrives via (.responseSet params) s)

/-- RESPONSE_CLEAR (R52, R53, R148). -/
def execResponseClear (via : Via) (index : Byte) (s : State) : Host.Outcome State Fault Refusal :=
  .next (commandArrives via (.responseClear index) s)

/-- WX_RATE (R52, R53, R162). -/
def execWxRate (via : Via) (target : Byte) (interval : Byte) (s : State) : Host.Outcome State Fault Refusal :=
  .next (commandArrives via (.wxRate target interval) s)

/-- WX_LIMITS (R52, R53, R168). -/
def execWxLimits (via : Via) (target : Byte) (params : LimitParams) (s : State) : Host.Outcome State Fault Refusal :=
  .next (commandArrives via (.wxLimits target params) s)

/-- PASS_OPEN (R52, R53, R179). -/
def execPassOpen (via : Via) (target : Byte) (idle : Byte) (s : State) : Host.Outcome State Fault Refusal :=
  .next (commandArrives via (.passOpen target idle) s)

/-- PASS_CLOSE (R52, R53, R181). -/
def execPassClose (via : Via) (target : Byte) (s : State) : Host.Outcome State Fault Refusal :=
  .next (commandArrives via (.passClose target) s)

/-- RESTART (R52, R53, R185). -/
def execRestart (via : Via) (s : State) : Host.Outcome State Fault Refusal :=
  .next (commandArrives via .restart s)

end Sys2Proof.Machine
end

