-- ==== Sys2Proof/Machine/TollCommands.lean ====
section
/-! DEFINITION. The meanings of the toll unit's commands (chapter 5) and of PART_TIMER_EXPIRES (chapter 6). -/

namespace Sys2Proof.Machine

/-- RECORD (R86). -/
def execRecord (p : Port) (body : List Byte) (s : State) : Host.Outcome State Fault Refusal :=
  .next (frameArrives p (.record body) s)

/-- SYNC_TIMER_EXPIRES (R90). -/
def execSyncTimerExpires (s : State) : Host.Outcome State Fault Refusal :=
  .next (syncExpired s)

/-- RETRANSMIT_DEADLINE (R94). -/
def execRetransmitDeadline (s : State) : Host.Outcome State Fault Refusal :=
  .next (retransmit s)

/-- PART_TIMER_EXPIRES (R114). -/
def execPartTimerExpires (slot : Fin 2) (s : State) : Host.Outcome State Fault Refusal :=
  .next (partExpired slot s)

end Sys2Proof.Machine
end

