-- ==== Sys2Proof/Machine/WeatherCommands.lean ====
section
/-! DEFINITION. The meanings of the weather unit's commands (chapter 9). -/

namespace Sys2Proof.Machine

/-- POLL_TIME (R161). -/
def execPollTime (s : State) : Host.Outcome State Fault Refusal :=
  .next (poll s)

/-- READING (R163). -/
def execReading (p : Port) (values : Reading) (s : State) : Host.Outcome State Fault Refusal :=
  .next (frameArrives p (.reading values) s)

/-- REPLY_TIMER_EXPIRES (R163). -/
def execReplyTimerExpires (s : State) : Host.Outcome State Fault Refusal :=
  .next (replyExpired s)

/-- ALARM_TIMER_EXPIRES (R171). -/
def execAlarmTimerExpires (s : State) : Host.Outcome State Fault Refusal :=
  .next (alarmExpired s)

/-- WX_VIEW_ENTRY_EXPIRES (R172). -/
def execWxViewEntryExpires (station : Nat) (s : State) : Host.Outcome State Fault Refusal :=
  .next (viewExpired station s)

end Sys2Proof.Machine
end

