-- ==== Sys2Proof/Machine/Dispatch.lean ====
section
/-! DEFINITION. One arm for each command: the command's effect on everything but the queue. -/

namespace Sys2Proof.Machine

def exec (i : Instr) (s : State) : Host.Outcome State Fault Refusal :=
  match i with
  | .reset pins => Sys2Proof.Machine.execReset pins s
  | .wordEnd l => Sys2Proof.Machine.execWordEnd l s
  | .fillWordArrives l w good => Sys2Proof.Machine.execFillWordArrives l w good s
  | .wordCutShort l => Sys2Proof.Machine.execWordCutShort l s
  | .cellArrives l c => Sys2Proof.Machine.execCellArrives l c s
  | .silenceTimerExpires l => Sys2Proof.Machine.execSilenceTimerExpires l s
  | .errorWindowEnds l => Sys2Proof.Machine.execErrorWindowEnds l s
  | .deafTimerExpires l => Sys2Proof.Machine.execDeafTimerExpires l s
  | .provingTimerExpires l => Sys2Proof.Machine.execProvingTimerExpires l s
  | .listeningTimerExpires => Sys2Proof.Machine.execListeningTimerExpires s
  | .helloPeriod => Sys2Proof.Machine.execHelloPeriod s
  | .heardEntryExpires station => Sys2Proof.Machine.execHeardEntryExpires station s
  | .groupSet via group mask => Sys2Proof.Machine.execGroupSet via group mask s
  | .callFloor via floor => Sys2Proof.Machine.execCallFloor via floor s
  | .callPhone via target priority => Sys2Proof.Machine.execCallPhone via target priority s
  | .plateDrop via plate => Sys2Proof.Machine.execPlateDrop via plate s
  | .plateDropAll via => Sys2Proof.Machine.execPlateDropAll via s
  | .pageSet via target params => Sys2Proof.Machine.execPageSet via target params s
  | .showPage via target page priority => Sys2Proof.Machine.execShowPage via target page priority s
  | .signRestore via target => Sys2Proof.Machine.execSignRestore via target s
  | .responseSet via params => Sys2Proof.Machine.execResponseSet via params s
  | .responseClear via index => Sys2Proof.Machine.execResponseClear via index s
  | .wxRate via target interval => Sys2Proof.Machine.execWxRate via target interval s
  | .wxLimits via target params => Sys2Proof.Machine.execWxLimits via target params s
  | .passOpen via target idle => Sys2Proof.Machine.execPassOpen via target idle s
  | .passClose via target => Sys2Proof.Machine.execPassClose via target s
  | .restart via => Sys2Proof.Machine.execRestart via s
  | .offHook p key => Sys2Proof.Machine.execOffHook p key s
  | .onHook p => Sys2Proof.Machine.execOnHook p s
  | .answer p => Sys2Proof.Machine.execAnswer p s
  | .samples p voice => Sys2Proof.Machine.execSamples p voice s
  | .attemptTimerExpires => Sys2Proof.Machine.execAttemptTimerExpires s
  | .backoffTimerExpires p => Sys2Proof.Machine.execBackoffTimerExpires p s
  | .holdPeriod => Sys2Proof.Machine.execHoldPeriod s
  | .remoteEntryExpires circuit => Sys2Proof.Machine.execRemoteEntryExpires circuit s
  | .ringingTimerExpires p => Sys2Proof.Machine.execRingingTimerExpires p s
  | .playoutTimer p => Sys2Proof.Machine.execPlayoutTimer p s
  | .record p body => Sys2Proof.Machine.execRecord p body s
  | .syncTimerExpires => Sys2Proof.Machine.execSyncTimerExpires s
  | .retransmitDeadline => Sys2Proof.Machine.execRetransmitDeadline s
  | .partTimerExpires slot => Sys2Proof.Machine.execPartTimerExpires slot s
  | .layerApply p => Sys2Proof.Machine.execLayerApply p s
  | .ready p => Sys2Proof.Machine.execReady p s
  | .signBusy p => Sys2Proof.Machine.execSignBusy p s
  | .rowsTaken p pic => Sys2Proof.Machine.execRowsTaken p pic s
  | .shown p pic checks => Sys2Proof.Machine.execShown p pic checks s
  | .retryTimerExpires p => Sys2Proof.Machine.execRetryTimerExpires p s
  | .answerTimerExpires p => Sys2Proof.Machine.execAnswerTimerExpires p s
  | .lingerTimerExpires entry => Sys2Proof.Machine.execLingerTimerExpires entry s
  | .pollTime => Sys2Proof.Machine.execPollTime s
  | .reading p values => Sys2Proof.Machine.execReading p values s
  | .replyTimerExpires => Sys2Proof.Machine.execReplyTimerExpires s
  | .alarmTimerExpires => Sys2Proof.Machine.execAlarmTimerExpires s
  | .wxViewEntryExpires station => Sys2Proof.Machine.execWxViewEntryExpires station s
  | .ident p kind width height => Sys2Proof.Machine.execIdent p kind width height s
  | .alive p => Sys2Proof.Machine.execAlive p s
  | .badFrame p frame check => Sys2Proof.Machine.execBadFrame p frame check s
  | .frameByteTimeout p => Sys2Proof.Machine.execFrameByteTimeout p s
  | .portSilenceTimerExpires p => Sys2Proof.Machine.execPortSilenceTimerExpires p s
  | .aliveTimer p => Sys2Proof.Machine.execAliveTimer p s
  | .portFrameSent p => Sys2Proof.Machine.execPortFrameSent p s
  | .passByte p byte => Sys2Proof.Machine.execPassByte p byte s
  | .gatherTimerExpires p => Sys2Proof.Machine.execGatherTimerExpires p s
  | .passIdleTimerExpires p => Sys2Proof.Machine.execPassIdleTimerExpires p s
  | .portLineSignal p present => Sys2Proof.Machine.execPortLineSignal p present s
  | .lineLossTimerExpires p => Sys2Proof.Machine.execLineLossTimerExpires p s
  | .cellFrame p bytes => Sys2Proof.Machine.execCellFrame p bytes s
  | .intakeAdvance => Sys2Proof.Machine.execIntakeAdvance s
  | .deliveryFrameSent => Sys2Proof.Machine.execDeliveryFrameSent s
  | .statusPeriod => Sys2Proof.Machine.execStatusPeriod s

end Sys2Proof.Machine
end

