-- ==== Sys2Proof/Safety.lean ====
section
/-! DEFINITION. The terms in which claims about the node are stated: the parts of the state and what a command leaves
unchanged, and the properties that every step keeps. -/

namespace Sys2Proof.Machine

/-! ### Frames -/

/-- The parts of the state: one for each field of `State`. -/
inductive Part where
  | pending | clock | straps | lines | tx | ring | station | call | toll | plates | signs | brightness | responses
  | weather | ports | rx | portCounts | centre
  deriving DecidableEq, Repr

/-- A part has the same value in both states. -/
def SamePart (s t : State) : Part → Prop
  | .pending => t.pending = s.pending
  | .clock => t.clock = s.clock
  | .straps => t.straps = s.straps
  | .lines => t.lines = s.lines
  | .tx => t.tx = s.tx
  | .ring => t.ring = s.ring
  | .station => t.station = s.station
  | .call => t.call = s.call
  | .toll => t.toll = s.toll
  | .plates => t.plates = s.plates
  | .signs => t.signs = s.signs
  | .brightness => t.brightness = s.brightness
  | .responses => t.responses = s.responses
  | .weather => t.weather = s.weather
  | .ports => t.ports = s.ports
  | .rx => t.rx = s.rx
  | .portCounts => t.portCounts = s.portCounts
  | .centre => t.centre = s.centre

/-- Every part but those listed has the same value in both states. -/
structure SameBut (ps : List Part) (s t : State) : Prop where
  same : ∀ x, x ∉ ps → SamePart s t x

/-! ### Ports and cells -/

/-- A port of this profile whose link is UP. -/
def Serving (k : Profile) (p : Port) (s : State) : Prop := s.profile p = k ∧ s.ports[p].link = .up

/-- R13, R14, R15: a cell that arrives on a line passes steps 1 to 3 of the receive filter. -/
def Passes (l : Line) (c : Cell) (s : State) : Prop :=
  checkGood c = true ∧ malformed c = false ∧ (s.lines.get l).state = .up ∧ c.hops ≠ 0

/-- R18: an all-stations cell of another station that passes steps 1 to 3 on the copying receive. -/
def Copied (l : Line) (c : Cell) (s : State) : Prop :=
  Passes l c s ∧ c.dest = 255 ∧ s.own ≠ some c.source.toNat ∧
    ((l = .u ∧ (s.fold = .normal ∨ s.fold = .foldD)) ∨ (l = .d ∧ s.fold = .foldU))

/-- R16: a unicast cell for this station, from another one, that passes steps 1 to 3. -/
def Delivered (l : Line) (c : Cell) (s : State) : Prop :=
  Passes l c s ∧ s.own = some c.dest.toNat ∧ s.own ≠ some c.source.toNat

/-! ### Commands of a centre -/

/-- The COMMAND that a row of the table stands for, with how it reached the station table; `none` for the rows that are
no COMMAND. -/
def commandOf : Instr → Option (Via × Command)
  | .groupSet via g m => some (via, .groupSet g m)
  | .callFloor via f => some (via, .callFloor f)
  | .callPhone via t p => some (via, .callPhone t p)
  | .plateDrop via n => some (via, .plateDrop n)
  | .plateDropAll via => some (via, .plateDropAll)
  | .pageSet via t q => some (via, .pageSet t q)
  | .showPage via t p x => some (via, .showPage t p x)
  | .signRestore via t => some (via, .signRestore t)
  | .responseSet via q => some (via, .responseSet q)
  | .responseClear via i => some (via, .responseClear i)
  | .wxRate via t n => some (via, .wxRate t n)
  | .wxLimits via t q => some (via, .wxLimits t q)
  | .passOpen via t i => some (via, .passOpen t i)
  | .passClose via t => some (via, .passClose t)
  | .restart via => some (via, .restart)
  | _ => none

/-- The frame that a row of the table stands for, and the port it arrives on; `none` for the rows that are no frame. -/
def frameOf : Instr → Option (Port × RxFrame)
  | .offHook p key => some (p, .offHook (keyByte key))
  | .onHook p => some (p, .onHook)
  | .answer p => some (p, .answer)
  | .samples p voice => some (p, .samples voice)
  | .record p body => some (p, .record body)
  | .ready p => some (p, .ready)
  | .signBusy p => some (p, .busy)
  | .rowsTaken p pic => some (p, .rowsTaken (picByte pic))
  | .shown p pic checks => some (p, .shown (picByte pic) checks)
  | .reading p values => some (p, .reading values)
  | .ident p kind width height => some (p, identOf kind width height)
  | .alive p => some (p, .alive)
  | .cellFrame p bytes => some (p, .cell bytes)
  | _ => none

/-- R50: a group of which the station is not a member does not concern it. -/
def Concerns (via : Via) (s : State) : Prop := ∀ g, via.addressing = .group g → s.groupMask g ≠ 0

/-- R52 test 1: the command came in from the own centre port, or its source is heard as a centre. -/
def FromCentre (via : Via) (s : State) : Prop :=
  via.ownPort = true ∨ ((s.heardOf via.source.toNat).present = true ∧ (s.heardOf via.source.toNat).centre = true)

/-- R50, R52: a command other than RESTART passes the station table's tests 1 to 3. -/
def Admitted (via : Via) (s : State) : Prop := s.phase = .active ∧ FromCentre via s ∧ Concerns via s

/-- R54: the state after one reject. -/
def rejected (r : RejectReason) (s : State) : State :=
  s.setStation { s.station with rejects := bump s.station.rejects, lastReject := r }

/-- The state after the moment `t` has been reached. -/
def atMoment (t : Time) (s : State) : State := s.setClock { s.clock with now := max s.clock.now t }

/-! ### What every step keeps -/

/-- R2, R6, R12, R56, R83, R85, R92, R164, R176, R180, R182, R183: the queues, counts and windows stay within the bounds
the spec gives them. -/
structure WithinBounds (s : State) : Prop where
  transit : ∀ (l : Line) (k : CellClass), ((s.tx.get l).transit.get k).length ≤ transitCapacity k
  insert : ∀ (l : Line) (k : CellClass), ((s.tx.get l).insert.get k).length ≤ insertCapacity k
  fairness : ∀ l : Line, (s.tx.get l).fairness ≤ 4
  consecutive : ∀ l : Line, (s.tx.get l).consecutive ≤ 16
  floor : s.call.floor ≤ 3
  playout : ∀ p : Port, s.call.phones[p].playout.length ≤ 8
  journal : s.toll.journal.length ≤ 128
  window : sentCount s.toll.journal ≤ 16
  frames : ∀ p : Port, s.ports[p].queue.length ≤ 128
  gather : ∀ p : Port, s.ports[p].gather.length < 48
  rx : ∀ p : Port, ∀ x, s.rx[p] = some x → x.bytes.length < 260
  intake : s.centre.intake.length ≤ 64
  delivery : s.centre.delivery.length ≤ 128
  samples : ∀ i : Fin 7, s.weather.quantities[i].window.length ≤ 6

/-- R107, R108, R109, R111: every block is FREE, or owned by exactly one present plate or open slot, whose blocks are the
one run it names; the memory has its canonical form. -/
structure StoreInOrder (st : PlateStore) : Prop where
  memory : memWf st.mem = true
  plate : ∀ (n : Fin 64) (pl : Plate), st.dir[n] = some pl →
    1 ≤ pl.width ∧ pl.width ≤ 255 ∧ 1 ≤ pl.height ∧ pl.height ≤ 64 ∧ (pl.depth = 1 ∨ pl.depth = 3) ∧
      pl.count = blocksNeeded (plateSize pl.width pl.height pl.depth) ∧ pl.first + pl.count ≤ 256 ∧
      ∀ i : Fin 256, st.blocks[i] = .plate n.val ↔ pl.first ≤ i.val ∧ i.val < pl.first + pl.count
  slot : ∀ (k : Fin 2) (sl : Slot), st.slots[k] = some sl →
    sl.plate ≤ 63 ∧ 1 ≤ sl.width ∧ sl.width ≤ 255 ∧ 1 ≤ sl.height ∧ sl.height ≤ 64 ∧ (sl.depth = 1 ∨ sl.depth = 3) ∧
      sl.count = blocksNeeded (plateSize sl.width sl.height sl.depth) ∧ sl.first + sl.count ≤ 256 ∧
      ∀ i : Fin 256, st.blocks[i] = .slot k ↔ sl.first ≤ i.val ∧ i.val < sl.first + sl.count
  owned : ∀ (i : Fin 256) (n : Nat), st.blocks[i] = .plate n → plateOf st n ≠ none
  loading : ∀ (i : Fin 256) (k : Fin 2), st.blocks[i] = .slot k → st.slots[k] ≠ none
  apart : ∀ a b : Slot, st.slots[(0 : Fin 2)] = some a → st.slots[(1 : Fin 2)] = some b → a.plate ≠ b.plate

/-- R141, R144: each claims list holds the REST entry exactly once and a source at most once; a response claims only while
it is enabled and not IDLE; every order lies less than half the range behind the count. -/
structure ClaimsInOrder (s : State) : Prop where
  rest : ∀ p : Port, ∃ o, s.signs[p].claims.filter (fun c => decide (c.source = .rest)) = [⟨.rest, 0, 0, o⟩]
  once : ∀ p : Port, (s.signs[p].claims.map (fun c => c.source)).Nodup
  priority : ∀ p : Port, ∀ c ∈ s.signs[p].claims, c.source ≠ .rest → 1 ≤ c.priority ∧ c.priority ≤ 7
  response : ∀ p : Port, ∀ k : Fin 16, ∀ c ∈ s.signs[p].claims, c.source = .response k →
    s.responses[k].enable = true ∧ s.responses[k].claim ≠ .idle
  entry : ∀ k : Fin 16, 1 ≤ s.responses[k].priority ∧ s.responses[k].priority ≤ 7
  order : ∀ p : Port, ∀ c ∈ s.signs[p].claims, (s.signs[p].claimCount - c.order).toNat < 32768

/-- R41, R43, R47, R48, R172, R179, R182: STRAP-FAULT is the phase of a station without a number; a station never hears
itself, nor has itself in its weather view; the intake FIFO holds only cells that the centre equipment may send; a port in
PASS is a SIGN, WEATHER or TOLL port. -/
structure TablesInOrder (s : State) : Prop where
  phase : s.phase = .strapFault ↔ s.own = none
  heard : ∀ n, s.own = some n → (s.heardOf n).present = false ∧ (s.heardOf n).stamp = none
  view : ∀ n, s.own = some n → s.viewOf n = none
  intake : ∀ c ∈ s.centre.intake, intakeKind c.kind = true ∧ validDest c.dest = true
  pass : ∀ p : Port, s.ports[p].link = .pass → s.profile p ∈ passProfiles

end Sys2Proof.Machine
end

