-- ==== Sys2Proof/Certificates/Slice0/Obligations.lean ====
section
/-! DEFINITION. The statements about the node, for the provers. Each docstring names the rule or the section of spec/ that
the statement formalises. -/

open Sys2Proof Sys2Proof.Machine

/-! ### The queue of commands and reset -/

/-- A step takes the command at the front of the queue and runs it with the queue's rest. -/
def Obligations.StepRunsTheFrontCommand : Prop :=
  ∀ (c : Instr) (rest : List Instr) (s : State), step (s.setPending (c :: rest)) = exec c (s.setPending rest)

/-- No command touches the queue it was taken from: every one of them, and the part of time that passes when none
waits, completes with the commands behind it still waiting in their order. -/
def Obligations.EveryCommandCompletesAndKeepsTheQueue : Prop :=
  (∀ (c : Instr) (s : State), ∃ t, exec c s = .next t ∧ t.pending = s.pending) ∧
    ∀ s : State, s.pending = [] →
      step s = .next (s.setClock { s.clock with now := s.clock.now + Config.microsecond })

/-- R22, R23, R30, R41, R51, R54, R56, R57, R60, R62, R85, R88, R98, R103, R106 to R108, R111, R118, R125, R141, R144,
R150 to R153, R157, R159, R160, R168, R171 to R173, R175 to R177, R182 to R185: what RESET leaves of every block, with the levels
the strap pins had. The clock and its start counter run on (R41). A port's code 0 to 5 is honoured while the honoured ports
below it have its profile on fewer ports than R175's limit, which a NONE port cannot reach; else, and for 6 and 7, the port
is NONE with its conflict flag set. -/
def Obligations.ResetLeavesEveryBlockInItsResetState : Prop :=
  ∀ (pins : Straps) (s : State), ∃ t, exec (.reset pins) s = .next t ∧
    t.pending = s.pending ∧ t.clock = s.clock ∧ t.straps.pins = pins ∧ t.straps.number = pins.number ∧
    (∀ p : Port,
      let code := pins.codes[p].toNat
      let named := ([.none, .phone, .sign, .weather, .toll, .centre] : List Profile).getD code .none
      let limit := ([4, 2, 2, 1, 1, 1] : List Nat).getD code 0
      let lower := ((List.finRange 4).filter (fun q => decide (q < p ∧ t.profile q = named))).length
      t.profile p = (if lower < limit then named else .none) ∧ (t.straps.conflicts[p] = true ↔ limit ≤ lower)) ∧
    t.ring = ⟨0, 0, 0, 0, 0, 0, 0, 0, 0⟩ ∧ t.fold = .isolated ∧
    (∀ l : Line,
      (t.lines.get l).state = .down ∧ (t.lines.get l).cause = .none ∧ (t.lines.get l).downEvents = 0 ∧
      (t.lines.get l).silence = none ∧ (t.lines.get l).deaf = none ∧ (t.lines.get l).proving = none ∧
      (t.lines.get l).windowBad = 0 ∧ (t.lines.get l).windowEnd = s.clock.now + 100000000 ∧
      (t.tx.get l).endsAt = s.clock.now + 640 ∧ (t.lines.get l).farNumber = 0 ∧ (t.lines.get l).farFold = .isolated ∧
      (t.lines.get l).farHeard = false ∧
      (t.tx.get l).transit = ⟨[], [], []⟩ ∧ (t.tx.get l).insert = ⟨[], [], []⟩ ∧ (t.tx.get l).fairness = 0 ∧
      (t.tx.get l).consecutive = 0 ∧
      (t.tx.get l).onLine = .fill ⟨pins.number, .isolated, false⟩ (Config.fillCheck pins.number 3 false)) ∧
    t.phase = (if 1 ≤ pins.number.toNat ∧ pins.number.toNat ≤ 60 then .starting else .strapFault) ∧
    t.station.listening = (if 1 ≤ pins.number.toNat ∧ pins.number.toNat ≤ 60 then some (s.clock.now + 3000000000)
      else none) ∧
    t.station.stamp = 0 ∧ t.station.restartFlag = false ∧ t.station.duplicateFlag = false ∧ t.station.helloAt = none ∧
    t.station.statusAt = none ∧ t.station.reportNumber = 0 ∧ t.station.rejects = 0 ∧ t.station.lastReject = .none ∧
    (∀ n : Nat, (t.heardOf n).present = false ∧ (t.heardOf n).stamp = none) ∧
    (∀ p : Port, (t.groupMask 0).getLsbD p.val = decide (t.profile p = .sign) ∧
      (t.groupMask 1).getLsbD p.val = decide (t.profile p = .phone) ∧
      (t.groupMask 2).getLsbD p.val = decide (t.profile p = .weather) ∧
      (t.groupMask 3).getLsbD p.val = decide (t.profile p = .toll)) ∧
    (∀ g : Fin 32, 4 ≤ g.val → t.groupMask g = 0) ∧ t.selectedCentre = none ∧ t.tollCentre = none ∧
    t.call.floor = 0 ∧ (∀ c : Fin 16, t.call.circuits[c] = .free) ∧ t.call.requests = [] ∧ t.call.attempt = none ∧
    t.call.orderCount = 0 ∧ t.call.claimCounter = 0 ∧ t.call.holdAt = none ∧
    (∀ p : Port, t.call.phones[p] = ⟨.idle, 1, false, .none, none, none, 0, none, 0, none, none, none, [], false, 0, none,
      0, 0, 0, .clear⟩) ∧
    t.toll.journal = [] ∧ t.toll.next = 0 ∧ t.toll.delivered = none ∧ t.toll.chan = .closed ∧ t.toll.bound = none ∧
    t.toll.start = 0 ∧ t.toll.syncTimer = none ∧ t.toll.progress = none ∧ t.toll.expiries = 0 ∧
    t.toll.sendMark = none ∧ (∀ n : Nat, t.expected n = none) ∧ (∀ i : Fin 2, t.toll.down[i] = none) ∧
    t.toll.counters = ⟨0, 0, 0, 0, 0, 0, 0, 0, 0, 0, 0, 0⟩ ∧
    (∀ i : Fin 256, t.plates.blocks[i] = .free) ∧ (∀ n : Fin 64, t.plates.dir[n] = none) ∧
    (∀ k : Fin 2, t.plates.slots[k] = none) ∧ t.plates.plateRange = 0 ∧ t.plates.storeFull = 0 ∧
    t.plates.loadBroken = 0 ∧ t.plates.displaced = 0 ∧ t.plates.strayParts = 0 ∧
    (∀ p : Port, (∀ k : Fin 8, t.signs[p].pages[k] = []) ∧ t.signs[p].staging = none ∧ t.signs[p].geometry = none ∧
      t.signs[p].compose = none ∧ t.signs[p].slot = none ∧ t.signs[p].faultCount = 0 ∧
      t.signs[p].claims = [⟨.rest, 0, 0, 0⟩] ∧ t.signs[p].claimCount = 0 ∧ displayState t p = .noSign ∧ t.signs[p].target = 0 ∧ t.signs[p].awaiting = false ∧
      t.signs[p].pendingResult = none ∧ t.signs[p].transfer = none ∧ t.signs[p].answerTimer = none ∧
      t.signs[p].retryTimer = none ∧ t.signs[p].missed = 0 ∧ t.signs[p].missedTotal = 0 ∧ t.signs[p].busyCount = 0 ∧
      t.signs[p].verifyFails = 0 ∧ t.signs[p].stage = 0 ∧ t.signs[p].dark = false) ∧
    t.brightness = 8 ∧
    (∀ k : Fin 16, t.responses[k] = ⟨false, false, .noCentre, 0, 0, 1, 0, true, .idle, none⟩) ∧
    t.weather.interval = 10 ∧ t.weather.reply = none ∧ t.weather.pollNumber = 0 ∧
    t.weather.pollTimer = (if (1 ≤ pins.number.toNat ∧ pins.number.toNat ≤ 60) ∧ ∃ p, t.profile p = .weather
      then some (s.clock.now + 10000000000) else none) ∧
    (∀ i : Fin 7, t.weather.quantities[i] = ⟨[], none, none⟩) ∧ t.weather.surface = none ∧ t.weather.precip = none ∧
    t.weather.held = none ∧ t.weather.ice = .unknown ∧ t.weather.fog = .unknown ∧ t.weather.wind = .unknown ∧
    t.weather.thresholds = { ice1 := 20, ice2 := -10, spread1 := 20, spread2 := 10, fog1 := 300, fog2 := 150,
                             wind1 := 170, wind2 := 250 } ∧
    t.weather.alarmTimer = none ∧ (∀ n : Nat, t.viewOf n = none) ∧ t.weather.clamped = 0 ∧
    t.weather.missedPolls = 0 ∧ t.weather.lateReplies = 0 ∧
    (∀ p : Port, t.rx[p] = none ∧ t.ports[p] = ⟨.down, none, [], none, s.clock.now, none, 0, none, [], none, none, []⟩) ∧
    t.portCounts = ⟨0, 0, 0, 0, 0, 0⟩ ∧ t.centre = ⟨[], false, []⟩

/-! ### The ring (chapter 1) -/

/-- R2, R10: a line that is not UP, a consecutive-cell count of 16 and a transmitter without a cell each make the next
word a fill word. It carries the strap number, the fold state and the heard flag of the moment it starts. -/
def Obligations.WordEndSendsAFillWordWhenNoCellCanStart : Prop :=
  ∀ (l : Line) (s : State),
    ((s.lines.get l).state ≠ .up ∨ (s.tx.get l).consecutive = 16 ∨
      ((s.tx.get l).transit = ⟨[], [], []⟩ ∧ (s.tx.get l).insert = ⟨[], [], []⟩)) →
    ∃ heard : Bool,
      (heard = true ↔ ∃ d, (s.lines.get l).silence = some d ∧ max s.clock.now (s.tx.get l).endsAt ≤ d) ∧
      exec (.wordEnd l) s = .next ((s.setClock { s.clock with now := max s.clock.now (s.tx.get l).endsAt }).setTx
        (s.tx.set l { s.tx.get l with
          consecutive := 0
          onLine := .fill ⟨s.straps.number, s.fold, heard⟩ (Config.fillCheck s.straps.number (foldCode s.fold) heard)
          endsAt := max s.clock.now (s.tx.get l).endsAt + 640 }))

/-- R1, R2, R10, R11, R12: the cell that an UP line's transmitter starts, by the arbiter's order, with the counts it
leaves; its queue closes up. The last clause leaves out a place freed for a waiting toll record, which
`FreedBulkPlaceGoesInTurn` states; that a waiting intake FIFO alone moves no cell in this step is the model's choice
(notes/assumptions/25.md). -/
def Obligations.WordEndStartsTheCellTheArbiterChooses : Prop :=
  ∀ (l : Line) (s : State) (c : Cell) (q : List Cell) (x : Transmitter),
    x = s.tx.get l → (s.lines.get l).state = .up → x.consecutive < 16 →
    let t0 := max s.clock.now x.endsAt
    let starts := fun (y : Transmitter) => exec (.wordEnd l) s = .next ((s.setClock { s.clock with now := t0 }).setTx
      (s.tx.set l { y with consecutive := x.consecutive + 1, onLine := .cell c, endsAt := t0 + 5120 }))
    (x.transit.v = c :: q → starts { x with transit := { x.transit with v := q } }) ∧
    (x.transit.v = [] → x.insert.v = c :: q → starts { x with insert := { x.insert with v := q } }) ∧
    (x.transit.v = [] → x.insert.v = [] → x.transit.c = c :: q →
      starts { x with transit := { x.transit with c := q } }) ∧
    (x.transit.v = [] → x.insert.v = [] → x.transit.c = [] → x.insert.c = c :: q →
      starts { x with insert := { x.insert with c := q } }) ∧
    (x.transit.v = [] → x.insert.v = [] → x.transit.c = [] → x.insert.c = [] → x.transit.b = c :: q →
      ¬(x.insert.b ≠ [] ∧ x.fairness = 4) →
      starts { x with transit := { x.transit with b := q },
                      fairness := if x.fairness < 4 then x.fairness + 1 else x.fairness }) ∧
    (x.transit.v = [] → x.insert.v = [] → x.transit.c = [] → x.insert.c = [] → x.insert.b = c :: q →
      (x.transit.b = [] ∨ x.fairness = 4) → (tollWants s = false ∨ l ≠ insertLine s.fold) →
      starts { x with insert := { x.insert with b := q }, fairness := 0 })

/-- R7, R92, R182: a place freed in the B insert queue while the toll unit and the centre intake FIFO both wait for it goes
to the one that did not take the last such place, beginning with the toll unit. On the intake's turn a head for this
station, here the only cell, takes no place, and the toll unit gets it. The send mark of R88 becomes the record's number
unless a newer one was sent. Which bytes of the intake's cell its kind leaves unused, as `CellsAndFramesReadBackAsWritten`
gives them, and that a resend does not lower the mark, are the model's choice (notes/assumptions/41.md, 43.md). -/
def Obligations.FreedBulkPlaceGoesInTurn : Prop :=
  ∀ (l : Line) (s : State) (c i : Cell) (q rest : List Cell) (r : TollRecord) (j : List TollRecord) (bound : Nat),
    l = insertLine s.fold → (s.lines.get l).state = .up → (s.tx.get l).consecutive < 16 →
    (s.tx.get l).transit = ⟨[], [], []⟩ → (s.tx.get l).insert = ⟨[], [], c :: q⟩ → q.length = 31 →
    s.phase = .active → s.toll.chan = .opened → s.toll.bound = some bound →
    s.toll.journal = r :: j → r.sent = none → sentCount j < 16 →
    s.centre.intake = i :: rest → i.kind = 15 → 1 ≤ i.dest.toNat → i.dest.toNat ≤ 60 →
    let record := originate 8 (natByte bound) (tollBodyBytes r.number r.body) s
    let mark := match s.toll.sendMark with
      | some m => if atOrBefore r.number m then m else r.number
      | none => r.number
    let sent : TollUnit := { s.toll with
      sendMark := some mark, journal := { r with sent := some (max s.clock.now (s.tx.get l).endsAt) } :: j }
    ∃ t, exec (.wordEnd l) s = .next t ∧
      (s.toll.lastPlace ≠ some .toll → t.toll = { sent with lastPlace := some .toll } ∧
        t.centre.intake = i :: rest ∧ (t.tx.get l).insert.b = q ++ [record]) ∧
      (s.toll.lastPlace = some .toll → s.own ≠ some i.dest.toNat →
        t.toll = { s.toll with lastPlace := some .intake } ∧ t.centre.intake = rest ∧
          (t.tx.get l).insert.b = q ++ [originate i.kind i.dest (clearUnused i.kind i.payload) s]) ∧
      (s.toll.lastPlace = some .toll → s.own = some i.dest.toNat → rest = [] →
        t.toll = sent ∧ t.centre.intake = [] ∧ (t.tx.get l).insert.b = q ++ [record])

/-- R3, R24, R26, R27: a fill word with a good check is reported to its line unit; one with a bad check and a word cut
short are dropped and change nothing. -/
def Obligations.FillWordsAreReportedToTheirLine : Prop :=
  ∀ (l : Line) (w : FillWord) (s : State),
    exec (.fillWordArrives l w false) s = .next s ∧ exec (.wordCutShort l) s = .next s ∧
    ∃ u, exec (.fillWordArrives l w true) s = .next (s.setLines (s.lines.set l u)) ∧
      u.silence = some (s.clock.now + 2000000) ∧ u.farNumber = w.number ∧ u.farFold = w.fold ∧
      u.farHeard = w.heard ∧
      u.cause = (s.lines.get l).cause ∧ u.downEvents = (s.lines.get l).downEvents ∧
      (w.heard = true → u.deaf = none) ∧
      (w.heard = false → ∀ d, (s.lines.get l).deaf = some d → u.deaf = some d) ∧
      (w.heard = false → (s.lines.get l).deaf = none → u.deaf = some (s.clock.now + 10000000)) ∧
      ((s.lines.get l).state = .down → w.heard = true →
        u.state = .proving ∧ u.proving = some (s.clock.now + 500000000) ∧ u.windowBad = 0 ∧
          u.windowEnd = s.clock.now + 100000000) ∧
      (¬((s.lines.get l).state = .down ∧ w.heard = true) →
        u.state = (s.lines.get l).state ∧ u.proving = (s.lines.get l).proving ∧
          u.windowBad = (s.lines.get l).windowBad ∧ u.windowEnd = (s.lines.get l).windowEnd)

/-- R13, R14, R15: the cells that the receive filter discards at steps 1 to 3, and what it counts. A good cell is a
valid word (R3): it restarts the silence timer, malformed or not. The first clause leaves out the bad cell that raises the
error condition, which `DownConditionsTakeALineDown` states. The last clause gives the header values that make a good cell malformed. -/
def Obligations.ReceiveFilterDiscardsAtSteps1To3 : Prop :=
  ∀ (l : Line) (c : Cell) (s : State) (heard : State),
    heard = s.setLines (s.lines.set l { s.lines.get l with silence := some (s.clock.now + 2000000) }) →
    (checkGood c = false → (s.lines.get l).windowBad ≠ 7 →
      exec (.cellArrives l c) s = .next
        ((s.setRing (match l with
            | .u => { s.ring with badU := bump s.ring.badU }
            | .d => { s.ring with badD := bump s.ring.badD })).setLines
          (s.lines.set l { s.lines.get l with windowBad := (s.lines.get l).windowBad + 1 }))) ∧
    (checkGood c = true → malformed c = true →
      exec (.cellArrives l c) s = .next (heard.setRing { s.ring with malformed := bump s.ring.malformed })) ∧
    (checkGood c = true → malformed c = false → (s.lines.get l).state ≠ .up →
      exec (.cellArrives l c) s = .next (heard.setRing { s.ring with lineDown := bump s.ring.lineDown })) ∧
    (checkGood c = true → malformed c = false → (s.lines.get l).state = .up → c.hops = 0 →
      exec (.cellArrives l c) s = .next (heard.setRing { s.ring with expired := bump s.ring.expired })) ∧
    (malformed c = true ↔
      ¬(1 ≤ c.kind.toNat ∧ c.kind.toNat ≤ 15) ∨ ¬(1 ≤ c.source.toNat ∧ c.source.toNat ≤ 60) ∨
        ¬((1 ≤ c.dest.toNat ∧ c.dest.toNat ≤ 60) ∨ (64 ≤ c.dest.toNat ∧ c.dest.toNat ≤ 95) ∨ c.dest.toNat = 255))

/-- R9, R17, R18, R19: a passing cell that is not copied is forwarded with one hop less and a fresh check to the transit
queue of its class on the transmitter that the fold state names; a full queue turns it away. So is an own cell on the
secondary receive of a NORMAL station, and a cell that is copied, behind what the units do with it; a copied CLAIM, which
may be marked, has its own statement (`PassingClaimsAreJudged`). An own cell that comes home on the stripping receive
leaves the loop; a unicast one is counted. A CLAIM and a HELLO that come home have statements of their own. -/
def Obligations.CellsAreForwardedOrStripped : Prop :=
  (∀ (l k : Line) (c : Cell) (s : State) (heard : State),
     heard = s.setLines (s.lines.set l { s.lines.get l with silence := some (s.clock.now + 2000000) }) →
     Passes l c s → s.own ≠ some c.dest.toNat →
     (s.own ≠ some c.source.toNat ∨ (s.fold = .normal ∧ l = .d ∧
       (c.kind = 5 → (readHello c.payload).stamp = s.station.stamp ∨ s.phase ≠ .active))) →
     (c.dest.toNat ≤ 60 ∨ (s.fold = .normal ∧ l = .d)) →
     ((s.fold = .normal ∧ k ≠ l) ∨ (s.fold = .foldD ∧ k = .u) ∨ (s.fold = .foldU ∧ k = .d)) →
     let queue := (s.tx.get k).transit.get (classOf c.kind)
     let sent := { c with hops := c.hops - 1,
                          check := check32 (c.kind :: c.source :: c.dest :: (c.hops - 1) :: c.payload) }
     (queue.length < transitCapacity (classOf c.kind) →
       exec (.cellArrives l c) s = .next (heard.setTx (s.tx.set k { s.tx.get k with
         transit := (s.tx.get k).transit.set (classOf c.kind) (queue ++ [sent]) }))) ∧
     (transitCapacity (classOf c.kind) ≤ queue.length →
       exec (.cellArrives l c) s = .next (heard.setRing { s.ring with transitDrops := bump s.ring.transitDrops }))) ∧
  (∀ (l k : Line) (c : Cell) (s : State),
     Passes l c s → s.own ≠ some c.source.toNat → 64 ≤ c.dest.toNat → c.kind ≠ 2 →
     ((s.fold = .normal ∧ l = .u ∧ k = .d) ∨ (s.fold = .foldD ∧ l = .u ∧ k = .u) ∨
       (s.fold = .foldU ∧ l = .d ∧ k = .d)) →
     let queue := (s.tx.get k).transit.get (classOf c.kind)
     let sent := { c with hops := c.hops - 1,
                          check := check32 (c.kind :: c.source :: c.dest :: (c.hops - 1) :: c.payload) }
     ∃ t, exec (.cellArrives l c) s = .next t ∧ t.fold = s.fold ∧
       (∀ j : Line, j ≠ k → (t.tx.get j).transit = (s.tx.get j).transit) ∧
       (queue.length < transitCapacity (classOf c.kind) →
         (t.tx.get k).transit = (s.tx.get k).transit.set (classOf c.kind) (queue ++ [sent]) ∧
         t.ring = { s.ring with insertDrops := t.ring.insertDrops }) ∧
       (transitCapacity (classOf c.kind) ≤ queue.length → (t.tx.get k).transit = (s.tx.get k).transit ∧
         t.ring = { s.ring with transitDrops := bump s.ring.transitDrops, insertDrops := t.ring.insertDrops })) ∧
  (∀ (l : Line) (c : Cell) (s : State) (heard : State),
     heard = s.setLines (s.lines.set l { s.lines.get l with silence := some (s.clock.now + 2000000) }) →
     Passes l c s → s.own = some c.source.toNat → c.dest ≠ c.source → c.kind ≠ 2 → c.kind ≠ 5 →
     ((l = .u ∧ (s.fold = .normal ∨ s.fold = .foldD)) ∨ (l = .d ∧ s.fold = .foldU)) →
     exec (.cellArrives l c) s = .next
       (if c.dest.toNat ≤ 60 then heard.setRing { s.ring with undeliverable := bump s.ring.undeliverable } else heard))

/-! ### The lines and the fold (chapter 2) -/

/-- R30 to R34, R40: the fold state that the two line states give, PROVING counting as not UP; the transit cells that each
change of it moves and discards, class by class and in order; and the flushed count, which rises by the cells
discarded. -/
def Obligations.FoldStatesAndTheirQueueMoves : Prop :=
  (∀ s : State,
     (s.fold = .normal ↔ s.lines.u.state = .up ∧ s.lines.d.state = .up) ∧
     (s.fold = .foldU ↔ s.lines.u.state ≠ .up ∧ s.lines.d.state = .up) ∧
     (s.fold = .foldD ↔ s.lines.u.state = .up ∧ s.lines.d.state ≠ .up) ∧
     (s.fold = .isolated ↔ s.lines.u.state ≠ .up ∧ s.lines.d.state ≠ .up)) ∧
  (∀ (l : Line) (s t : State) (e : Instr),
     (e = .silenceTimerExpires l ∨ e = .deafTimerExpires l ∨ e = .provingTimerExpires l ∨
       (∃ c, e = .cellArrives l c ∧ checkGood c = false)) → exec e s = .next t →
     (s.fold = .normal → t.fold = .foldD → t.tx.d.transit = ⟨[], [], []⟩ ∧
       ∀ k, t.tx.u.transit.get k = s.tx.u.transit.get k ++
         (s.tx.d.transit.get k).take (transitCapacity k - (s.tx.u.transit.get k).length)) ∧
     (s.fold = .normal → t.fold = .foldU → t.tx.u.transit = ⟨[], [], []⟩ ∧
       ∀ k, t.tx.d.transit.get k = s.tx.d.transit.get k ++
         (s.tx.u.transit.get k).take (transitCapacity k - (s.tx.d.transit.get k).length)) ∧
     (s.fold = .foldD → t.fold = .normal → t.tx.u.transit = ⟨[], [], []⟩ ∧ t.tx.d.transit = s.tx.d.transit) ∧
     (s.fold ≠ .isolated → t.fold = .isolated →
       t.tx.u.transit = ⟨[], [], []⟩ ∧ t.tx.d.transit = ⟨[], [], []⟩) ∧
     ((s.fold = .foldU ∧ t.fold = .normal) ∨ (s.fold = .isolated ∧ t.fold ≠ .isolated) ∨ t.fold = s.fold →
       t.tx.u.transit = s.tx.u.transit ∧ t.tx.d.transit = s.tx.d.transit) ∧
     t.ring.flushed.toNat = min (s.ring.flushed.toNat + (s.tx.u.transit.total + s.tx.d.transit.total
       - (t.tx.u.transit.total + t.tx.d.transit.total))) 65535)

/-- R24, R25, R26, R29: in PROVING or UP the expiry of the silence timer, the eighth bad cell of a window and the deaf
timer at 10 ms each take the line DOWN, with their cause; leaving UP counts a down event. The eighth bad cell is also
counted as a bad cell of its line (R13), and no other ring counter but the flushed count changes. Nothing of the other line
unit changes, the insert queues of V and C stay as they are (R36), and a fall from PROVING leaves every queue as it
is. -/
def Obligations.DownConditionsTakeALineDown : Prop :=
  ∀ (l : Line) (s : State) (e : Instr) (cause : DownCause),
    (s.lines.get l).state ≠ .down →
    ((e = .silenceTimerExpires l ∧ cause = .silence ∧ (s.lines.get l).silence ≠ none) ∨
      (e = .deafTimerExpires l ∧ cause = .farDeaf ∧ (s.lines.get l).deaf ≠ none) ∨
      (∃ c, e = .cellArrives l c ∧ cause = .errors ∧ checkGood c = false ∧ (s.lines.get l).windowBad = 7)) →
    ∃ t, exec e s = .next t ∧ SameBut [.clock, .lines, .tx, .ring, .toll] s t ∧
      (t.lines.get l).state = .down ∧ (t.lines.get l).cause = cause ∧ (t.lines.get l).proving = none ∧
      (t.lines.get l).farHeard = false ∧ (t.lines.get l).deaf = none ∧
      (t.lines.get l).farNumber = (s.lines.get l).farNumber ∧ (t.lines.get l).farFold = (s.lines.get l).farFold ∧
      (t.lines.get l).downEvents =
        (if (s.lines.get l).state = .up then bump (s.lines.get l).downEvents else (s.lines.get l).downEvents) ∧
      (∀ k : Line, k ≠ l → t.lines.get k = s.lines.get k) ∧
      (∀ k : Line, (t.tx.get k).insert.v = (s.tx.get k).insert.v ∧ (t.tx.get k).insert.c = (s.tx.get k).insert.c) ∧
      t.ring = { (if cause = .errors then
          (match l with
            | .u => { s.ring with badU := bump s.ring.badU }
            | .d => { s.ring with badD := bump s.ring.badD })
        else s.ring) with flushed := t.ring.flushed } ∧
      ((s.lines.get l).state = .proving → t.tx = s.tx ∧ t.toll = s.toll)

/-- R24, R25, R26, R28, R29: in DOWN a down condition has no effect: the timer that ran out stops, and the bad cell is
counted. Error windows of 100 ms follow one another without gaps, each beginning with a count of 0. A line in PROVING
moves to UP when its proving timer reaches 500 ms; in any other state that timer has no effect. -/
def Obligations.LineTimersAndErrorWindows : Prop :=
  ((∀ (l : Line) (s : State) (d : Time) (c : Cell), (s.lines.get l).state = .down →
      ((s.lines.get l).silence = some d →
        exec (.silenceTimerExpires l) s = .next ((s.setClock { s.clock with now := max s.clock.now d }).setLines
          (s.lines.set l { s.lines.get l with silence := none }))) ∧
      ((s.lines.get l).deaf = some d →
        exec (.deafTimerExpires l) s = .next ((s.setClock { s.clock with now := max s.clock.now d }).setLines
          (s.lines.set l { s.lines.get l with deaf := none }))) ∧
      (checkGood c = false → exec (.cellArrives l c) s = .next ((s.setRing (match l with
            | .u => { s.ring with badU := bump s.ring.badU }
            | .d => { s.ring with badD := bump s.ring.badD })).setLines
        (s.lines.set l { s.lines.get l with windowBad := (s.lines.get l).windowBad + 1 })))) ∧
   (∀ (l : Line) (s : State),
      exec (.errorWindowEnds l) s = .next ((s.setClock { s.clock with now := max s.clock.now (s.lines.get l).windowEnd
        }).setLines (s.lines.set l
          { s.lines.get l with windowEnd := (s.lines.get l).windowEnd + 100000000, windowBad := 0 })))) ∧
  (∀ (l : Line) (s : State) (d : Time), (s.lines.get l).proving = some d →
     ((s.lines.get l).state = .proving → ∃ t, exec (.provingTimerExpires l) s = .next t ∧
       SameBut [.clock, .lines, .tx, .ring, .toll] s t ∧
       t.lines = s.lines.set l { s.lines.get l with state := .up, proving := none } ∧
       (∀ k : Line, (t.tx.get k).insert.v = (s.tx.get k).insert.v ∧ (t.tx.get k).insert.c = (s.tx.get k).insert.c)) ∧
     ((s.lines.get l).state ≠ .proving → exec (.provingTimerExpires l) s = .next s))

/-! ### Stations, addresses and groups (chapter 3) -/

/-- R42, R46, R71, R89, R184: at the end of the listening time the station takes the start counter as its stamp, becomes
ACTIVE, with its toll channel SYNCING toward a toll centre already selected, and offers its first HELLO, which carries
the restart flag; the flag stays set only if the HELLO is refused. That this HELLO stands before the other cells of the
step, and carries the flag set in it, is the model's choice (notes/assumptions/36.md). At the end of a HELLO period an
ACTIVE or MUTE station offers a HELLO; one that is accepted clears the restart flag, one that is refused is an insert
drop. -/
def Obligations.ListeningTimerAndHelloPeriods : Prop :=
  (∀ (s : State) (d : Time), s.phase = .starting → s.station.listening = some d →
     let stamp := s.clock.counterBase + BitVec.ofNat 16 (max s.clock.now d / 1000)
     let room := (s.insertQueue .c).length < 32
     ∃ t, exec .listeningTimerExpires s = .next t ∧
       t.phase = .active ∧ t.station.listening = none ∧ t.station.stamp = stamp ∧
       t.station.restartFlag = (if room then false else true) ∧
       t.station.helloAt = some (d + 1000000000) ∧ t.station.statusAt = some (d + 5000000000) ∧
       t.call.holdAt = some (d + 1000000000) ∧
       t.station.heard = s.station.heard ∧ t.station.groups = s.station.groups ∧
       (∀ k, s.tollCentre = some k → s.portOf .toll ≠ none → t.toll.chan = .syncing ∧ t.toll.bound = some k) ∧
       (s.tollCentre = none → s.toll.chan = .closed → t.toll.chan = .closed) ∧
       t.lines = s.lines ∧ t.straps = s.straps ∧ t.plates = s.plates ∧ t.centre = s.centre ∧
       (room → ∃ rest, (t.tx.get (insertLine s.fold)).insert.c = s.insertQueue .c ++
         originate 5 255 (helloBytes { helloNow s with stamp := stamp, restart := true }) s :: rest)) ∧
  (∀ (s : State) (d : Time), s.phase = .active ∨ s.phase = .mute → s.station.helloAt = some d →
     let room := (s.insertQueue .c).length < 32
     ∃ t, exec .helloPeriod s = .next t ∧ SameBut [.clock, .station, .tx, .ring] s t ∧
       t.clock = { s.clock with now := max s.clock.now d } ∧
       (room → t.ring = s.ring ∧
         t.station = { s.station with helloAt := some (d + 1000000000), restartFlag := false } ∧
         t.tx = s.tx.set (insertLine s.fold) { s.tx.get (insertLine s.fold) with
           insert := { (s.tx.get (insertLine s.fold)).insert with
             c := s.insertQueue .c ++ [originate 5 255 (helloBytes (helloNow s)) s] } }) ∧
       (¬room → t.tx = s.tx ∧ t.ring = { s.ring with insertDrops := bump s.ring.insertDrops } ∧
         t.station = { s.station with helloAt := some (d + 1000000000) }))

/-- R47, R48, R49, R89, R90, R96, R98, R103: a present heard entry that reaches 3.5 s is removed and keeps its last stamp.
A HELLO of another station, copied, removes the entry with the duplicate flag, and without it creates or refreshes the
entry with the fields the cell carries. The other entries, the phase and the rest of the station table stay as they are.
The toll channel of an ACTIVE station follows the toll centre: SYNCING toward a new one, CLOSED without one. A restart
notice, given by the restart flag or another stamp, makes the source UNSYNCED, empties its downstream entries, and
starts a fresh sync where the channel is bound to it; that a HELLO with the duplicate flag gives it too is the model's
choice (notes/assumptions/14.md). -/
def Obligations.HeardTableFollowsHellosAndAges : Prop :=
  ∀ s : State,
  let fresh := fun (k : Nat) (t : State) => t.toll.chan = .syncing ∧ t.toll.bound = some k ∧ t.toll.expiries = 0 ∧
    t.toll.sendMark = none ∧ t.toll.syncTimer = some (t.clock.now + 500000000) ∧
    t.toll.journal = s.toll.journal.map (fun r => { r with sent := none }) ∧
    t.toll.start = (s.toll.journal.head?.map (fun r => r.number)).getD s.toll.next ∧
    ((s.insertQueue .c).length ≤ 12 → originate 10 (natByte k) (wordBytes t.toll.start) s ∈
      (t.tx.get (insertLine s.fold)).insert.c)
  let runs := s.phase = .active ∧ s.portOf .toll ≠ none
  let follows := fun (t : State) => runs → t.tollCentre ≠ s.tollCentre →
    (∀ k, t.tollCentre = some k → fresh k t) ∧
    (t.tollCentre = none → t.toll.chan = .closed ∧ (s.toll.chan ≠ .closed → t.toll.bound = none ∧
      t.toll.expiries = 0 ∧ t.toll.sendMark = none ∧ t.toll.syncTimer = none ∧
      t.toll.journal = s.toll.journal.map (fun r => { r with sent := none })))
  (∀ n : Nat, (s.heardOf n).present = true → 1 ≤ n → n ≤ 60 →
     ∃ t, exec (.heardEntryExpires n) s = .next t ∧
       SameBut [.clock, .tx, .ring, .station, .call, .toll, .signs, .responses, .ports, .portCounts] s t ∧
       t.clock = { s.clock with now := max s.clock.now ((s.heardOf n).refreshed + 3500000000) } ∧
       t.station.heard = s.station.heard.setIfInBounds n { absentEntry with stamp := (s.heardOf n).stamp } ∧
       t.station = { s.station with heard := t.station.heard } ∧
       (t.heardOf n).present = false ∧ (t.heardOf n).stamp = (s.heardOf n).stamp ∧
       follows t ∧ (¬runs ∨ t.tollCentre = s.tollCentre → t.toll = s.toll)) ∧
  (∀ (l : Line) (c : Cell), s.phase ≠ .strapFault → Copied l c s → c.kind = 5 →
     let n := c.source.toNat
     let e := s.heardOf n
     let h := readHello c.payload
     let restarted := h.restart = true ∨
       (∃ x, e.stamp = some x ∧ x ≠ h.stamp ∧ (e.present = true ∨ h.duplicate = false))
     ∃ t, exec (.cellArrives l c) s = .next t ∧ t.phase = s.phase ∧ t.straps = s.straps ∧ t.plates = s.plates ∧
       t.clock = s.clock ∧ t.station = { s.station with heard := t.station.heard } ∧
       (h.duplicate = true → e.present = false → t.station.heard = s.station.heard) ∧
       (h.duplicate = true → e.present = true → t.station.heard = s.station.heard.setIfInBounds n absentEntry) ∧
       (h.duplicate = false → t.station.heard = s.station.heard.setIfInBounds n
         { present := true, refreshed := s.clock.now, stamp := some h.stamp, fold := h.fold, centre := h.centre,
           tollReceive := h.tollReceive }) ∧
       follows t ∧
       (¬restarted → ¬runs ∨ t.tollCentre = s.tollCentre → t.toll = s.toll) ∧
       (restarted → t.toll.receive = s.toll.receive.setIfInBounds n none ∧
         (∀ i : Fin 2, t.toll.down[i] =
           if s.toll.down[i].map (fun d => d.centre) = some n then none else s.toll.down[i]) ∧
         (s.toll.bound = some n → s.toll.chan ≠ .closed → ¬runs ∨ t.tollCentre = s.tollCentre → fresh n t)))

/-- R44, R45, R81, R89, R173: an own-source HELLO with another stamp makes an ACTIVE station MUTE. Its insert queues keep
HELLO and STATUS only, the intake FIFO is emptied, its calls end without a RELEASE, and the toll channel closes. One with
the station's own stamp, and any in another phase, is stripped on its return with no other effect. -/
def Obligations.OwnHelloWithAnotherStampMutesTheStation : Prop :=
  (∀ (l : Line) (c : Cell) (s : State),
    s.own = some c.source.toNat → Passes l c s → c.kind = 5 → c.dest = 255 →
    (readHello c.payload).stamp = s.station.stamp ∨ s.phase ≠ .active →
    ((l = .u ∧ (s.fold = .normal ∨ s.fold = .foldD)) ∨ (l = .d ∧ s.fold = .foldU)) →
    exec (.cellArrives l c) s = .next
      (s.setLines (s.lines.set l { s.lines.get l with silence := some (s.clock.now + 2000000) }))) ∧
  ∀ (l : Line) (c : Cell) (s : State),
    s.phase = .active → s.own = some c.source.toNat → Passes l c s → c.kind = 5 → c.dest = 255 →
    (readHello c.payload).stamp ≠ s.station.stamp →
    ∃ t, exec (.cellArrives l c) s = .next t ∧
      t.phase = .mute ∧ t.station.duplicateFlag = true ∧ t.station.heard = s.station.heard ∧
      t.station.stamp = s.station.stamp ∧
      (∀ k : Line, ∀ x ∈ (t.tx.get k).insert.v ++ (t.tx.get k).insert.c ++ (t.tx.get k).insert.b,
        x.kind = 5 ∨ x.kind = 6) ∧
      t.centre.intake = [] ∧ t.centre.paused = false ∧
      (∀ p : Port, t.call.phones[p].state = .idle) ∧ t.call.requests = [] ∧ t.call.attempt = none ∧
      (∀ k : Fin 16, ∀ p x n, t.call.circuits[k] ≠ .ownClaiming p x n ∧ t.call.circuits[k] ≠ .ownHeld p x) ∧
      t.toll.chan = .closed ∧ t.toll.journal = allNew s.toll.journal ∧
      t.weather.pollTimer = none ∧ t.weather.alarmTimer = none ∧ t.weather.reply = none ∧
      (∀ p : Port, t.ports[p].link ≠ .pass)

/-- R43, R50, R52, R54, R185: the rejects of the station table, in the order of its tests. A station in STRAP-FAULT and a
station that is no member of the group do nothing and count nothing. A COMMAND cell with a code outside 1 to 15 is
UNKNOWN, in every phase but STRAP-FAULT, when it is from a centre. RESTART by unicast from a centre does what RESET does,
with the straps as the pins stand, the model's choice (notes/assumptions/3.md); it is acted on in STARTING, ACTIVE and
MUTE. A COMMAND cell has the effect of the command it carries: one that is delivered; one that is copied, by a group or to
all stations, which then passes on; and one from the centre intake FIFO, where it comes from the own centre port. -/
def Obligations.CommandsAreAdmittedByTheTestsOfR52 : Prop :=
  (∀ (i : Instr) (via : Via) (c : Command) (s : State), commandOf i = some (via, c) →
     (s.phase = .strapFault ∨ ¬Concerns via s → exec i s = .next s) ∧
     (s.phase ≠ .strapFault → Concerns via s →
       (¬FromCentre via s → exec i s = .next (rejected .notCentre s)) ∧
       (FromCentre via s → c ≠ .restart → s.phase ≠ .active → exec i s = .next (rejected .state s)) ∧
       (FromCentre via s → c = .restart → via.addressing ≠ .unicast → exec i s = .next (rejected .range s)))) ∧
  (∀ (l : Line) (c : Cell) (s : State), Delivered l c s ∨ Copied l c s → c.kind = 7 → s.phase ≠ .strapFault →
     (byteAt c.payload 0).toNat = 0 ∨ 15 < (byteAt c.payload 0).toNat →
     ∃ t, exec (.cellArrives l c) s = .next t ∧
       SameBut [.lines, .tx, .ring, .station, .ports, .portCounts, .centre] s t ∧
       (s.centreHeard c.source.toNat = true → t.station = (rejected .unknown s).station) ∧
       (s.centreHeard c.source.toNat = false → t.station = (rejected .notCentre s).station)) ∧
  (∀ (via : Via) (s : State), s.phase ≠ .strapFault → FromCentre via s → via.addressing = .unicast →
     exec (.restart via) s = exec (.reset s.straps.pins) s) ∧
  (∀ (l : Line) (c : Cell) (s : State) (i : Instr), Passes l c s → s.own ≠ some c.source.toNat → c.kind = 7 →
     commandOf i = some (⟨false, c.source, addressingOf c.dest⟩, readCommand c.payload) →
     let heard := s.setLines (s.lines.set l { s.lines.get l with silence := some (s.clock.now + 2000000) })
     (s.own = some c.dest.toNat → exec (.cellArrives l c) s = exec i heard) ∧
     (64 ≤ c.dest.toNat → l = copyingLine s.fold → ∃ u t, exec i heard = .next u ∧ exec (.cellArrives l c) s = .next t ∧
       SameBut [.tx, .ring, .ports, .portCounts, .centre] u t ∧
       (∀ k : Line, (t.tx.get k).insert = (u.tx.get k).insert) ∧
       (s.portOf .centre = none → t.ports = u.ports ∧ t.portCounts = u.portCounts ∧ t.centre = u.centre))) ∧
  (∀ (s : State) (c : Cell) (rest : List Cell) (i : Instr), s.phase = .active → s.centre.intake = c :: rest →
     s.centre.paused = false → c.kind = 7 → (s.insertQueue .c).length < 32 →
     commandOf i = some (⟨true, s.ownByte, addressingOf c.dest⟩, readCommand c.payload) →
     let moved := s.setCentre { s.centre with intake := rest }
     (s.own = some c.dest.toNat → exec .intakeAdvance s = exec i moved) ∧
     (addressingOf c.dest ≠ .unicast → ∃ u t, exec i moved = .next u ∧ exec .intakeAdvance s = .next t ∧
       SameBut [.tx, .ring] u t))

/-- R53: which ports the target port of a port command names, by addressing; an admitted port command acts on each of
them, the lower port first, and is rejected where its target is refused. -/
def Obligations.PortCommandsActOnTheResolvedPorts : Prop :=
  (∀ (a : Addressing) (fit : List Profile) (target : Byte) (s : State),
     let concerns := fun (p : Port) => ∀ g, a = .group g → (s.groupMask g).getLsbD p.val = true
     (∀ p : Port, target.toNat = p.val → s.profile p ∈ fit → concerns p → resolve a fit target s = .ports [p]) ∧
     (∀ p : Port, target.toNat = p.val → s.profile p ∉ fit → concerns p → resolve a fit target s = .refused .port) ∧
     (∀ p : Port, target.toNat = p.val → ¬concerns p → resolve a fit target s = .ports []) ∧
     (4 ≤ target.toNat → target.toNat ≤ 254 → resolve a fit target s = .refused .range) ∧
     (target = 255 → a = .unicast → (∀ p, s.profile p ∉ fit) → resolve a fit target s = .refused .port) ∧
     (target = 255 → (a = .unicast → ∃ p, s.profile p ∈ fit) →
       ∃ ps, resolve a fit target s = .ports ps ∧ ps.Pairwise (· < ·) ∧
         ∀ p, p ∈ ps ↔ s.profile p ∈ fit ∧ concerns p)) ∧
  (∀ (via : Via) (target : Byte) (s : State), Admitted via s →
     ∀ (i : Instr) (fit : List Profile) (act : Port → State → State),
       ((∃ prio, i = .callPhone via target prio ∧ fit = [.phone] ∧ act = callPhoneOn prio) ∨
         (∃ q, i = .pageSet via target q ∧ fit = [.sign] ∧ act = pageSetOn q) ∨
         (∃ page prio, i = .showPage via target page prio ∧ fit = [.sign] ∧ act = showOn page prio) ∨
         (i = .signRestore via target ∧ fit = [.sign] ∧ act = restoreSign) ∨
         (∃ n, i = .wxRate via target n ∧ fit = [.weather] ∧ act = fun _ => setRate n) ∨
         (∃ q, i = .wxLimits via target q ∧ fit = [.weather] ∧ act = fun _ => setLimits q) ∨
         (∃ x, i = .passOpen via target x ∧ fit = [.sign, .weather, .toll] ∧
           act = passOpenOn (if via.ownPort then s.straps.number.toNat else via.source.toNat) x) ∨
         (i = .passClose via target ∧ fit = [.sign, .weather, .toll] ∧ act = passCloseOn)) →
       (∀ ps, resolve via.addressing fit target s = .ports ps →
         exec i s = .next (ps.foldl (fun s p => act p s) s)) ∧
       (∀ r, resolve via.addressing fit target s = .refused r → exec i s = .next (rejected r s)))

/-- R51, R56: GROUP-SET replaces the mask of one group, with the bits of ports treated as NONE cleared; a group above 31 or
a mask above 15 is a reject. CALL-FLOOR replaces the call floor, and touches no circuit held or claim in flight; a floor
above 3 is a reject. The last clause is a station where no request waits for the floor to fall. -/
def Obligations.GroupSetAndCallFloor : Prop :=
  (∀ (via : Via) (g m : Byte) (s : State), Admitted via s →
     (g.toNat ≤ 31 → m.toNat ≤ 15 → ∃ mask : BitVec 4,
       exec (.groupSet via g m) s = .next (s.setStation { s.station with
         groups := s.station.groups.setIfInBounds g.toNat mask }) ∧
       ∀ p : Port, mask.getLsbD p.val = (m.getLsbD p.val && decide (s.profile p ≠ .none))) ∧
     (¬(g.toNat ≤ 31 ∧ m.toNat ≤ 15) → exec (.groupSet via g m) s = .next (rejected .range s))) ∧
  (∀ (via : Via) (f : Byte) (s : State), Admitted via s →
     (3 < f.toNat → exec (.callFloor via f) s = .next (rejected .range s)) ∧
     (f.toNat ≤ 3 → ∃ t, exec (.callFloor via f) s = .next t ∧
       SameBut [.tx, .call, .signs, .responses, .ports, .portCounts] s t ∧ t.call.floor = f.toNat ∧
       (∀ k : Fin 16, ∀ p x, s.call.circuits[k] = .ownHeld p x → t.call.circuits[k] = .ownHeld p x) ∧
       (∀ a, s.call.attempt = some a → t.call.attempt = some a) ∧
       (s.call.requests = [] → t.call.circuits = s.call.circuits ∧ t.call.attempt = s.call.attempt ∧ t.tx = s.tx ∧
         t.call.requests = [])))

/-- R41, R42, R44, R45, R185: a station becomes ACTIVE only from STARTING, at the end of the listening time, and MUTE only
from ACTIVE, by an own-source HELLO; it enters STARTING or STRAP-FAULT only by RESET, by RESTART, or by a COMMAND that
carries RESTART, in a cell that arrives or from the centre intake FIFO. -/
def Obligations.PhasesChangeOnlyAsChapter3Says : Prop :=
  ∀ (c : Instr) (s t : State), exec c s = .next t →
    (t.phase = .active → s.phase = .active ∨ (s.phase = .starting ∧ c = .listeningTimerExpires)) ∧
    (t.phase = .mute → s.phase = .mute ∨ (s.phase = .active ∧
      ∃ l x, c = .cellArrives l x ∧ x.kind = 5 ∧ s.own = some x.source.toNat)) ∧
    (t.phase = .starting ∨ t.phase = .strapFault → t.phase = s.phase ∨
      (∃ pins, c = .reset pins) ∨ (∃ via, c = .restart via) ∨
      (∃ l x, c = .cellArrives l x ∧ x.kind = 7 ∧ readCommand x.payload = .restart) ∨
      (c = .intakeAdvance ∧ ∃ x rest, s.centre.intake = x :: rest ∧ x.kind = 7 ∧ readCommand x.payload = .restart))

/-! ### Emergency call circuits (chapter 4) -/

/-- R58, R59, R62, R77, R80: OFF-HOOK and CALL-PHONE make a request of an IDLE port. In STARTING it waits in the list. In
ACTIVE, where it is alone and may claim, it claims the lowest FREE circuit at once, in the same step. -/
def Obligations.NewRequestsJoinTheListAndClaim : Prop :=
  ∀ (p : Port) (s : State) (i : Instr) (key : Key) (via : Via) (prio : Byte) (x : Nat) (ring : Bool),
    Serving .phone p s → s.call.phones[p].state = .idle →
    ((i = .offHook p key ∧ s.rx[p] = none ∧ x = keyPriority key ∧ ring = false ∧
        (s.phase = .starting ∨ s.phase = .active)) ∨
      (i = .callPhone via (natByte p.val) prio ∧ x = prio.toNat ∧ 1 ≤ x ∧ x ≤ 3 ∧ ring = true ∧ Admitted via s ∧
        via.addressing = .unicast)) →
    ∃ t, exec i s = .next t ∧ SameBut [.tx, .call, .signs, .responses, .ports, .portCounts] s t ∧
      t.call.phones[p].priority = x ∧ t.call.phones[p].ringFlag = ring ∧ t.call.phones[p].reason = .none ∧
      (∃ r ∈ t.call.requests, r.port = p ∧ r.priority = x) ∧
      (s.phase = .starting → t.call.phones[p].state = .waiting ∧ t.tx = s.tx ∧
        t.call.circuits = s.call.circuits ∧ t.call.attempt = s.call.attempt) ∧
      (∀ (centre : Nat) (c : Fin 16), s.phase = .active → s.call.requests = [] → s.call.attempt = none →
        s.call.floor ≤ x → s.selectedCentre = some centre → s.call.phones[p].avoided = none →
        s.call.circuits[c] = .free → (∀ k : Fin 16, k < c → s.call.circuits[k] ≠ .free) →
        (s.insertQueue .c).length < 32 →
        t.call.phones[p].state = .claiming ∧ t.call.claimCounter = s.call.claimCounter + 1 ∧
        t.call.circuits[c] = .ownClaiming p x (s.call.claimCounter + 1) ∧
        t.call.attempt = some { port := p, circuit := c, priority := x, number := s.call.claimCounter + 1,
                                hangUp := false, target := centre, expires := s.clock.now + 200000000 } ∧
        (t.tx.get (insertLine s.fold)).insert.c = s.insertQueue .c ++ [originate 2 255 (claimBytes
          { circuit := c, priority := x, port := p, preempt := false, ring := ring, target := centre,
            number := s.call.claimCounter + 1, beaten := false }) s])

/-- R61: the circuit that a request takes: the lowest FREE one, the avoided one passed over while another is FREE; else
a REMOTE one of lower priority, of the lowest priority and then the one entered most recently, the avoided one passed
over while another qualifies; else none. -/
def Obligations.CircuitsAreChosenAsR61Says : Prop :=
  ∀ (v : Vector Circuit 16) (prio : Nat) (avoided : Option (Fin 16)) (base : BitVec 16),
    (∀ (k : Fin 16) st p x a o, v[k] = .remote st p x a o → (o - base).toNat < 32768) →
    let lower := fun (k : Fin 16) (x : Nat) (o : BitVec 16) => ∃ st p a, v[k] = .remote st p x a o ∧ x < prio
    (∀ c, chooseCircuit v prio avoided = some (c, false) →
      v[c] = .free ∧ (∀ k : Fin 16, k < c → v[k] = .free → avoided = some k) ∧
        (avoided = some c → ∀ k : Fin 16, v[k] = .free → k = c)) ∧
    (∀ c, chooseCircuit v prio avoided = some (c, true) → (∀ k : Fin 16, v[k] ≠ .free) ∧
      ∃ x o, lower c x o ∧
        (∀ k y o', lower k y o' → avoided ≠ some k → x < y ∨ (x = y ∧ (o' - base).toNat ≤ (o - base).toNat) ∨
          avoided = some c) ∧
        (avoided = some c → ∀ k y o', lower k y o' → k = c)) ∧
    (chooseCircuit v prio avoided = none ↔ (∀ k : Fin 16, v[k] ≠ .free) ∧ ∀ k x o, ¬lower k x o)

/-- R63 to R66: what a passing CLAIM of another station does to the entry of its circuit, and whether it goes on with
its beaten flag set. The premise on priorities keeps the station's own requests from taking the circuit back in the same
step. -/
def Obligations.PassingClaimsAreJudged : Prop :=
  ∀ (l : Line) (c : Cell) (s : State) (cl : Claim) (k : Fin 16) (n : Nat),
    Copied l c s → c.kind = 2 → cl = readClaim c.payload → cl.circuit = k → n = c.source.toNat →
    s.phase = .active ∨ s.phase = .starting →
    (∀ r ∈ s.call.requests, r.priority ≤ cl.priority) → (∀ p : Port, s.call.phones[p].priority ≤ cl.priority) →
    ((s.tx.get (forwardLine s.fold l)).transit.c).length < 32 →
    ∃ t payload, exec (.cellArrives l c) s = .next t ∧
      (t.tx.get (forwardLine s.fold l)).transit.c =
        (s.tx.get (forwardLine s.fold l)).transit.c ++ [forwarded { c with payload := payload }] ∧
      (cl.beaten = true → payload = c.payload ∧ t.call.circuits = s.call.circuits) ∧
      (cl.beaten = false →
        (∀ p x m, s.call.circuits[k] = .ownClaiming p x m → (x < cl.priority ∨ (x = cl.priority ∧ s.own ≠ none ∧
            n < s.own.getD 0)) →
          payload = c.payload ∧ ∃ o, t.call.circuits[k] = .remote n cl.port cl.priority s.clock.now o) ∧
        (∀ p x m, s.call.circuits[k] = .ownClaiming p x m → (cl.priority < x ∨ (x = cl.priority ∧
            s.own.getD 0 ≤ n)) → payload = markBeaten c.payload ∧ t.call.circuits = s.call.circuits) ∧
        (∀ p x, s.call.circuits[k] = .ownHeld p x → x < cl.priority →
          payload = c.payload ∧ ∃ o, t.call.circuits[k] = .remote n cl.port cl.priority s.clock.now o) ∧
        (∀ p x, s.call.circuits[k] = .ownHeld p x → cl.priority ≤ x →
          payload = markBeaten c.payload ∧ t.call.circuits = s.call.circuits) ∧
        (s.call.circuits[k] = .free →
          payload = c.payload ∧ ∃ o, t.call.circuits[k] = .remote n cl.port cl.priority s.clock.now o) ∧
        (∀ st p x a o, s.call.circuits[k] = .remote st p x a o → payload = c.payload ∧
          (st = n → t.call.circuits[k] = .remote n cl.port cl.priority s.clock.now o) ∧
          (st ≠ n → (x < cl.priority ∨ (x = cl.priority ∧ n < st)) →
            ∃ o', t.call.circuits[k] = .remote n cl.port cl.priority s.clock.now o') ∧
          (st ≠ n → ¬(x < cl.priority ∨ (x = cl.priority ∧ n < st)) → t.call.circuits = s.call.circuits)))

/-- R67, R68, R69: an own CLAIM that comes home unbeaten, the entry for its circuit still OWN-CLAIMING and its target
centre heard, wins the circuit: a caller's phone is CONNECTED, a centre-started call RINGS. One that comes home beaten, or
finds the entry for its circuit no longer OWN-CLAIMING, is a failure; here no centre is selected, so that no claim follows
in the same step. A return that matches no attempt in flight, or outside ACTIVE, is ignored: no circuit, request, attempt or
call record changes but for an indication that is due. -/
def Obligations.UnbeatenClaimsWinTheirCircuit : Prop :=
  (∀ (l : Line) (c : Cell) (s : State),
    Passes l c s → c.kind = 2 → c.dest = 255 → s.own = some c.source.toNat → l = copyingLine s.fold →
    (∀ a, s.call.attempt = some a → s.phase ≠ .active ∨ (readClaim c.payload).number ≠ a.number) →
    ∃ t, exec (.cellArrives l c) s = .next t ∧ SameBut [.lines, .call, .ports, .portCounts] s t ∧
      t.call = { s.call with phones := t.call.phones } ∧
      ∀ p : Port, ∃ x, t.call.phones[p] = { s.call.phones[p] with indicated := x }) ∧
  ∀ (l : Line) (c : Cell) (s : State) (a : Attempt) (p : Port) (cl : Claim),
    Passes l c s → c.kind = 2 → c.dest = 255 → s.own = some c.source.toNat → l = copyingLine s.fold →
    s.phase = .active → s.call.attempt = some a → a.port = p → a.hangUp = false →
    cl = readClaim c.payload → cl.number = a.number →
    (∀ x, cl.beaten = false → cl.circuit = a.circuit → s.call.circuits[a.circuit] = .ownClaiming p x a.number →
      (s.heardOf a.target).present = true → (∀ r ∈ s.call.requests, r.port = p) →
      ∃ t, exec (.cellArrives l c) s = .next t ∧ t.tx = s.tx ∧
        t.call.circuits = s.call.circuits.set a.circuit (.ownHeld p a.priority) ∧ t.call.attempt = none ∧
        t.call.requests = [] ∧ t.call.phones[p].failed = 0 ∧ t.call.phones[p].avoided = none ∧
        t.call.phones[p].reason = .none ∧ t.call.phones[p].circuit = s.call.phones[p].circuit ∧
        t.call.phones[p].target = s.call.phones[p].target ∧
        (s.call.phones[p].ringFlag = true → t.call.phones[p].state = .ringing ∧
          t.call.phones[p].ringing = some (s.clock.now + 60000000000)) ∧
        (s.call.phones[p].ringFlag = false → t.call.phones[p].state = .connected ∧ t.call.phones[p].sendSeq = 0 ∧
          t.call.phones[p].recvSeq = none ∧ t.call.phones[p].playing = false ∧
          t.call.phones[p].playTimer = some (s.clock.now + 5000000))) ∧
    (cl.beaten = true ∨ (∀ q x, s.call.circuits[cl.circuit] ≠ .ownClaiming q x a.number) →
      s.call.phones[p].failed < 3 → s.selectedCentre = none →
      ∃ t, exec (.cellArrives l c) s = .next t ∧ t.tx = s.tx ∧ t.call.attempt = none ∧
        t.call.phones[p].state = .waiting ∧ t.call.phones[p].failed = s.call.phones[p].failed + 1 ∧
        t.call.phones[p].circuit = none ∧ t.call.requests = s.call.requests ∧
        t.call.phones[p].avoided = (if cl.beaten then some cl.circuit else s.call.phones[p].avoided) ∧
        (∀ q x, s.call.circuits[a.circuit] = .ownClaiming q x a.number → t.call.circuits[a.circuit] = .free) ∧
        ∀ k : Fin 16, k ≠ a.circuit → t.call.circuits[k] = s.call.circuits[k])

/-- R69, R70: the attempt timer ends the attempt. The fourth failure in a row sends the port to BACKOFF; an earlier one
leaves it WAITING, to claim again at once if a centre is selected. The backoff timer returns it to WAITING with its
counts cleared. -/
def Obligations.AttemptAndBackoffTimers : Prop :=
  ∀ (p : Port) (s : State),
    (∀ a : Attempt, s.call.attempt = some a → a.port = p → a.hangUp = false → (∀ r ∈ s.call.requests, r.port = p) →
      ∃ t, exec .attemptTimerExpires s = .next t ∧
        SameBut [.clock, .tx, .call, .signs, .responses, .ports, .portCounts] s t ∧
        (s.call.circuits[a.circuit] = .ownClaiming p a.priority a.number →
          3 ≤ s.call.phones[p].failed ∨ s.selectedCentre = none → t.call.circuits[a.circuit] = .free) ∧
        (3 ≤ s.call.phones[p].failed → t.call.attempt = none ∧ t.call.phones[p].state = .backoff ∧
          t.call.phones[p].failed = s.call.phones[p].failed + 1 ∧ t.call.phones[p].circuit = none ∧
          t.call.phones[p].backoff = some (max s.clock.now a.expires + 1000000000)) ∧
        (s.call.phones[p].failed < 3 → s.selectedCentre = none → t.call.attempt = none ∧
          t.call.phones[p].state = .waiting ∧ t.call.phones[p].failed = s.call.phones[p].failed + 1 ∧
          t.call.phones[p].circuit = none ∧ t.call.phones[p].avoided = s.call.phones[p].avoided)) ∧
    (∀ d, s.call.phones[p].backoff = some d → s.call.phones[p].state = .backoff → s.selectedCentre = none →
      ∃ t, exec (.backoffTimerExpires p) s = .next t ∧ SameBut [.clock, .call, .ports, .portCounts] s t ∧
        t.call.phones[p].state = .waiting ∧ t.call.phones[p].failed = 0 ∧ t.call.phones[p].avoided = none ∧
        t.call.phones[p].backoff = none ∧ t.call.requests = s.call.requests ∧ t.call.circuits = s.call.circuits)

/-- R74, R78, R79: a call that holds a circuit ends by ON-HOOK, or by the ringing timer at 60 s, with a RELEASE; the port
becomes IDLE and the circuit FREE. -/
def Obligations.EndedCallsReleaseTheirCircuit : Prop :=
  ∀ (p : Port) (s : State) (i : Instr) (c : Fin 16),
    ((i = .onHook p ∧ Serving .phone p s ∧ s.rx[p] = none ∧ (s.phase = .starting ∨ s.phase = .active) ∧
        (s.call.phones[p].state = .connected ∨ s.call.phones[p].state = .ringing)) ∨
      (i = .ringingTimerExpires p ∧ s.call.phones[p].state = .ringing ∧ s.call.phones[p].ringing ≠ none)) →
    s.call.phones[p].circuit = some c → s.call.requests = [] →
    ∃ t, exec i s = .next t ∧
      SameBut [.clock, .tx, .ring, .call, .signs, .responses, .ports, .portCounts] s t ∧
      t.call.phones[p].state = .idle ∧ t.call.phones[p].reason = .none ∧ t.call.phones[p].circuit = none ∧
      t.call.phones[p].target = none ∧ t.call.phones[p].playout = [] ∧ t.call.phones[p].playTimer = none ∧
      t.call.phones[p].ringing = none ∧
      t.call.circuits = s.call.circuits.set c .free ∧ t.call.requests = [] ∧ t.call.attempt = s.call.attempt ∧
      ((s.insertQueue .c).length < 32 → (t.tx.get (insertLine s.fold)).insert.c =
        s.insertQueue .c ++ [originate 3 255 [natByte c.val, natByte p.val] s] ∧ t.ring = s.ring) ∧
      (32 ≤ (s.insertQueue .c).length → t.tx = s.tx ∧
        t.ring = { s.ring with insertDrops := bump s.ring.insertDrops })

/-- R77, R82: ANSWER in RINGING connects the phone; in any other state it changes no call record. 40 samples from a
CONNECTED phone lead to a VOICE cell for its target centre; the send sequence advances whether the cell is accepted or
refused. -/
def Obligations.PhonesAnswerAndSpeak : Prop :=
  (∀ (p : Port) (s : State), Serving .phone p s → s.rx[p] = none → s.phase = .starting ∨ s.phase = .active →
     ∃ t, exec (.answer p) s = .next t ∧ SameBut [.call, .ports, .portCounts] s t ∧
       t.call.circuits = s.call.circuits ∧ t.call.requests = s.call.requests ∧ t.call.attempt = s.call.attempt ∧
       (s.call.phones[p].state = .ringing → t.call.phones[p] = { s.call.phones[p] with
         state := .connected, ringing := none, sendSeq := 0, recvSeq := none, playout := [], playing := false,
         priming := 0, playTimer := some (s.clock.now + 5000000), indicated := .connected }) ∧
       (s.call.phones[p].state ≠ .ringing → ∃ x, t.call.phones[p] = { s.call.phones[p] with indicated := x })) ∧
  (∀ (p : Port) (voice : List Byte) (s : State) (c : Fin 16) (target : Nat),
     Serving .phone p s → s.rx[p] = none → voice.length = 40 → s.call.phones[p].state = .connected →
     s.call.phones[p].circuit = some c → s.call.phones[p].target = some target →
     ∃ t, exec (.samples p voice) s = .next t ∧ SameBut [.tx, .ring, .call, .ports] s t ∧
       t.ports = s.ports.set p { s.ports[p] with silence := some (s.clock.now + 1000000000) } ∧
       t.call = { s.call with
         phones := s.call.phones.set p { s.call.phones[p] with sendSeq := s.call.phones[p].sendSeq + 1 } } ∧
       ((s.insertQueue .v).length < 16 → t.ring = s.ring ∧ (t.tx.get (insertLine s.fold)).insert.v =
         s.insertQueue .v ++ [originate 1 (natByte target)
           (natByte c.val :: s.call.phones[p].sendSeq :: voice) s]) ∧
       (16 ≤ (s.insertQueue .v).length → t.tx = s.tx ∧
         t.ring = { s.ring with insertDrops := bump s.ring.insertDrops }))

/-- R83, R84: a VOICE cell for this station, in ACTIVE, goes to the CONNECTED phone with its circuit and its source as
target centre: late, over a full queue, or appended. Each expiry of a CONNECTED port's playout timer plays the oldest
cell or silence, by the playout state, and the timer runs on. The bytes of a VOICE payload, and that a service's frame
goes out only while its port's link is UP, are the model's choice (notes/assumptions/5.md, 9.md). -/
def Obligations.VoiceIsQueuedAndPlayedOut : Prop :=
  (∀ (l : Line) (cell : Cell) (s : State) (p : Port) (ph : Phone),
     Delivered l cell s → cell.kind = 1 → s.phase = .active → s.isCentre = false → s.call.phones[p] = ph →
     s.profile p = .phone → ph.state = .connected → ph.circuit = some (circuitAt cell.payload 0) →
     ph.target = some cell.source.toNat → (∀ q : Port, q < p → ¬(s.profile q = .phone ∧
       s.call.phones[q].state = .connected ∧ s.call.phones[q].circuit = some (circuitAt cell.payload 0))) →
     let seq := byteAt cell.payload 1
     let late := ∃ r, ph.recvSeq = some r ∧ ¬(1 ≤ (seq - r).toNat ∧ (seq - r).toNat ≤ 127)
     let joined := { ph with playout := ph.playout ++ [⟨seq, (cell.payload.drop 2).take 40⟩], recvSeq := some seq,
                             priming := ph.priming + 1 }
     ∃ t, exec (.cellArrives l cell) s = .next t ∧ SameBut [.lines, .call] s t ∧
       t.call = { s.call with phones := s.call.phones.set p t.call.phones[p] } ∧
       (late → t.call.phones[p] = { ph with late := bump ph.late }) ∧
       (¬late → ph.playout.length < 8 → t.call.phones[p] = joined) ∧
       (¬late → 8 ≤ ph.playout.length → t.call.phones[p] =
         { joined with playout := ph.playout.drop 1 ++ [⟨seq, (cell.payload.drop 2).take 40⟩],
                       overflow := bump ph.overflow })) ∧
  (∀ (p : Port) (s : State) (d : Time) (ph : Phone), s.call.phones[p] = ph → ph.playTimer = some d →
     ph.state = .connected →
     ∃ (f : Frame) (ph' : Phone), exec (.playoutTimer p) s = .next (sendService p f ((atMoment d s).setCall
         { s.call with phones := s.call.phones.set p { ph' with playTimer := some (d + 5000000) } })) ∧
       (ph.playing = false → ph.priming < 2 → f = silenceFrame ∧ ph' = ph) ∧
       (∀ v rest, ph.playing = false → 2 ≤ ph.priming → ph.playout = v :: rest →
         f = playFrame v.voice ∧ ph' = { ph with playout := rest, playing := true }) ∧
       (∀ v rest, ph.playing = true → ph.playout = v :: rest →
         f = playFrame v.voice ∧ ph' = { ph with playout := rest }) ∧
       (ph.playing = true → ph.playout = [] → f = silenceFrame ∧
         ph' = { ph with playing := false, priming := 0, recvSeq := none, underrun := bump ph.underrun }))

/-- R71, R72, R73, R74, R79: at the end of each HOLD period an ACTIVE station that holds circuits offers a HOLD that lists
them, in ascending order, with priority and holder port; a station that holds none sends nothing. A REMOTE entry whose age
reaches 3.5 s becomes FREE; the other entries stay, where no request waits to claim. What a copied HOLD of another station
makes of the entry of each circuit it lists, and of a call that loses a double hold; and what a copied RELEASE frees. The
claim test that follows either may make one entry OWN-CLAIMING (`claimed`). -/
def Obligations.HoldPeriodsAndRemoteEntries : Prop :=
  (∀ (s : State) (d : Time) (held : List (Fin 16 × Nat × Port)), s.phase = .active → s.call.holdAt = some d →
     (held.Pairwise (fun a b => a.1 < b.1)) →
     (∀ (c : Fin 16) x p, (c, x, p) ∈ held ↔ s.call.circuits[c] = .ownHeld p x) →
     let later := (atMoment d s).setCall { s.call with holdAt := some (d + 1000000000) }
     (held = [] → exec .holdPeriod s = .next later) ∧
     (held ≠ [] → 32 ≤ (s.insertQueue .c).length → exec .holdPeriod s = .next
       (later.setRing { s.ring with insertDrops := bump s.ring.insertDrops })) ∧
     (held ≠ [] → (s.insertQueue .c).length < 32 → ∃ t, exec .holdPeriod s = .next t ∧
       SameBut [.clock, .tx, .call] s t ∧ t.call = later.call ∧ t.clock = later.clock ∧
       (t.tx.get (insertLine s.fold)).insert.c = s.insertQueue .c ++ [originate 4 255 (natByte held.length ::
         held.flatMap (fun h => [natByte h.1.val, natByte h.2.1, natByte h.2.2.val])) s])) ∧
  (∀ (c : Fin 16) (s : State) (st : Nat) (p : Port) (x : Nat) (a : Time) (o : BitVec 16),
     s.call.circuits[c] = .remote st p x a o → s.call.requests = [] →
     ∃ t, exec (.remoteEntryExpires c) s = .next t ∧
       SameBut [.clock, .call, .signs, .responses, .ports, .portCounts] s t ∧
       t.clock = { s.clock with now := max s.clock.now (a + 3500000000) } ∧
       t.call.circuits = s.call.circuits.set c .free ∧ t.call.requests = [] ∧ t.call.attempt = s.call.attempt) ∧
  (∀ (l : Line) (c : Cell) (s : State), Copied l c s → s.phase = .starting ∨ s.phase = .active →
     let n := c.source.toNat
     let mine := s.own.getD 0
     let e := fun (k : Fin 16) => s.call.circuits[k]
     let claimed := fun (t : State) (k : Fin 16) => s.phase = .active ∧ s.selectedCentre ≠ none ∧
       ∃ q x m, t.call.circuits[k] = .ownClaiming q x m
     let named := fun (t : State) (k : Fin 16) (st : Nat) (p : Port) (x : Nat) (a : Time) =>
       claimed t k ∨ ∃ o, t.call.circuits[k] = .remote st p x a o
     (∀ held, c.kind = 4 → held = readHold c.payload → (held.map (fun h => h.1)).Nodup →
       ∃ t, exec (.cellArrives l c) s = .next t ∧
         SameBut [.lines, .tx, .ring, .call, .signs, .responses, .ports, .portCounts, .centre] s t ∧
         (∀ k x p, (k, x, p) ∈ held →
           (e k = .free → named t k n p x s.clock.now) ∧
           (∀ st q y a o, e k = .remote st q y a o →
             (st = n → named t k n p x s.clock.now) ∧ (st ≠ n → named t k st q y a) ∧
             (st = n → held = [(k, x, p)] → claimed t k ∨ t.call.circuits[k] = .remote n p x s.clock.now o)) ∧
           (∀ q y m, e k = .ownClaiming q y m → t.call.circuits[k] = e k) ∧
           (∀ q y, e k = .ownHeld q y → ¬(y < x ∨ (x = y ∧ n < mine)) → t.call.circuits[k] = e k) ∧
           (∀ q y, e k = .ownHeld q y → y < x ∨ (x = y ∧ n < mine) → named t k n p x s.clock.now ∧
             t.call.phones[q].reason = .reconnecting ∧ t.call.phones[q].playout = [] ∧
             t.call.phones[q].ringing = none ∧
             (s.call.phones[q].ringFlag = true → t.call.phones[q].state = .idle) ∧
             (s.call.phones[q].ringFlag = false → (∃ r ∈ t.call.requests, r.port = q) ∧
               (s.selectedCentre = none → t.call.phones[q].state = .waiting ∧ t.call.phones[q].failed = 0)))) ∧
         (∀ k, (∀ h ∈ held, h.1 ≠ k) →
           (∀ st q y a o, e k = .remote st q y a o → named t k st q y a) ∧
           ((∀ st q y a o, e k ≠ .remote st q y a o) → claimed t k ∨ t.call.circuits[k] = e k))) ∧
     (∀ k p, c.kind = 3 → k = circuitAt c.payload 0 → p = portAt c.payload 1 →
       ∃ t, exec (.cellArrives l c) s = .next t ∧
         SameBut [.lines, .tx, .ring, .call, .signs, .responses, .ports, .portCounts, .centre] s t ∧
         (∀ x a o, e k = .remote n p x a o → (claimed t k ∨ t.call.circuits[k] = .free) ∧
           ∀ j : Fin 16, j ≠ k → claimed t j ∨ t.call.circuits[j] = e j) ∧
         ((∀ x a o, e k ≠ .remote n p x a o) → t.call.circuits = s.call.circuits ∧ t.call.attempt = s.call.attempt)))

/-! ### The toll channel (chapter 5) -/

/-- R85, R86: a RECORD from the gantry is answered by exactly one frame: BUSY outside STARTING and ACTIVE, REJECTED for a
body of no byte or more than 48, BUSY for a full journal, else TAKEN with the number the record joins with. The record
joins NEW; an OPEN channel may send it in the same step, and does when every other record is SENT, fewer than 16 are and
the B insert queue has room (R92). The answer starts at once, or waits behind a frame that is being
sent; that `lastSent` is the moment at which a frame starts is the model's choice (notes/assumptions/10.md). -/
def Obligations.RecordsJoinTheJournal : Prop :=
  ∀ (p : Port) (body : List Byte) (s : State), Serving .toll p s → s.rx[p] = none →
    (∀ q : Port, q < p → s.profile q ≠ .toll) → (s.ports[p].sending ≠ none → s.ports[p].queue.length < 128) →
    let runs := s.phase = .starting ∨ s.phase = .active
    let good := 1 ≤ body.length ∧ body.length ≤ 48
    let heard := { s.ports[p] with silence := some (s.clock.now + 1000000000) }
    let answers := fun (f : Frame) (t : State) =>
      (heard.sending = none →
        t.ports = s.ports.set p { heard with sending := some ⟨f, false⟩, lastSent := s.clock.now }) ∧
      (heard.sending ≠ none → t.ports = s.ports.set p { heard with queue := heard.queue ++ [f] })
    ∃ t, exec (.record p body) s = .next t ∧ SameBut [.tx, .toll, .ports] s t ∧
      (¬runs → t.toll = { s.toll with counters := { s.toll.counters with busy := bump s.toll.counters.busy } } ∧
        answers ⟨66, []⟩ t ∧ t.tx = s.tx) ∧
      (runs → ¬good → t.toll = { s.toll with
          counters := { s.toll.counters with rejected := bump s.toll.counters.rejected } } ∧
        answers ⟨67, []⟩ t ∧ t.tx = s.tx) ∧
      (runs → good → 128 ≤ s.toll.journal.length → t.toll = { s.toll with
          counters := { s.toll.counters with busy := bump s.toll.counters.busy } } ∧
        answers ⟨66, []⟩ t ∧ t.tx = s.tx) ∧
      (runs → good → s.toll.journal.length < 128 → answers ⟨65, wordBytes s.toll.next⟩ t ∧
        t.toll.next = s.toll.next + 1 ∧ t.toll.delivered = s.toll.delivered ∧
        t.toll.journal.map (fun r => (r.number, r.body)) =
          s.toll.journal.map (fun r => (r.number, r.body)) ++ [(s.toll.next, body)] ∧
        (s.toll.chan ≠ .opened → t.tx = s.tx ∧ t.toll.journal = s.toll.journal ++ [⟨s.toll.next, body, none⟩]) ∧
        (∀ c, s.toll.chan = .opened → s.toll.bound = some c → (∀ r ∈ s.toll.journal, r.sent ≠ none) →
          s.toll.journal.length < 16 → (s.insertQueue .b).length < 32 →
          t.toll.journal = s.toll.journal ++ [⟨s.toll.next, body, some s.clock.now⟩] ∧
          ((∀ m, s.toll.sendMark = some m → atOrBefore s.toll.next m = false) →
            t.toll.sendMark = some s.toll.next) ∧
          t.tx = s.tx.set (insertLine s.fold) { s.tx.get (insertLine s.fold) with
            insert := { (s.tx.get (insertLine s.fold)).insert with b := s.insertQueue .b ++
              [originate 8 (natByte c) (wordBytes s.toll.next ++ natByte body.length :: body) s] } }))

/-- R90, R92, R94: the sync timer offers the TOLL-SYNC again; the retransmit deadline makes every SENT record NEW, and
either starts a fresh sync, at the eighth go-back in a row, or sends again: the oldest records, 16 at the most and no more
than the B insert queue has room for, in their order. That the send mark stays where it is while the records sent again lie
at or before it is the model's choice (notes/assumptions/43.md). -/
def Obligations.SyncTimerAndRetransmitDeadline : Prop :=
  ∀ (s : State) (c : Nat) (d : Time), s.toll.bound = some c →
    (s.toll.chan = .syncing → s.toll.syncTimer = some d →
      ∃ t, exec .syncTimerExpires s = .next t ∧ SameBut [.clock, .tx, .ring, .toll] s t ∧
        t.toll = { s.toll with syncTimer := some (d + 500000000) } ∧
        ((s.insertQueue .c).length < 32 → t.ring = s.ring ∧ (t.tx.get (insertLine s.fold)).insert.c =
          s.insertQueue .c ++ [originate 10 (natByte c) (wordBytes s.toll.start) s]) ∧
        (32 ≤ (s.insertQueue .c).length → t.tx = s.tx ∧
          t.ring = { s.ring with insertDrops := bump s.ring.insertDrops })) ∧
    (∀ r : TollRecord, ∀ sentAt progress : Time, s.toll.chan = .opened →
      s.toll.journal.find? (fun r => r.sent.isSome) = some r → r.sent = some sentAt →
      s.toll.progress = some progress →
      ∃ t, exec .retransmitDeadline s = .next t ∧ SameBut [.clock, .tx, .ring, .toll] s t ∧
        t.clock = { s.clock with now := max s.clock.now (max progress sentAt + 400000000) } ∧
        t.toll.journal.map (fun r => (r.number, r.body)) = s.toll.journal.map (fun r => (r.number, r.body)) ∧
        (s.toll.expiries < 7 → 32 ≤ (s.insertQueue .b).length → t.tx = s.tx ∧ t.toll = { s.toll with
          journal := s.toll.journal.map (fun r => { r with sent := none }), expiries := s.toll.expiries + 1 }) ∧
        (s.toll.expiries < 7 →
          let k := min 16 (32 - (s.insertQueue .b).length)
          let records := (s.toll.journal.take k).map (fun r =>
            originate 8 (natByte c) (wordBytes r.number ++ natByte r.body.length :: r.body) s)
          t.toll.chan = .opened ∧ t.toll.expiries = s.toll.expiries + 1 ∧ t.ring = s.ring ∧
          t.toll.journal = (s.toll.journal.take k).map (fun r => { r with sent := some t.clock.now }) ++
            (s.toll.journal.drop k).map (fun r => { r with sent := none }) ∧
          t.tx = s.tx.set (insertLine s.fold) { s.tx.get (insertLine s.fold) with
            insert := { (s.tx.get (insertLine s.fold)).insert with b := s.insertQueue .b ++ records } } ∧
          (∀ m, s.toll.sendMark = some m → (∀ r ∈ s.toll.journal.take k, atOrBefore r.number m = true) →
            t.toll.sendMark = some m)) ∧
        (7 ≤ s.toll.expiries → t.toll.chan = .syncing ∧ t.toll.bound = some c ∧ t.toll.expiries = 0 ∧
          t.toll.sendMark = none ∧ t.toll.journal = s.toll.journal.map (fun r => { r with sent := none })))

/-- R85, R87, R91, R93, R95, R178: what a TOLL-ACK does, by its source, its answer and the channel's state. In the clause of
progress every record through the acknowledged one leaves the journal, the newest of them gives the delivered mark, and
DELIVERED goes to a TOLL port that is UP; in an OPEN channel the send that follows changes no number and no body. A TOLL
port that comes UP gets the delivered mark, behind the node's IDENT; that order is the model's choice
(notes/assumptions/18.md). -/
def Obligations.TollAcksDriveTheChannel : Prop :=
  (∀ (l : Line) (cell : Cell) (s : State) (c : Nat) (answer : Byte) (n : BitVec 16),
    Delivered l cell s → cell.kind = 9 → s.phase = .active → s.toll.bound = some c →
    answer = byteAt cell.payload 0 → n = byteAt cell.payload 1 ++ byteAt cell.payload 2 →
    let numbered := fun (j : List TollRecord) => j.map (fun r => (r.number, r.body))
    let syncsAgain := fun (t : State) => t.toll.chan = .syncing ∧ t.toll.bound = some c ∧ t.toll.expiries = 0 ∧
      t.toll.sendMark = none ∧ t.toll.journal = s.toll.journal.map (fun r => { r with sent := none })
    let beyond := ∀ m, s.toll.sendMark = some m → atOrBefore n m = false
    ∃ t, exec (.cellArrives l cell) s = .next t ∧ SameBut [.lines, .tx, .ring, .toll, .ports, .portCounts] s t ∧
      (cell.source.toNat ≠ c ∨ (answer ≠ 1 ∧ answer ≠ 2 ∧ answer ≠ 3) → t.tx = s.tx ∧ t.toll = { s.toll with
        counters := { s.toll.counters with stray := bump s.toll.counters.stray } }) ∧
      (cell.source.toNat = c →
        (s.toll.chan = .syncing → answer = 2 → n = s.toll.start → t.toll.chan = .opened ∧ t.toll.syncTimer = none ∧
          t.toll.progress = some s.clock.now ∧ t.toll.bound = some c ∧
          numbered t.toll.journal = numbered s.toll.journal) ∧
        (s.toll.chan = .syncing → (answer = 2 ∧ n ≠ s.toll.start) ∨ answer = 1 ∨ answer = 3 →
          t.toll = s.toll ∧ t.tx = s.tx) ∧
        (s.toll.chan = .opened → answer = 2 → t.toll = s.toll ∧ t.tx = s.tx) ∧
        (s.toll.chan = .opened → answer = 3 → syncsAgain t ∧
          t.toll.counters = { s.toll.counters with unsynced := bump s.toll.counters.unsynced }) ∧
        (s.toll.chan = .opened → answer = 1 → beyond → syncsAgain t ∧
          t.toll.counters = { s.toll.counters with outOfStep := bump s.toll.counters.outOfStep }) ∧
        (s.toll.chan = .opened → answer = 1 → ¬beyond →
          (∀ r ∈ s.toll.journal.head?, isBefore n r.number = true) → t.toll = s.toll ∧ t.tx = s.tx) ∧
        (∀ r rest, s.toll.chan = .opened → answer = 1 → ¬beyond → s.toll.journal = r :: rest →
          isBefore n r.number = false →
          let through := fun (x : TollRecord) => decide ((x.number - r.number).toNat ≤ (n - r.number).toNat)
          t.toll.expiries = 0 ∧ t.toll.progress = some s.clock.now ∧ t.toll.chan = .opened ∧
            numbered t.toll.journal = numbered (s.toll.journal.dropWhile through) ∧
            ∃ newest, (s.toll.journal.takeWhile through).getLast? = some newest ∧
              t.toll.delivered = some newest.number ∧
              ∀ p : Port, s.portOf .toll = some p →
                (s.ports[p].link ≠ .up → t.ports = s.ports ∧ t.portCounts = s.portCounts) ∧
                (s.ports[p].link = .up → s.ports[p].sending = none → t.ports = s.ports.set p { s.ports[p] with
                  sending := some ⟨⟨68, wordBytes newest.number⟩, false⟩, lastSent := s.clock.now }) ∧
                (s.ports[p].link = .up → s.ports[p].sending ≠ none → s.ports[p].queue.length < 128 →
                  t.ports = s.ports.set p { s.ports[p] with
                    queue := s.ports[p].queue ++ [⟨68, wordBytes newest.number⟩] })))) ∧
  (∀ (p : Port) (w h : Byte) (s : State), s.portOf .toll = some p → s.ports[p].link ≠ .pass → s.rx[p] = none →
    let own : Frame := ⟨1, [s.straps.number.setWidth 8, natByte p.val, 4]⟩
    let kept := if s.ports[p].link = .up then [] else s.ports[p].queue
    let owed := match s.toll.delivered with
      | some n => [(⟨68, wordBytes n⟩ : Frame)]
      | none => []
    kept.length ≤ 126 → ∃ t, exec (.ident p 4 w h) s = .next t ∧ t.toll = s.toll ∧ t.ports[p].link = .up ∧
      (s.ports[p].sending = none → t.ports[p].sending = some ⟨own, false⟩ ∧ t.ports[p].queue = kept ++ owed) ∧
      (s.ports[p].sending ≠ none → t.ports[p].queue = kept ++ own :: owed))

/-- R98 to R101: how a centre station's receive table judges a TOLL-SYNC and a TOLL-REC, and what it answers. A record in
order is passed to the delivery queue, here behind a frame that is being sent. That a body length of 0 or above 48 is
judged like any other is the model's choice (notes/assumptions/40.md). -/
def Obligations.ReceiveTableJudgesTollRecords : Prop :=
  ∀ (l : Line) (cell : Cell) (s : State) (p : Port) (x : Nat) (n : BitVec 16),
    Delivered l cell s → s.phase = .active → s.portOf .centre = some p → s.ports[p].sending ≠ none →
    x = cell.source.toNat → n = byteAt cell.payload 0 ++ byteAt cell.payload 1 → cell.payload.length = 56 →
    (s.insertQueue .c).length < 32 →
    let acks := fun (answer : Byte) (m : BitVec 16) (t : State) => t.ring = s.ring ∧
      (t.tx.get (insertLine s.fold)).insert.c = s.insertQueue .c ++
        [originate 9 cell.source (answer :: wordBytes m) s]
    let frame : Frame := ⟨81, cell.source :: wordBytes n ++ [byteAt cell.payload 2]
      ++ (cell.payload.drop 3).take (byteAt cell.payload 2).toNat⟩
    ∃ t, exec (.cellArrives l cell) s = .next t ∧
      SameBut [.lines, .tx, .ring, .toll, .ports, .portCounts, .centre] s t ∧
      (cell.kind = 10 → acks 2 n t ∧
        t.toll = { s.toll with receive := s.toll.receive.setIfInBounds x (some n) } ∧ t.centre = s.centre) ∧
      (cell.kind = 8 → s.expected x = none → acks 3 n t ∧ t.toll = s.toll ∧ t.centre = s.centre) ∧
      (∀ e, cell.kind = 8 → s.expected x = some e →
        (n = e → s.ports[p].link = .up → s.centre.delivery.length < 128 → byteAt cell.payload 2 ≤ 53 → acks 1 n t ∧
          t.toll = { s.toll with receive := s.toll.receive.setIfInBounds x (some (e + 1)) } ∧
          t.centre = { s.centre with delivery := s.centre.delivery ++ [frame] }) ∧
        (n = e → s.ports[p].link ≠ .up ∨ (128 ≤ s.centre.delivery.length ∧
            ∀ f ∈ s.centre.delivery, f.type = 81) → t.tx = s.tx ∧ t.centre = s.centre ∧
          t.toll = { s.toll with counters := { s.toll.counters with noRoom := bump s.toll.counters.noRoom } }) ∧
        (isBefore n e = true → acks 1 (e - 1) t ∧ t.centre = s.centre ∧
          t.toll = { s.toll with counters := { s.toll.counters with repeats := bump s.toll.counters.repeats } }) ∧
        (n ≠ e → isBefore n e = false → acks 1 (e - 1) t ∧ t.centre = s.centre ∧
          t.toll = { s.toll with counters := { s.toll.counters with gaps := bump s.toll.counters.gaps } }))

/-- R102 to R105: what becomes of a TOLL-DOWN delivered by unicast from a heard centre whose downstream entry is bound,
by its counter against the expected one; with the TOLL port out of service it is discarded and counted. -/
def Obligations.DownstreamMessagesFollowTheirCounter : Prop :=
  ∀ (l : Line) (cell : Cell) (s : State) (p : Port) (i : Fin 2) (c : Nat) (x k : BitVec 16),
    Delivered l cell s → cell.kind = 11 → s.phase = .active → s.portOf .toll = some p → c = cell.source.toNat →
    s.centreHeard c = true → 1 ≤ (byteAt cell.payload 2).toNat → (byteAt cell.payload 2).toNat ≤ 48 →
    s.toll.down[i] = some ⟨c, x⟩ → (∀ j : Fin 2, ∀ y, s.toll.down[j] = some ⟨c, y⟩ → j = i) →
    k = byteAt cell.payload 0 ++ byteAt cell.payload 1 →
    let next := s.toll.down.set i (some ⟨c, k + 1⟩)
    let body := (cell.payload.drop 3).take (byteAt cell.payload 2).toNat
    let message : Frame := ⟨69, natByte c :: wordBytes k ++ body⟩
    let gap : Frame := ⟨70, natByte c :: wordBytes x ++ wordBytes (k - 1)⟩
    ∃ t, exec (.cellArrives l cell) s = .next t ∧ SameBut [.lines, .toll, .ports, .portCounts] s t ∧
      (s.ports[p].link ≠ .up → t.ports = s.ports ∧ t.toll = { s.toll with
        counters := { s.toll.counters with downUndelivered := bump s.toll.counters.downUndelivered } }) ∧
      (s.ports[p].link = .up → s.ports[p].sending ≠ none → s.ports[p].queue.length < 127 →
        (k = x → t.ports = s.ports.set p { s.ports[p] with queue := s.ports[p].queue ++ [message] } ∧
          t.toll = { s.toll with down := next }) ∧
        (isBefore k x = true → t.ports = s.ports ∧ t.toll = { s.toll with
          counters := { s.toll.counters with downRepeats := bump s.toll.counters.downRepeats } }) ∧
        (k ≠ x → isBefore k x = false →
          t.ports = s.ports.set p { s.ports[p] with queue := s.ports[p].queue ++ [gap, message] } ∧
          t.toll = { s.toll with down := next, counters := { s.toll.counters with
            downMissing := bumpBy s.toll.counters.downMissing (k - x).toNat } }))

/-! ### Plates and pages (chapter 6) -/

/-- R109 to R112, R115: what the plate store makes of a part 0. A part that fails the check is refused; a slot open for
the same plate is abandoned first, then, with both slots still open, the one whose last part was accepted earlier; the
load takes the lowest run of FREE blocks, or is refused; a load of one part commits at once. -/
def Obligations.PlatePartZeroOpensALoad : Prop :=
  ∀ (q : PlatePart) (now : Time) (st : PlateStore), q.index = 0 →
    let size := q.height * (if q.depth = 1 then (q.width + 7) / 8 else (q.width + 1) / 2)
    let need := (size + 255) / 256
    let legal := q.plate ≤ 63 ∧ 1 ≤ q.width ∧ 1 ≤ q.height ∧ q.height ≤ 64 ∧ (q.depth = 1 ∨ q.depth = 3) ∧
      q.parts = (size + 47) / 48 ∧ q.length = (if q.parts = 1 then size else 48)
    let run := fun (first : Nat) => ∀ j, j < need → st.blocks[first + j]? = some .free
    let abandoned := fun (k : Fin 2) => { st with
      blocks := st.blocks.map (fun o => if o = Owner.slot k then .free else o), slots := st.slots.set k none }
    let other := fun (k : Fin 2) => ∀ j : Fin 2, j ≠ k → ∀ x, st.slots[j] = some x → x.plate ≠ q.plate
    (¬legal → platePart q now st = ({ st with plateRange := bump st.plateRange }, none)) ∧
    (∀ (k : Fin 2) x, legal → st.slots[k] = some x → x.plate = q.plate → other k →
      platePart q now st = platePart q now { abandoned k with loadBroken := bump st.loadBroken }) ∧
    (∀ x y, legal → st.slots[(0 : Fin 2)] = some x → st.slots[(1 : Fin 2)] = some y → x.plate ≠ q.plate →
      y.plate ≠ q.plate → platePart q now st = platePart q now
        { abandoned (if x.order < y.order then 0 else 1) with displaced := bump st.displaced }) ∧
    (∀ k : Fin 2, legal → st.slots[k] = none → (∀ j : Fin 2, j < k → st.slots[j] ≠ none) → other k →
      ((∀ first, ¬run first) → platePart q now st = ({ st with storeFull := bump st.storeFull }, none)) ∧
      (∀ first, run first → (∀ lower, lower < first → ¬run lower) →
        ∃ (t : PlateStore) (reported : Option Nat), platePart q now st = (t, reported) ∧
          (memWf st.mem = true → memWf t.mem = true ∧ ∀ a, memRead t.mem a =
            if first * 256 ≤ a ∧ a < first * 256 + q.data.length
            then q.data.getD (a - first * 256) 0 else memRead st.mem a) ∧
          (2 ≤ q.parts → reported = none ∧ t = { st with
            mem := t.mem, accepted := st.accepted + 1,
            blocks := st.blocks.mapIdx (fun i o => if first ≤ i ∧ i < first + need then Owner.slot k else o),
            slots := st.slots.set k (some { plate := q.plate, width := q.width, height := q.height, depth := q.depth,
                                            parts := q.parts, expected := 1, first := first, count := need,
                                            lastPart := now, order := st.accepted, timer := now + 2000000000 }) }) ∧
          (q.parts = 1 → (∀ i : Fin 256, st.blocks[i] ≠ .slot k) → reported = some q.plate ∧ t = { st with
            mem := t.mem, accepted := st.accepted + 1,
            blocks := st.blocks.mapIdx (fun i o => if first ≤ i ∧ i < first + need then .plate q.plate
              else if o = .plate q.plate then .free else o),
            dir := st.dir.setIfInBounds q.plate (some ⟨q.width, q.height, q.depth, first, need⟩) })))

/-- R110, R111, R113, R114, R115: a later part is taken by the open slot for its plate, where it must be the part
expected; a part that does not fit, and the part timer at 2 s, abandon the load; the last part commits it in one step. -/
def Obligations.LaterPartsFollowTheirSlot : Prop :=
  (∀ (q : PlatePart) (now : Time) (st : PlateStore), q.index ≠ 0 →
    ((∀ (j : Fin 2) x, st.slots[j] = some x → x.plate ≠ q.plate) →
      platePart q now st = ({ st with strayParts := bump st.strayParts }, none)) ∧
    (∀ (k : Fin 2) (sl : Slot), st.slots[k] = some sl → sl.plate = q.plate →
      (∀ j : Fin 2, j < k → ∀ x, st.slots[j] = some x → x.plate ≠ q.plate) →
      let size := sl.height * (if sl.depth = 1 then (sl.width + 7) / 8 else (sl.width + 1) / 2)
      let fits := q.index = sl.expected ∧ q.width = sl.width ∧ q.height = sl.height ∧ q.depth = sl.depth ∧
        q.parts = sl.parts ∧ q.length = (if q.index + 1 = sl.parts then size - 48 * (sl.parts - 1) else 48)
      (¬fits → platePart q now st = ({ st with
        loadBroken := bump st.loadBroken, slots := st.slots.set k none,
        blocks := st.blocks.map (fun o => if o = Owner.slot k then .free else o) }, none)) ∧
      (fits → ∃ (t : PlateStore) (reported : Option Nat), platePart q now st = (t, reported) ∧
        (memWf st.mem = true → memWf t.mem = true ∧ ∀ a, memRead t.mem a =
          if sl.first * 256 + 48 * q.index ≤ a ∧ a < sl.first * 256 + 48 * q.index + q.data.length
          then q.data.getD (a - (sl.first * 256 + 48 * q.index)) 0 else memRead st.mem a) ∧
        (q.index + 1 ≠ sl.parts → reported = none ∧ t = { st with
          mem := t.mem, accepted := st.accepted + 1,
          slots := st.slots.set k (some { sl with expected := sl.expected + 1, lastPart := now, order := st.accepted,
                                                  timer := now + 2000000000 }) }) ∧
        (q.index + 1 = sl.parts → reported = some sl.plate ∧ t = { st with
          mem := t.mem, accepted := st.accepted + 1, slots := st.slots.set k none,
          blocks := st.blocks.map (fun o => if o = Owner.slot k then .plate sl.plate
            else if o = .plate sl.plate then .free else o),
          dir := st.dir.setIfInBounds sl.plate (some ⟨sl.width, sl.height, sl.depth, sl.first, sl.count⟩) })))) ∧
  (∀ (k : Fin 2) (sl : Slot) (s : State), s.plates.slots[k] = some sl →
    exec (.partTimerExpires k) s = .next ((atMoment sl.timer s).setPlates { s.plates with
      loadBroken := bump s.plates.loadBroken, slots := s.plates.slots.set k none,
      blocks := s.plates.blocks.map (fun o => if o = Owner.slot k then .free else o) }))

/-- R52, R107, R110, R116: PLATE-DROP and PLATE-DROP-ALL make present plates absent and free their blocks; a number
above 63 is a reject and an absent plate changes nothing. No page and no claim changes. A delivered PLATE cell reaches the
store of an ACTIVE station with a SIGN port when its source is heard as a centre; else it is a stray part. -/
def Obligations.PlatesAreDroppedAndPartsReachTheStore : Prop :=
  (∀ (via : Via) (n : Byte) (s : State), Admitted via s →
    let kept := fun (t : State) => SameBut [.plates, .signs, .ports, .portCounts] s t ∧
      ∀ p : Port, t.signs[p].pages = s.signs[p].pages ∧ t.signs[p].claims = s.signs[p].claims ∧
        t.signs[p].dark = s.signs[p].dark ∧ t.signs[p].stage = s.signs[p].stage
    (63 < n.toNat → exec (.plateDrop via n) s = .next (rejected .range s)) ∧
    (n.toNat ≤ 63 → plateOf s.plates n.toNat = none → exec (.plateDrop via n) s = .next s) ∧
    (n.toNat ≤ 63 → plateOf s.plates n.toNat ≠ none → ∃ t, exec (.plateDrop via n) s = .next t ∧ kept t ∧
      t.plates = { s.plates with dir := s.plates.dir.setIfInBounds n.toNat none,
                                 blocks := s.plates.blocks.map (fun o => if o = Owner.plate n.toNat then .free else o) }) ∧
    (∃ t, exec (.plateDropAll via) s = .next t ∧ kept t ∧
      t.plates = { s.plates with dir := Vector.replicate 64 none, blocks := t.plates.blocks } ∧
      ∀ i : Fin 256, t.plates.blocks[i] = (match s.plates.blocks[i] with
        | .plate m => if (plateOf s.plates m).isSome then .free else .plate m
        | o => o))) ∧
  (∀ (l : Line) (c : Cell) (s : State), Delivered l c s → c.kind = 12 → s.phase = .active →
    ∃ t, exec (.cellArrives l c) s = .next t ∧ SameBut [.lines, .plates, .signs, .ports, .portCounts] s t ∧
      ((∃ p, s.profile p = .sign) → s.centreHeard c.source.toNat = true →
        t.plates = (platePart (readPlatePart c.payload) s.clock.now s.plates).1) ∧
      ((∀ p, s.profile p ≠ .sign) ∨ s.centreHeard c.source.toNat = false →
        t.plates = { s.plates with strayParts := bump s.plates.strayParts }))

/-- R119, R120, R121: PAGE-SET by unicast to one SIGN port writes its records into the port's staging copy, begun afresh
or open for the page; an end flag commits it, or is rejected where a lower position is unwritten. -/
def Obligations.PageSetWritesThroughTheStagingCopy : Prop :=
  ∀ (via : Via) (p : Port) (q : PageParams) (s : State),
    Admitted via s → via.addressing = .unicast → s.profile p = .sign → q.records.length = q.n.toNat →
    let legal := q.page.toNat ≤ 7 ∧ q.n.toNat ≤ 7 ∧ q.first.toNat + q.n.toNat ≤ 16 ∧
      ∀ r ∈ q.records, r.modes.extractLsb' 6 2 ≠ 3 ∧ r.modes.extractLsb' 4 2 ≠ 3 ∧ r.modes.extractLsb' 2 2 ≠ 3
    let opened := fun (g : Staging) => (q.start = true ∧ g.page.val = q.page.toNat ∧
        g.layers = Vector.replicate 16 none ∧ g.highest = none) ∨
      (q.start = false ∧ s.signs[p].staging = some g ∧ g.page.val = q.page.toNat)
    let result := exec (.pageSet via (natByte p.val) q) s
    (¬legal → result = .next (rejected .range s)) ∧
    (legal → (∀ g, ¬opened g) → result = .next (rejected .state s)) ∧
    (∀ g : Staging, legal → opened g → ∃ g' : Staging, g'.page = g.page ∧
      (∀ i : Fin 16, g'.layers[i] = if q.first.toNat ≤ i.val ∧ i.val < q.first.toNat + q.n.toNat
        then q.records[i.val - q.first.toNat]? else g.layers[i]) ∧
      (q.n = 0 → g'.highest = g.highest) ∧
      (q.n ≠ 0 → g'.highest = some (max (g.highest.getD 0) (q.first.toNat + q.n.toNat - 1))) ∧
      let held := s.setSigns (s.signs.set p { s.signs[p] with staging := some g' })
      (q.finish = false → result = .next held) ∧
      (q.finish = true → (∃ h, g'.highest = some h ∧ ∃ i : Fin 16, i.val ≤ h ∧ g'.layers[i] = none) →
        result = .next (rejected .range held)) ∧
      (q.finish = true → (∀ h, g'.highest = some h → ∀ i : Fin 16, i.val ≤ h → g'.layers[i] ≠ none) →
        ∃ t, result = .next t ∧ SameBut [.signs, .ports, .portCounts] s t ∧
          t.signs[p].staging = none ∧ t.signs[p].claims = s.signs[p].claims ∧
          (∀ n : Fin 8, n ≠ g.page → t.signs[p].pages[n] = s.signs[p].pages[n]) ∧
          t.signs[p].pages[g.page].map some = (match g'.highest with
            | none => []
            | some h => g'.layers.toList.take (h + 1)) ∧
          ∀ x : Port, x ≠ p → t.signs[x] = s.signs[x]))

/-! ### Composing a sign picture (chapter 7) -/

/-- R109, R127, R132 to R140: what a layer makes of a pixel. Each bit of a pixel changes only inside the layer's region,
only where the plate pixel is not skipped and only if the plane mask sets it; it then is the bit of the combine code that
the old bit and the source bit name. A picture keeps its size. The row check grows with each pixel by its column number,
counted from 1, times its value; a result flashes exactly when some row's checks of A and B differ. -/
def Obligations.PixelsRowChecksAndFlashing : Prop :=
  (∀ (st : PlateStore) (r : LayerRec) (pl : Plate) (fx fy : Nat) (d : BitVec 3) (pic : Picture) (row : List (BitVec 3)),
     let scale := r.modes.extractLsb' 6 2
     let mode := r.modes.extractLsb' 4 2
     let sized := fun (n : Nat) => if scale = 1 then 2 * n else if scale = 2 then (n + 1) / 2 else n
     let under := fun (n : Nat) => if scale = 1 then n / 2 else if scale = 2 then 2 * n else n
     let su := under (fx - r.x.toNat)
     let sv := under (fy - r.y.toNat)
     let inside := r.x.toNat ≤ fx ∧ fx < r.x.toNat + sized pl.width ∧ r.y.toNat ≤ fy ∧ fy < r.y.toNat + sized pl.height
     let byte := fun (i : Nat) => memRead st.mem (pl.first * 256 + i)
     let bit := (byte (sv * ((pl.width + 7) / 8) + su / 8)).getLsbD (7 - su % 8)
     let nibble := byte (sv * ((pl.width + 1) / 2) + su / 2) >>> (if su % 2 = 0 then 4 else 0)
     let changes := fun (skipped : Prop) (source : BitVec 3) => ∀ i, i < 3 →
       ((inside ∧ ¬skipped ∧ r.combine.getLsbD i = true) → (layerPixel st r pl fx fy d).getLsbD i =
         r.combine.getLsbD (4 + 2 * (d.getLsbD i).toNat + (source.getLsbD i).toNat)) ∧
       (¬(inside ∧ ¬skipped ∧ r.combine.getLsbD i = true) → (layerPixel st r pl fx fy d).getLsbD i = d.getLsbD i)
     (pl.depth = 1 → changes ((mode = 1 ∧ bit = false) ∨ (mode = 2 ∧ bit = true))
       (if bit then r.colours.extractLsb' 5 3 else r.colours.extractLsb' 2 3)) ∧
     (pl.depth = 3 → changes ((mode = 1 ∧ nibble.extractLsb' 0 3 = r.clear.extractLsb' 0 3) ∨
         (mode = 2 ∧ nibble.extractLsb' 0 3 ≠ r.clear.extractLsb' 0 3)) (nibble.extractLsb' 0 3)) ∧
     (layerPicture st r pl pic).length = pic.length ∧
     (pic[fy]? = some row → ∃ row', (layerPicture st r pl pic)[fy]? = some row' ∧ row'.length = row.length ∧
       (row[fx]? = some d → row'[fx]? = some (layerPixel st r pl fx fy d)))) ∧
  (rowCheck [] = 0 ∧
   (∀ (row : List (BitVec 3)) (p : BitVec 3),
     rowCheck (row ++ [p]) = rowCheck row + BitVec.ofNat 16 ((row.length + 1) * p.toNat)) ∧
   rowCheck (List.replicate 192 7) = 64160 ∧
   (∀ c : Compose, (resultOf c).checksA = c.a.map rowCheck ∧ (resultOf c).checksB = c.b.map rowCheck ∧
     ((resultOf c).flashing = true ↔ ∃ i : Nat, (c.a[i]?).map rowCheck ≠ (c.b[i]?).map rowCheck)))

/-- R126 to R131, R150: the composer applies its next layer to the pictures of the layer's phase, or counts a fault where
its plate is absent or numbered above 63, and takes the tests of the boundary in their order: a waiting request, a changed
geometry, the last layer, else the next. The result of a finished compose goes to a sign that is served, not dark and
without a transfer as OFFER of picture A, when its page is the target. That the answer timer runs from the step that queues
the OFFER, and the picture byte, are the model's choice (notes/assumptions/42.md, 38.md). -/
def Obligations.LayerApplyTakesTheBoundaryTests : Prop :=
  ∀ (p : Port) (s : State) (c c' : Compose) (r : LayerRec),
    s.signs[p].compose = some c → c.layers[c.next]? = some r →
    let found := if r.plate.toNat ≤ 63 then plateOf s.plates r.plate.toNat else none
    (found = none → c' = { c with faults := c.faults + 1, next := c.next + 1 }) →
    (∀ pl, found = some pl → c' = { c with
      a := if r.modes.extractLsb' 2 2 = 2 then c.a else layerPicture s.plates r pl c.a,
      b := if r.modes.extractLsb' 2 2 = 1 then c.b else layerPicture s.plates r pl c.b,
      next := c.next + 1 }) →
    let becomes := fun (g : Sign) => exec (.layerApply p) s = .next (s.setSigns (s.signs.set p g))
    let afresh := fun (page : Fin 8) (w h : Nat) => some (⟨page, s.signs[p].pages[page], 0, 0,
      List.replicate h (List.replicate w 0), List.replicate h (List.replicate w 0), w, h⟩ : Compose)
    (s.phase = .mute → becomes { s.signs[p] with compose := none, slot := none }) ∧
    (s.phase ≠ .mute →
      (∀ page w h, s.signs[p].slot = some page → s.signs[p].geometry = some (w, h) → s.signs[p].pages[page] ≠ [] →
        becomes { s.signs[p] with slot := none, compose := afresh page w h }) ∧
      (∀ w h, s.signs[p].slot = none → s.signs[p].geometry = some (w, h) → (w, h) ≠ (c.width, c.height) →
        s.signs[p].pages[c.page] ≠ [] → becomes { s.signs[p] with compose := afresh c.page w h }) ∧
      (s.signs[p].slot = none → s.signs[p].geometry = some (c.width, c.height) →
        (c.next + 1 < c.layers.length → becomes { s.signs[p] with compose := some c' }) ∧
        (c.next + 1 = c.layers.length → s.ports[p].link ≠ .up ∨ s.signs[p].dark = true ∨
            c.page ≠ s.signs[p].target →
          becomes { s.signs[p] with compose := none, faultCount := c'.faults, awaiting := false }) ∧
        (∀ t, c.next + 1 = c.layers.length → s.ports[p].link = .up → s.signs[p].dark = false →
          c.page = s.signs[p].target → s.signs[p].transfer = some t →
          becomes { s.signs[p] with compose := none, faultCount := c'.faults, awaiting := false,
                                    pendingResult := some (resultOf c') }) ∧
        (c.next + 1 = c.layers.length → s.ports[p].link = .up → s.signs[p].dark = false →
          c.page = s.signs[p].target → s.signs[p].transfer = none → s.ports[p].sending ≠ none →
          s.ports[p].queue.length < 128 →
          exec (.layerApply p) s = .next ((s.setSigns (s.signs.set p { s.signs[p] with
              compose := none, faultCount := c'.faults, awaiting := false, retryTimer := none,
              transfer := some ⟨resultOf c', .ready .a, []⟩,
              answerTimer := some (s.clock.now + 500000000) })).setPorts
            (s.ports.set p { s.ports[p] with queue := s.ports[p].queue ++
              [⟨32, [0, natByte c.width, natByte c.height]⟩] })))))

/-! ### Sign display control and local responses (chapter 8) -/

/-- R151, R152: the steps of a transfer. READY brings the rows, top row first; BUSY starts the retry timer, and its expiry
offers the picture again; ROWS-TAKEN brings the OFFER of picture B of a flashing result, else SWITCH; the first SHOWN of two
is kept. Each of these answers clears the missed-answer count. A frame that is not the one awaited is ignored. That the
answer timer runs from the step that queues the frames, and the bytes of picture and SWITCH mode, are the model's choice
(notes/assumptions/42.md, 38.md). -/
def Obligations.SignAnswersAdvanceTheTransfer : Prop :=
  ∀ (p : Port) (s : State) (g : Sign) (tr : Transfer),
    s.profile p = .sign → s.ports[p].link = .up → s.rx[p] = none → s.ports[p].sending ≠ none → s.signs[p] = g →
    g.transfer = some tr →
    let now := s.clock.now
    let flashing := tr.result.flashing
    let rows := fun (pic : Pic) => (tr.result.picture pic).mapIdx
      (fun i (row : List (BitVec 3)) => (⟨33, picByte pic :: natByte i :: row.map (fun x => x.setWidth 8)⟩ : Frame))
    let gives := fun (i : Instr) (g' : Sign) (frames : List Frame) => exec i s =
      .next ((s.setSigns (s.signs.set p g')).setPorts (s.ports.set p { s.ports[p] with
        silence := some (now + 1000000000), queue := s.ports[p].queue ++ frames }))
    let answered := { g with missed := 0, answerTimer := some (now + 500000000) }
    let fits := fun (frames : List Frame) => s.ports[p].queue.length + frames.length ≤ 128
    (∀ pic, tr.await = .ready pic → fits (rows pic) →
      gives (.ready p) { answered with transfer := some { tr with await := .rows pic } } (rows pic)) ∧
    (∀ pic, tr.await = .ready pic → gives (.signBusy p) { answered with
      transfer := some { tr with await := .retry pic }, answerTimer := none, retryTimer := some (now + 100000000),
      busyCount := bump g.busyCount } []) ∧
    (tr.await = .rows .a → flashing = true → s.ports[p].queue.length < 128 →
      gives (.rowsTaken p .a) { answered with transfer := some { tr with await := .ready .b }, retryTimer := none }
        [⟨32, [1, natByte tr.result.width, natByte tr.result.height]⟩]) ∧
    (∀ pic, tr.await = .rows pic → pic = .b ∨ flashing = false → s.ports[p].queue.length < 128 →
      gives (.rowsTaken p pic) { answered with transfer := some { tr with await := .shown .a, shownA := [] } }
        [⟨34, [if flashing then 1 else 0]⟩]) ∧
    (∀ checks, tr.await = .shown .a → flashing = true → gives (.shown p .a checks)
      { answered with transfer := some { tr with await := .shown .b, shownA := checks } } []) ∧
    ((∀ pic, tr.await ≠ .ready pic) → gives (.ready p) g [] ∧ gives (.signBusy p) g []) ∧
    (∀ pic, tr.await ≠ .rows pic → gives (.rowsTaken p pic) g []) ∧
    (∀ pic checks, tr.await ≠ .shown pic → gives (.shown p pic checks) g []) ∧
    (∀ pic d, tr.await = .retry pic → g.retryTimer = some d → s.ports[p].queue.length < 128 →
      exec (.retryTimerExpires p) s = .next (((atMoment d s).setSigns (s.signs.set p { g with
        transfer := some { tr with await := .ready pic }, answerTimer := some (max now d + 500000000),
        retryTimer := none })).setPorts (s.ports.set p { s.ports[p] with queue := s.ports[p].queue ++
          [⟨32, [picByte pic, natByte tr.result.width, natByte tr.result.height]⟩] })))

/-- R152: an answer timer that expires is a missed answer. Under three in a row, the frames of the step are sent again;
at the third the port unit takes the link DOWN, and the transfer, the pending result and the awaiting mark go. That the
answer timer runs from the step that queues the frames, and the bytes of picture and SWITCH mode, are the model's choice
(notes/assumptions/42.md, 38.md). -/
def Obligations.MissedAnswersRepeatTheStepOrLoseTheSign : Prop :=
  ∀ (p : Port) (s : State) (g : Sign) (tr : Transfer) (d : Time),
    s.profile p = .sign → s.ports[p].link = .up → s.ports[p].sending ≠ none → s.signs[p] = g → g.transfer = some tr →
    g.answerTimer = some d →
    let rows := fun (pic : Pic) => (tr.result.picture pic).mapIdx
      (fun i (row : List (BitVec 3)) => (⟨33, picByte pic :: natByte i :: row.map (fun x => x.setWidth 8)⟩ : Frame))
    let again := fun (tr' : Transfer) (frames : List Frame) => s.ports[p].queue.length + frames.length ≤ 128 →
      g.missed < 2 → exec (.answerTimerExpires p) s = .next (((atMoment d s).setSigns (s.signs.set p { g with
        transfer := some tr', answerTimer := some (max s.clock.now d + 500000000), missed := g.missed + 1,
        missedTotal := bump g.missedTotal,
        retryTimer := match tr.await with | .ready _ => none | _ => g.retryTimer })).setPorts
          (s.ports.set p { s.ports[p] with queue := s.ports[p].queue ++ frames }))
    (∀ pic, tr.await = .ready pic →
      again tr [⟨32, [picByte pic, natByte tr.result.width, natByte tr.result.height]⟩]) ∧
    (∀ pic, tr.await = .rows pic → again tr (rows pic)) ∧
    (∀ pic, tr.await = .shown pic → again { tr with await := .shown .a, shownA := [] }
      [⟨34, [if tr.result.flashing then 1 else 0]⟩]) ∧
    (2 ≤ g.missed → exec (.answerTimerExpires p) s = .next (((atMoment d s).setSigns (s.signs.set p { g with
      transfer := none, pendingResult := none, awaiting := false, answerTimer := none, retryTimer := none, missed := 0,
      missedTotal := bump g.missedTotal })).setPorts
        (s.ports.set p { s.ports[p] with link := .down, silence := none, queue := [] })))

/-- R150, R153, R154, R155: the last SHOWN of a transfer. When every check agrees the stage follows the page, and a
pending result is transferred next. A failure is counted; by the stage and the page, the same or the pending result is
transferred, or the rest page becomes the target, or the sign goes DARK with a BLANK. That the answer timer runs from the
step that queues the OFFER, and the picture byte, are the model's choice (notes/assumptions/42.md, 38.md). -/
def Obligations.VerificationMovesTheStage : Prop :=
  ∀ (p : Port) (s : State) (g : Sign) (tr : Transfer) (pic : Pic) (checks : List (BitVec 16)),
    s.profile p = .sign → s.ports[p].link = .up → s.rx[p] = none → s.ports[p].sending ≠ none →
    s.ports[p].queue.length < 128 → s.signs[p] = g → g.transfer = some tr → tr.await = .shown pic → pic = .b ∨ tr.result.flashing = false →
    let r := tr.result
    let agree := if pic = .a then checks = r.checksA
      else tr.shownA = r.checksA ∧ (r.flashing = false ∨ checks = r.checksB)
    let ended := { g with transfer := none, answerTimer := none, retryTimer := none, missed := 0 }
    let failed := { ended with verifyFails := bump g.verifyFails }
    let heard := { s.ports[p] with silence := some (s.clock.now + 1000000000) }
    let becomes := fun (g' : Sign) (frames : List Frame) => exec (.shown p pic checks) s =
      .next ((s.setSigns (s.signs.set p g')).setPorts (s.ports.set p { heard with queue := heard.queue ++ frames }))
    let offering := fun (x : Result) (g' : Sign) => becomes { g' with
        transfer := some ⟨x, .ready .a, []⟩, answerTimer := some (s.clock.now + 500000000) }
      [⟨32, [0, natByte x.width, natByte x.height]⟩]
    (agree → g.pendingResult = none →
      becomes { ended with stage := if r.page = 0 ∧ g.stage = 2 then 2 else 0 } []) ∧
    (∀ x, agree → g.pendingResult = some x →
      offering x { ended with stage := if r.page = 0 ∧ g.stage = 2 then 2 else 0, pendingResult := none }) ∧
    (¬agree → g.stage = 0 → g.pendingResult = none → offering r { failed with stage := 1 }) ∧
    (∀ x, ¬agree → g.stage = 0 → g.pendingResult = some x →
      offering x { failed with stage := 1, pendingResult := none }) ∧
    (¬agree → g.stage = 1 ∨ (g.stage = 2 ∧ r.page ≠ 0) → s.phase = .active ∨ s.phase = .starting → g.dark = false →
      ∀ c, g.compose = some c → becomes { failed with stage := 2, pendingResult := none, target := 0, awaiting := true,
                                                       slot := some 0 } []) ∧
    (¬agree → g.stage = 2 → r.page = 0 →
      becomes { failed with dark := true, pendingResult := none, awaiting := false } [⟨35, []⟩])

/-- R141, R142, R143, R149, R156: the selected entry of a claims list is one of its entries, of the highest priority, and
among those the one with the latest order, where all orders lie within half the range after some base. SHOW by unicast
places, renews or removes the CENTRE claim of a SIGN port, and SIGN-RESTORE makes the selected page the target and starts
the sign over. A changed selection becomes the target of a served sign, here one whose composer is busy, so that the
request waits in the slot. -/
def Obligations.SelectionShowAndSignRestore : Prop :=
  (∀ (claims : List PageClaim) (base : BitVec 16), claims ≠ [] →
     (∀ c ∈ claims, (c.order - base).toNat < 32768) →
     selectedClaim claims ∈ claims ∧ ∀ c ∈ claims, c.priority < (selectedClaim claims).priority ∨
       (c.priority = (selectedClaim claims).priority ∧
         (c.order - base).toNat ≤ ((selectedClaim claims).order - base).toNat)) ∧
  (∀ (via : Via) (p : Port) (page prio : Byte) (s : State) (g : Sign),
     Admitted via s → via.addressing = .unicast → s.profile p = .sign → s.signs[p] = g →
     let shown := exec (.showPage via (natByte p.val) page prio) s
     let places := page.toNat ≤ 7 ∧ 1 ≤ prio.toNat ∧ prio.toNat ≤ 7
     let others := g.claims.filter (fun c => decide (c.source ≠ .centre))
     let served := s.ports[p].link = .up ∧ g.dark = false
     let becomes := fun (g' : Sign) => (.next (s.setSigns (s.signs.set p g')) : Host.Outcome State Fault Refusal)
     let reaches := fun (g' : Sign) =>
       (selectedPage g' = selectedPage g → shown = becomes g') ∧
       (selectedPage g' ≠ selectedPage g → ¬served → shown = becomes { g' with
         target := selectedPage g', pendingResult := if g.target = selectedPage g' then g.pendingResult else none }) ∧
       (selectedPage g' ≠ selectedPage g → served → g.compose ≠ none → shown = becomes { g' with
         target := selectedPage g', pendingResult := if g.target = selectedPage g' then g.pendingResult else none,
         awaiting := true, slot := some (selectedPage g') })
     let restored := { g with dark := false, stage := 0, missed := 0, pendingResult := none, transfer := none,
                              answerTimer := none, retryTimer := none, target := selectedPage g }
     (page ≠ 255 → ¬places → shown = .next (rejected .range s)) ∧
     (page = 255 → reaches { g with claims := others }) ∧
     (places → (∀ c ∈ g.claims, g.claimCount + 1 - c.order ≠ 32768) → reaches { g with
       claims := others ++ [⟨.centre, Fin.ofNat 8 page.toNat, prio.toNat, g.claimCount + 1⟩],
       claimCount := g.claimCount + 1 }) ∧
     (places → (∃ c ∈ g.claims, g.claimCount + 1 - c.order = 32768) → ∃ t, shown = .next t ∧
       t.signs[p].claims.map (fun c => (c.source, c.page, c.priority)) =
         others.map (fun c => (c.source, c.page, c.priority)) ++ [(.centre, Fin.ofNat 8 page.toNat, prio.toNat)] ∧
       t.signs[p].claimCount = BitVec.ofNat 16 g.claims.length ∧
       ∀ c ∈ t.signs[p].claims, c.order.toNat ≤ g.claims.length) ∧
     (s.ports[p].link ≠ .up → exec (.signRestore via (natByte p.val)) s = becomes restored) ∧
     (s.ports[p].link = .up → g.compose ≠ none → exec (.signRestore via (natByte p.val)) s =
       becomes { restored with awaiting := true, slot := some (selectedPage g) }) ∧
     (∀ w h, s.ports[p].link = .up → g.compose = none → g.geometry = some (w, h) → g.pages[selectedPage g] ≠ [] →
       let dark := List.replicate h (List.replicate w (0 : BitVec 3))
       let c : Compose := ⟨selectedPage g, g.pages[selectedPage g], 0, 0, dark, dark, w, h⟩
       exec (.signRestore via (natByte p.val)) s = becomes { restored with awaiting := true, compose := some c }))

/-- R144, R145, R147, R148: RESPONSE-SET replaces an entry and claims at once where the entry is enabled and its
condition true; RESPONSE-CLEAR ends the claims of LATCHED entries; the linger timer ends those of a LINGERING one. Claims
of other sources keep page and priority. -/
def Obligations.ResponseCommandsAndTheLingerTimer : Prop :=
  ∀ (via : Via) (s : State), Admitted via s →
    let kept := fun (t : State) (k : Fin 16) => ∀ p : Port,
      (t.signs[p].claims.filter (fun c => decide (c.source ≠ .response k))).map
          (fun c => (c.source, c.page, c.priority)) =
        (s.signs[p].claims.filter (fun c => decide (c.source ≠ .response k))).map
          (fun c => (c.source, c.page, c.priority))
    (∀ (q : ResponseParams) (c : Condition) (k : Fin 16) (v : Bool),
      q.index.toNat = k.val → q.page.toNat ≤ 7 → 1 ≤ q.priority.toNat → q.priority.toNat ≤ 7 → q.mode.toNat ≤ 1 →
      readCondition q = some c → v = conditionValue s c →
      ∃ t, exec (.responseSet via q) s = .next t ∧ SameBut [.signs, .responses, .ports, .portCounts] s t ∧ kept t k ∧
        (∀ j : Fin 16, j ≠ k → t.responses[j] = s.responses[j]) ∧
        t.responses[k] = { enable := q.enable, latch := decide (q.mode = 1), condition := c,
                           mask := t.responses[k].mask, page := Fin.ofNat 8 q.page.toNat, priority := q.priority.toNat,
                           linger := q.linger.toNat, value := v, timer := none,
                           claim := if q.enable && v then (if q.mode = 1 then .latched else .active) else .idle } ∧
        (∀ p : Port, t.responses[k].mask.getLsbD p.val = (q.mask.getLsbD p.val && decide (s.profile p = .sign))) ∧
        (∀ p : Port, (t.signs[p].claims.filter (fun c => decide (c.source = .response k))).map
            (fun c => (c.page, c.priority)) =
          if q.enable = true ∧ v = true ∧ t.responses[k].mask.getLsbD p.val = true
            then [(Fin.ofNat 8 q.page.toNat, q.priority.toNat)] else [])) ∧
    (∀ q : ResponseParams, 15 < q.index.toNat ∨ 7 < q.page.toNat ∨ q.priority.toNat = 0 ∨ 7 < q.priority.toNat ∨
        1 < q.mode.toNat ∨ readCondition q = none → exec (.responseSet via q) s = .next (rejected .range s)) ∧
    (∀ i : Byte, 15 < i.toNat → i ≠ 255 → exec (.responseClear via i) s = .next (rejected .range s)) ∧
    (∀ i : Byte, i.toNat ≤ 15 ∨ i = 255 →
      let ends := fun (k : Fin 16) => (i = 255 ∨ i.toNat = k.val) ∧ s.responses[k].claim = .latched
      ∃ t, exec (.responseClear via i) s = .next t ∧ SameBut [.signs, .responses, .ports, .portCounts] s t ∧
        ∀ k : Fin 16, (ends k → t.responses[k] = { s.responses[k] with claim := .idle }) ∧
          (¬ends k → t.responses[k] = s.responses[k]) ∧
          ∀ (p : Port) (c : PageClaim), c.source = .response k →
            (c ∈ t.signs[p].claims ↔ c ∈ s.signs[p].claims ∧ ¬ends k)) ∧
    (∀ (k : Fin 16) (d : Time), s.responses[k].timer = some d →
      (s.responses[k].claim = .lingering →
        ∃ t, exec (.lingerTimerExpires k) s = .next t ∧
          SameBut [.clock, .signs, .responses, .ports, .portCounts] s t ∧ kept t k ∧
          t.clock = { s.clock with now := max s.clock.now d } ∧
          t.responses = s.responses.set k { s.responses[k] with claim := .idle, timer := none } ∧
          ∀ p : Port, ∀ c ∈ t.signs[p].claims, c.source ≠ .response k) ∧
      (s.responses[k].claim ≠ .lingering → exec (.lingerTimerExpires k) s = .next s))

/-- R145, R146, R147, R148: when an entry's condition value changes, an enabled LEVEL entry becomes ACTIVE, LINGERING or
IDLE and an enabled LATCH entry LATCHED, with its claims placed on the SIGN ports of its mask or removed; an entry whose
value is as it was takes no step, and a disabled one only keeps the value. -/
def Obligations.ResponsesFollowTheirCondition : Prop :=
  ∀ (s : State) (k : Fin 16) (e : Response) (v : Bool), s.responses[k] = e → v = conditionValue s e.condition →
    let t := respondEntry s k
    let moves := fun (e' : Response) => t.responses = s.responses.set k e'
    let claimed := ∀ p : Port, (t.signs[p].claims.filter (fun c => decide (c.source = .response k))).map
        (fun c => (c.page, c.priority)) = if e.mask.getLsbD p.val = true ∧ s.profile p = .sign
          then [(e.page, e.priority)]
          else (s.signs[p].claims.filter (fun c => decide (c.source = .response k))).map (fun c => (c.page, c.priority))
    let unclaimed := ∀ p : Port, ∀ c ∈ t.signs[p].claims, c.source ≠ .response k
    (v = e.value → t = s) ∧
    (v ≠ e.value →
      SameBut [.signs, .responses, .ports, .portCounts] s t ∧
      (e.enable = false → moves { e with value := v } ∧ t.signs = s.signs) ∧
      (e.enable = true → e.latch = false →
        (e.claim = .idle → v = true → moves { e with value := v, claim := .active } ∧ claimed) ∧
        (e.claim = .lingering → v = true → moves { e with value := v, claim := .active, timer := none } ∧
          t.signs = s.signs) ∧
        (e.claim = .active → v = false → e.linger = 0 → moves { e with value := v, claim := .idle } ∧ unclaimed) ∧
        (e.claim = .active → v = false → e.linger ≠ 0 → t.signs = s.signs ∧ moves { e with
          value := v, claim := .lingering, timer := some (s.clock.now + e.linger * 1000000000) })) ∧
      (e.enable = true → e.latch = true →
        (v = true → e.claim ≠ .latched → moves { e with value := v, claim := .latched } ∧ claimed) ∧
        (v = false ∨ e.claim = .latched → moves { e with value := v } ∧ t.signs = s.signs))) ∧
    (∀ lo hi x, conditionValue s (.callRange lo hi x) = true ↔ ∃ (c : Fin 16) (h y : Nat),
      circuitHolder (s.own.getD 0) s.call.circuits[c] = some (h, y) ∧ lo ≤ h ∧ h ≤ hi ∧ x ≤ y) ∧
    (∀ lo hi alarm x, conditionValue s (.wxRange lo hi alarm x) = true ↔ ∃ n, lo ≤ n ∧ n ≤ hi ∧
      x ≤ (if s.own = some n then levelNumber (s.weather.level alarm)
        else (match s.viewOf n with | some y => levelNumber (y.level alarm) | none => 0))) ∧
    (conditionValue s .noCentre = true ↔ s.selectedCentre = none)

/-! ### Weather supervision (chapter 9) -/

/-- R159, R161 to R165, R169 to R171: a poll time sends READ from a served port, and is a suspended poll elsewhere; a
READING in AWAITING is taken value by value, and in IDLE is counted late; a missed poll clears the latest values. What
follows a reply, a missed and a suspended poll ages the windows, judges the three alarm levels, sends a WX-ALARM where one
of them has changed and the station is ACTIVE, and moves the brightness by the light average where that is not stale.
After a reply or a missed poll an ACTIVE station offers a WX-REPORT, built at that moment, to each selected centre, and
none when no centre is selected; a refused one is an insert drop. That the selected centre's copy is offered before the
toll centre's is the model's choice (notes/assumptions/35.md). -/
def Obligations.PollsRepliesAndReports : Prop :=
  (∀ (s : State) (p : Port) (d : Time), s.portOf .weather = some p → s.phase = .starting ∨ s.phase = .active →
     let w := s.weather
     let touched : List Part := [.clock, .tx, .ring, .weather, .signs, .brightness, .responses, .ports, .portCounts]
     let young := fun (now taken : Time) => decide (now < taken + 6 * w.interval * 1000000000)
     let aged := fun (now : Time) (q : Quantity) =>
       (⟨q.window.filter (fun x => young now x.taken), q.last, q.latest⟩ : Quantity)
     let evaluated := fun (now : Time) (taken : Weather) (t : State) =>
       let j := judge now taken
       let light := j.quantities[(6 : Fin 7)].window
       let sum := (light.map (fun x => x.value)).sum
       t.weather.ice = j.ice ∧ t.weather.fog = j.fog ∧ t.weather.wind = j.wind ∧
       (s.phase = .active → ¬(j.ice = w.ice ∧ j.fog = w.fog ∧ j.wind = w.wind) →
         t.weather.alarmTimer = some (now + 10000000000) ∧
         ((s.insertQueue .c).length < 32 → (t.tx.get (insertLine s.fold)).insert.c = s.insertQueue .c ++
           [originate 14 255 [levelByte j.ice, levelByte j.fog, levelByte j.wind] s])) ∧
       (s.phase = .starting ∨ (j.ice = w.ice ∧ j.fog = w.fog ∧ j.wind = w.wind) →
         t.weather.alarmTimer = w.alarmTimer ∧ ∀ k : Line, (t.tx.get k).insert.c = (s.tx.get k).insert.c) ∧
       (light.length < 3 → t.brightness = s.brightness) ∧
       (3 ≤ light.length →
         t.brightness = brightnessStep s.brightness ((2 * sum + light.length) / (2 * light.length)))
     (w.pollTimer = some d → s.ports[p].link = .up → s.ports[p].sending ≠ none → s.ports[p].queue.length < 128 →
       exec .pollTime s = .next (((atMoment d s).setWeather { w with
         pollTimer := some (d + w.interval * 1000000000), pollNumber := w.pollNumber + 1,
         reply := some (max s.clock.now d + 2000000000) }).setPorts
           (s.ports.set p { s.ports[p] with queue := s.ports[p].queue ++ [⟨48, []⟩] }))) ∧
     (w.pollTimer = some d → s.ports[p].link ≠ .up → ∃ t, exec .pollTime s = .next t ∧ SameBut touched s t ∧
       t.weather.pollTimer = some (d + w.interval * 1000000000) ∧ t.weather.pollNumber = w.pollNumber ∧
       t.weather.reply = w.reply ∧ t.weather.missedPolls = w.missedPolls ∧
       (∀ k : Line, (t.tx.get k).insert.b = (s.tx.get k).insert.b) ∧ evaluated (max s.clock.now d) w t ∧
       (∀ i : Fin 7, t.weather.quantities[i] = aged (max s.clock.now d) w.quantities[i])) ∧
     (w.reply = some d → ∃ t, exec .replyTimerExpires s = .next t ∧ SameBut touched s t ∧
       t.weather.reply = none ∧ t.weather.missedPolls = bump w.missedPolls ∧ t.weather.surface = none ∧
       t.weather.precip = none ∧ t.weather.pollTimer = w.pollTimer ∧ evaluated (max s.clock.now d) w t ∧
       (∀ i : Fin 7, t.weather.quantities[i] = aged (max s.clock.now d) { w.quantities[i] with latest := none })) ∧
     (∀ (r : Reading), s.ports[p].link = .up → s.rx[p] = none → w.reply = none → exec (.reading p r) s =
       .next ((s.setPorts (s.ports.set p { s.ports[p] with silence := some (s.clock.now + 1000000000) })).setWeather
         { w with lateReplies := bump w.lateReplies })) ∧
     (∀ (r : Reading), s.ports[p].link = .up → s.rx[p] = none → w.reply = some d →
       ∃ t, exec (.reading p r) s = .next t ∧ evaluated s.clock.now (takeReading s.clock.now r w) t ∧
       SameBut touched s t ∧ t.weather.reply = none ∧ t.weather.pollNumber = w.pollNumber ∧
       t.weather.surface = r.surface.bind readSurface ∧ t.weather.precip = r.precip.bind readPrecip ∧
       (∀ x, r.surface.bind readSurface = some x → 5 ≤ w.interval → t.weather.held = some (x, s.clock.now)) ∧
       (∀ i : Fin 7,
         (r.numeric[i] = none → t.weather.quantities[i] = aged s.clock.now { w.quantities[i] with latest := none }) ∧
         (∀ v : BitVec 32, r.numeric[i] = some v → 5 ≤ w.interval →
           let x := max (quantityRange i).1 (min (quantityRange i).2 v.toInt)
           let trimmed := if w.quantities[i].window.length < 6 then w.quantities[i].window
             else w.quantities[i].window.drop 1
           t.weather.quantities[i] = ⟨trimmed.filter (fun y => young s.clock.now y.taken) ++ [⟨x, s.clock.now⟩],
             some s.clock.now, some x⟩)))) ∧
  (∀ (s : State) (p : Port) (d : Time) (i : Instr) (outcome : Byte) (c : Nat),
     s.portOf .weather = some p → s.phase = .active → s.weather.reply = some d → s.selectedCentre = some c →
     ((∃ r, i = .reading p r ∧ s.ports[p].link = .up ∧ s.rx[p] = none ∧ outcome = 1) ∨ (i = .replyTimerExpires ∧ outcome = 2)) →
     ∃ t, exec i s = .next t ∧
       (s.tollCentre = none ∨ s.tollCentre = some c → (s.insertQueue .b).length < 32 →
         (t.tx.get (insertLine s.fold)).insert.b =
           s.insertQueue .b ++ [originate 13 (natByte c) (reportBytes outcome t.weather) s]) ∧
       (∀ x, s.tollCentre = some x → x ≠ c → (s.insertQueue .b).length < 31 →
         (t.tx.get (insertLine s.fold)).insert.b = s.insertQueue .b ++
           [originate 13 (natByte c) (reportBytes outcome t.weather) s,
             originate 13 (natByte x) (reportBytes outcome t.weather) s]) ∧
       (32 ≤ (s.insertQueue .b).length → (t.tx.get (insertLine s.fold)).insert.b = s.insertQueue .b ∧
         (s.ring.insertDrops ≠ 65535 → t.ring.insertDrops ≠ s.ring.insertDrops))) ∧
  (∀ (s : State) (p : Port) (d : Time) (i : Instr), s.portOf .weather = some p → s.phase = .active →
     s.weather.reply = some d → s.selectedCentre = none →
     ((∃ r, i = .reading p r ∧ s.ports[p].link = .up ∧ s.rx[p] = none) ∨ i = .replyTimerExpires) →
     ∃ t, exec i s = .next t ∧ t.weather.reply = none ∧ ∀ k : Line, (t.tx.get k).insert.b = (s.tx.get k).insert.b)

/-- R164, R165, R166, R167: averages, the gust maximum, and what an evaluation makes of each alarm level: judged by the
table of R166 when its deciding input holds three samples, held for 60 s when it does not, then UNKNOWN. -/
def Obligations.AlarmLevelsAreJudgedAsChapter9Says : Prop :=
  ∀ (now : Time) (w w' : Weather), w' = judge now w →
    let stale := fun (i : Fin 7) => w'.quantities[i].window.length < 3
    let sum := fun (i : Fin 7) => (w'.quantities[i].window.map (fun x => x.value)).sum
    let n := fun (i : Fin 7) => (w'.quantities[i].window.length : Int)
    let avg := fun (i : Fin 7) => (2 * sum i + n i) / (2 * n i)
    let spread := fun (t : Int) => ¬stale 1 ∧ ¬stale 2 ∧ avg 1 - avg 2 ≤ t
    let lying := fun (xs : List Surface) => ∃ x taken, w'.held = some (x, taken) ∧ x ∈ xs
    let th := w.thresholds
    let table := fun (before after : Level) (e1 e2 l1 l2 : Prop) =>
      (e2 → before ≠ .two → after = .two) ∧
      (e1 → ¬e2 → before = .unknown ∨ before = .zero → after = .one) ∧
      (¬e1 → ¬e2 → before = .unknown ∨ before = .zero → after = .zero) ∧
      (¬e2 → before = .one → (l1 → after = .zero) ∧ (¬l1 → after = .one)) ∧
      (before = .two → (l2 → after = .one) ∧ (¬l2 → after = .two))
    let held := fun (i : Fin 7) (before after : Level) =>
      (∀ t, w.quantities[i].last = some t → now < t + 60000000000 → after = before) ∧
      (∀ t, w.quantities[i].last = some t → t + 60000000000 ≤ now → after = .unknown) ∧
      (w.quantities[i].last = none → after = .unknown)
    (stale 0 → held 0 w.ice w'.ice) ∧ (stale 3 → held 3 w.fog w'.fog) ∧ (stale 4 → held 4 w.wind w'.wind) ∧
    (¬stale 0 → table w.ice w'.ice
      (avg 0 ≤ th.ice1 ∧ (spread th.spread1 ∨ lying [.damp, .wet, .ice]))
      (avg 0 ≤ th.ice2 ∧ (spread th.spread2 ∨ lying [.wet, .ice])) (th.ice1 + 10 < avg 0) (th.ice2 + 10 < avg 0)) ∧
    (¬stale 3 → table w.fog w'.fog (avg 3 < th.fog1) (avg 3 < th.fog2) (5 * th.fog1 < 4 * avg 3)
      (5 * th.fog2 < 4 * avg 3)) ∧
    (¬stale 4 → ∀ m, (∃ x ∈ w'.quantities[(4 : Fin 7)].window, x.value = m) →
      (∀ x ∈ w'.quantities[(4 : Fin 7)].window, x.value ≤ m) →
      table w.wind w'.wind (th.wind1 ≤ m) (th.wind2 ≤ m) (m < th.wind1 - 30) (m < th.wind2 - 30))

/-- R159, R162, R168, R171, R172: WX-RATE replaces the interval, held to 5 to 60 s, and starts the poll timer again;
WX-LIMITS replaces the thresholds of one alarm, clamped, where level 2 is the stricter; the alarm timer offers a WX-ALARM
and starts again; a copied WX-ALARM creates or refreshes the view entry of its source, unless it carries a code above 3; a
view entry that reaches 35 s is removed. One brightness evaluation moves the level by at most one, by
its thresholds; the level stays in 1 to 8. -/
def Obligations.WeatherCommandsTimersAndBrightness : Prop :=
  ((∀ (via : Via) (p : Port) (n : Byte) (q : LimitParams) (s : State), Admitted via s → via.addressing = .unicast →
     s.profile p = .weather →
     let limits := exec (.wxLimits via (natByte p.val) q) s
     let sets := fun (th : Thresholds) =>
       (.next (s.setWeather { s.weather with thresholds := th }) : Host.Outcome State Fault Refusal)
     let held := fun (lo hi : Int) (x : BitVec 16) => max lo (min hi x.toInt)
     let th := s.weather.thresholds
     (exec (.wxRate via (natByte p.val) n) s = .next (s.setWeather { s.weather with
       interval := max 5 (min 60 n.toNat), pollTimer := some (s.clock.now + max 5 (min 60 n.toNat) * 1000000000) })) ∧
     (q.kind = 1 → limits = if held (-400) 800 q.level2 < held (-400) 800 q.level1 ∧
         held (-1200) 1200 q.spread2 < held (-1200) 1200 q.spread1
       then sets { th with ice1 := held (-400) 800 q.level1, ice2 := held (-400) 800 q.level2,
                           spread1 := held (-1200) 1200 q.spread1, spread2 := held (-1200) 1200 q.spread2 }
       else .next (rejected .range s)) ∧
     (q.kind = 2 → limits = if held 0 10000 q.level2 < held 0 10000 q.level1
       then sets { th with fog1 := held 0 10000 q.level1, fog2 := held 0 10000 q.level2 }
       else .next (rejected .range s)) ∧
     (q.kind = 3 → limits = if held 0 750 q.level1 < held 0 750 q.level2
       then sets { th with wind1 := held 0 750 q.level1, wind2 := held 0 750 q.level2 }
       else .next (rejected .range s)) ∧
     (q.kind.toNat = 0 ∨ 3 < q.kind.toNat → limits = .next (rejected .range s))) ∧
   (∀ (s : State) (d : Time), s.phase = .active → s.weather.alarmTimer = some d →
     let later := (atMoment d s).setWeather { s.weather with alarmTimer := some (max s.clock.now d + 10000000000) }
     ((s.insertQueue .c).length < 32 → ∃ tx, exec .alarmTimerExpires s = .next (later.setTx tx) ∧
       tx = s.tx.set (insertLine s.fold) { s.tx.get (insertLine s.fold) with
         insert := { (s.tx.get (insertLine s.fold)).insert with c := s.insertQueue .c ++
           [originate 14 255 [levelByte s.weather.ice, levelByte s.weather.fog, levelByte s.weather.wind] s] } }) ∧
     (32 ≤ (s.insertQueue .c).length → exec .alarmTimerExpires s =
       .next (later.setRing { s.ring with insertDrops := bump s.ring.insertDrops }))) ∧
   (∀ (s : State) (n : Nat) (e : ViewEntry), s.viewOf n = some e →
     ∃ t, exec (.wxViewEntryExpires n) s = .next t ∧
       SameBut [.clock, .weather, .signs, .responses, .ports, .portCounts] s t ∧
       t.clock = { s.clock with now := max s.clock.now (e.refreshed + 35000000000) } ∧
       t.weather = { s.weather with view := s.weather.view.setIfInBounds n none } ∧
       ∀ k : Fin 16, t.responses[k].value = conditionValue t t.responses[k].condition) ∧
   (∀ (l : Line) (c : Cell) (s : State), Copied l c s → c.kind = 14 → s.phase = .starting ∨ s.phase = .active →
     ∃ t, exec (.cellArrives l c) s = .next t ∧
       SameBut [.lines, .tx, .ring, .weather, .signs, .responses, .ports, .portCounts, .centre] s t ∧
       (∀ ice fog wind : Level, (c.payload.take 3) = [levelByte ice, levelByte fog, levelByte wind] →
         t.weather = { s.weather with
           view := s.weather.view.setIfInBounds c.source.toNat (some ⟨ice, fog, wind, s.clock.now⟩) } ∧
         ((∀ at' : Time, s.viewOf c.source.toNat ≠ some ⟨ice, fog, wind, at'⟩) →
           ∀ k : Fin 16, t.responses[k].value = conditionValue t t.responses[k].condition)) ∧
       (3 < (byteAt c.payload 0).toNat ∨ 3 < (byteAt c.payload 1).toNat ∨ 3 < (byteAt c.payload 2).toNat →
         t.weather = s.weather))) ∧
  (∀ (level : Nat) (a : Int), 1 ≤ level → level ≤ 8 →
     let threshold := fun (l : Nat) => (([40, 150, 500, 1500, 5000, 15000, 40000] : List Nat).getD (l - 1) 0 : Int)
     (level ≤ 7 → threshold level ≤ a → brightnessStep level a = level + 1) ∧
     (2 ≤ level → 4 * a < 3 * threshold (level - 1) → brightnessStep level a = level - 1) ∧
     (¬(level ≤ 7 ∧ threshold level ≤ a) → ¬(2 ≤ level ∧ 4 * a < 3 * threshold (level - 1)) →
       brightnessStep level a = level) ∧
     1 ≤ brightnessStep level a ∧ brightnessStep level a ≤ 8)

/-! ### Tributary ports, straps and start-up (chapter 10) -/

/-- R122, R177, R178, of a port unit that is not in the middle of another frame: an IDENT of the right kind brings a port
UP, afresh where it was UP, and gives a sign its geometry; one of the wrong kind leads to MISMATCH. The node answers
either with its own IDENT; that it stands before the service's frames, and its bytes, are the model's choice
(notes/assumptions/18.md, 6.md). Any other frame restarts the silence
timer outside DOWN; the silence timer at 1 s takes the link DOWN. A port treated as NONE does nothing. -/
def Obligations.LinkSupervisionFollowsTheTableOfR177 : Prop :=
  ∀ (p : Port) (kind w h : Byte) (s : State),
    let right := kind = profileByte (s.profile p) ∧
      (s.profile p = .sign → 8 ≤ w.toNat ∧ w.toNat ≤ 192 ∧ 8 ≤ h.toNat ∧ h.toNat ≤ 64)
    let u := s.ports[p]
    let timer := some (s.clock.now + 1000000000)
    let own : Frame := ⟨1, [s.straps.number.setWidth 8, natByte p.val, profileByte (s.profile p)]⟩
    let mine := fun (t : State) => ∀ q : Port, q ≠ p → t.ports[q].link = s.ports[q].link ∧
      t.ports[q].silence = s.ports[q].silence
    (s.profile p = .none → exec (.ident p kind w h) s = .next s ∧ exec (.alive p) s = .next s) ∧
    (s.profile p ≠ .none → s.rx[p] = none →
      (u.link ≠ .pass → ∃ t, exec (.ident p kind w h) s = .next t ∧
        t.straps = s.straps ∧ t.station = s.station ∧ t.plates = s.plates ∧ t.lines = s.lines ∧ t.clock = s.clock ∧
        mine t ∧ t.ports[p].silence = timer ∧
        (right → t.ports[p].link = .up ∧
          (s.profile p = .sign → t.signs[p].geometry = some (w.toNat, h.toNat))) ∧
        (¬right → t.ports[p].link = .mismatch ∧ ∀ q : Port, t.signs[q].geometry = s.signs[q].geometry) ∧
        (u.sending = none → t.ports[p].sending = some ⟨own, false⟩) ∧
        (u.sending ≠ none → u.link = .up → t.ports[p].queue.head? = some own) ∧
        (u.sending ≠ none → u.link ≠ .up → u.queue.length < 128 → (u.queue ++ [own]) <+: t.ports[p].queue)) ∧
      (u.link = .down → exec (.alive p) s = .next s) ∧
      (u.link = .up ∨ u.link = .mismatch →
        exec (.alive p) s = .next (s.setPorts (s.ports.set p { u with silence := timer }))) ∧
      (∀ d, u.link = .mismatch → u.silence = some d → exec (.portSilenceTimerExpires p) s =
        .next ((atMoment d s).setPorts (s.ports.set p { u with link := .down, silence := none }))) ∧
      (∀ d, u.link = .up → u.silence = some d → ∃ t, exec (.portSilenceTimerExpires p) s = .next t ∧
        t.clock = { s.clock with now := max s.clock.now d } ∧ mine t ∧
        t.ports[p] = { u with link := .down, silence := none, queue := [] } ∧ t.station = s.station ∧
        t.plates = s.plates ∧ t.toll = s.toll ∧ t.centre = s.centre))

/-- R176, R177, R180, R183: outside PASS a port unit reads the bytes of its link. Bytes before a start flag are ignored. A
whole frame is valid when its check is good, its type is one its profile receives and its length is one the type allows;
any other is counted as a bad frame, and the search goes on from the byte behind its flag. A frame that is not whole waits
for more bytes; when they stop for 10 ms it is a bad frame too. Every frame the equipment sends is its bytes. A frame that
has been sent makes room for the head of the port's queue, and on a CENTRE port that is UP with an empty queue for the head
of the delivery queue. ALIVE goes out 200 ms after the last frame. -/
def Obligations.FramesAreTestedAndSentInOrder : Prop :=
  ∀ (p : Port) (s : State),
    let u := s.ports[p]
    let bad := s.setPortCounts { s.portCounts with badFrames := bump s.portCounts.badFrames }
    let sends := fun (u' : PortUnit) => s.setPorts (s.ports.set p { u' with lastSent := s.clock.now })
    let check := fun (f : Frame) => check16 (f.type :: natByte f.payload.length :: f.payload)
    let bytes := fun (f : Frame) (x : BitVec 16) => f.type :: natByte f.payload.length :: f.payload ++ wordBytes x
    (s.profile p ≠ .none → u.link ≠ .pass →
      (∀ (f : Frame) (x : BitVec 16), exec (.badFrame p f x) s = .next (takeBytes p false (0x7E :: bytes f x) s)) ∧
      (∀ b : Byte, exec (.passByte p b) s = .next (takeBytes p false [b] s)) ∧
      (s.rx[p] = none → exec (.frameByteTimeout p) s = .next s) ∧
      (∀ x, s.rx[p] = some x → exec (.frameByteTimeout p) s = .next (takeBytes p true [] (atMoment x.timer s)) ∧
        ∀ stopped more, takeBytes p stopped more s = takeBytes p stopped (x.bytes ++ more) (s.setRx (s.rx.set p none))) ∧
      (s.rx[p] = none → ∀ stopped : Bool, takeBytes p stopped [] s = s ∧
        (∀ (b : Byte) (more : List Byte), b ≠ 0x7E → takeBytes p stopped (b :: more) s = takeBytes p stopped more s) ∧
        (∀ (f : Frame) (x : BitVec 16) (more : List Byte), f.payload.length ≤ 255 →
          let valid := fun (r : RxFrame) => x = check f ∧ readFrame f = some r ∧
            (rxProfile r = none ∨ rxProfile r = some (s.profile p))
          (∀ r, valid r → takeBytes p stopped (0x7E :: bytes f x ++ more) s =
            takeBytes p stopped more (validFrame p r s)) ∧
          ((∀ r, ¬valid r) → takeBytes p stopped (0x7E :: bytes f x ++ more) s =
            takeBytes p stopped (bytes f x ++ more) bad)) ∧
        (∀ part : List Byte, part.length < 2 ∨ part.length < (byteAt part 1).toNat + 4 →
          takeBytes p stopped (0x7E :: part) s = if stopped then takeBytes p true part bad
            else s.setRx (s.rx.set p (some ⟨0x7E :: part, s.clock.now + 10000000⟩))))) ∧
    (s.profile p = .none → ∀ (f : Frame) (x : BitVec 16) (b : Byte),
      exec (.badFrame p f x) s = .next s ∧ exec (.passByte p b) s = .next s) ∧
    (∀ (i : Instr) (f : RxFrame), frameOf i = some (p, f) → (rxFrame f).payload.length ≤ 255 →
      exec i s = exec (.badFrame p (rxFrame f) (check (rxFrame f))) s) ∧
    (∀ (x : Frame) (f : Frame) (rest : List Frame), u.sending = some ⟨x, false⟩ → u.queue = f :: rest →
      exec (.portFrameSent p) s = .next (sends { u with queue := rest, sending := some ⟨f, false⟩ })) ∧
    (∀ x : Frame, u.sending = some ⟨x, false⟩ → u.queue = [] → s.profile p ≠ .centre ∨ u.link ≠ .up ∨
        s.centre.delivery = [] →
      exec (.portFrameSent p) s = .next (s.setPorts (s.ports.set p { u with sending := none }))) ∧
    (∀ (x f : Frame) (rest : List Frame), u.sending = some ⟨x, false⟩ → u.queue = [] → s.profile p = .centre →
      u.link = .up → s.centre.delivery = f :: rest → exec (.portFrameSent p) s =
        .next ((sends { u with sending := some ⟨f, true⟩ }).setCentre { s.centre with delivery := rest })) ∧
    (s.portOf .centre = some p → ∀ x : Frame, u.sending = some ⟨x, true⟩ →
      (∀ f rest, u.queue = f :: rest → exec .deliveryFrameSent s =
        .next (sends { u with queue := rest, sending := some ⟨f, false⟩ })) ∧
      (∀ f rest, u.queue = [] → u.link = .up → s.centre.delivery = f :: rest → exec .deliveryFrameSent s =
        .next ((sends { u with sending := some ⟨f, true⟩ }).setCentre { s.centre with delivery := rest })) ∧
      (u.queue = [] → s.centre.delivery = [] ∨ u.link ≠ .up → exec .deliveryFrameSent s =
        .next (s.setPorts (s.ports.set p { u with sending := none })))) ∧
    (u.link = .up →
      let now := max s.clock.now (u.lastSent + 200000000)
      let due := s.setClock { s.clock with now := now }
      (u.sending = none → exec (.aliveTimer p) s = .next (due.setPorts
        (s.ports.set p { u with sending := some ⟨⟨2, []⟩, false⟩, lastSent := now }))) ∧
      (u.sending ≠ none → u.queue.length < 128 → exec (.aliveTimer p) s = .next (due.setPorts
        (s.ports.set p { u with queue := u.queue ++ [⟨2, []⟩] }))) ∧
      (u.sending ≠ none → 128 ≤ u.queue.length → exec (.aliveTimer p) s = .next (due.setPortCounts
        { s.portCounts with frameDrops := bump s.portCounts.frameDrops })))

/-- R179, R181: PASS-OPEN by unicast puts a SIGN, WEATHER or TOLL port in PASS toward the command's source, unless it is
in PASS or the idle code is above 3. PASS-CLOSE, the idle timer and the line-loss timer end pass mode: the gathered bytes
go out as a last PASS cell, and the port is DOWN with its own IDENT sent. The line-loss timer runs while the signal is
gone. The bytes of a PASS cell and of an IDENT, that a frame being read is forgotten when PASS begins, and that the idle
code is tested before the port's state, are the model's choice (notes/assumptions/5.md, 6.md, 37.md, 47.md). -/
def Obligations.PassModeOpensAndEnds : Prop :=
  ∀ (p : Port) (s : State) (u : PortUnit), s.ports[p] = u → s.profile p ∈ [Profile.sign, .weather, .toll] →
    let own : Frame := ⟨1, [s.straps.number.setWidth 8, natByte p.val, profileByte (s.profile p)]⟩
    let ended := fun (t : State) => t.ports[p].link = .down ∧ t.ports[p].silence = none ∧ t.ports[p].opening = none ∧
      t.ports[p].gather = [] ∧ t.ports[p].gatherTimer = none ∧ t.ports[p].idleTimer = none ∧
      (u.sending = none → t.ports[p].sending = some ⟨own, false⟩ ∧ t.ports[p].queue = u.queue) ∧
      (u.sending ≠ none → u.queue.length < 128 → t.ports[p].queue = u.queue ++ [own])
    let lastCell := fun (t : State) =>
      (∀ c, s.phase = .active → u.gather ≠ [] → u.opening = some c → (s.insertQueue .b).length < 32 →
        (t.tx.get (insertLine s.fold)).insert.b = s.insertQueue .b ++
          [originate 15 (natByte c) (natByte p.val :: natByte u.gather.length :: u.gather) s]) ∧
      (s.phase ≠ .active ∨ u.gather = [] ∨ u.opening = none → t.tx = s.tx)
    (∀ (via : Via) (idle : Byte), Admitted via s → via.addressing = .unicast →
      (3 < idle.toNat → exec (.passOpen via (natByte p.val) idle) s = .next (rejected .range s)) ∧
      (idle.toNat ≤ 3 → u.link = .pass → exec (.passOpen via (natByte p.val) idle) s = .next (rejected .state s)) ∧
      (idle.toNat ≤ 3 → u.link ≠ .pass → ∃ t, exec (.passOpen via (natByte p.val) idle) s = .next t ∧
        t.toll = s.toll ∧ t.station = s.station ∧ t.plates = s.plates ∧ t.clock = s.clock ∧
        (s.profile p = .sign → t.signs[p].claims = s.signs[p].claims ∧ t.signs[p].dark = s.signs[p].dark ∧
          t.signs[p].stage = s.signs[p].stage) ∧
        (∀ q : Port, q ≠ p → t.ports[q].link = s.ports[q].link) ∧
        t.ports[p] = { u with
          link := .pass, silence := none, queue := [], gather := [], gatherTimer := none,
          opening := some (if via.ownPort then s.straps.number.toNat else via.source.toNat),
          idleCode := idle.setWidth 2,
          idleTimer := if idle = 3 then none else some (s.clock.now +
            (if idle = 0 then 2000000000 else if idle = 1 then 8000000000 else 32000000000)) } ∧
        t.rx = s.rx.set p none)) ∧
    (∀ via : Via, Admitted via s → via.addressing = .unicast →
      (u.link ≠ .pass → exec (.passClose via (natByte p.val)) s = .next (rejected .state s)) ∧
      (u.link = .pass → ∃ t, exec (.passClose via (natByte p.val)) s = .next t ∧
        SameBut [.tx, .ring, .ports, .portCounts] s t ∧ ended t ∧ lastCell t)) ∧
    (∀ d, u.link = .pass → u.idleTimer = some d → ∃ t, exec (.passIdleTimerExpires p) s = .next t ∧
      SameBut [.clock, .tx, .ring, .ports, .portCounts] s t ∧ ended t ∧ lastCell t) ∧
    (∀ d, u.link = .pass → u.lineLoss = some d → ∃ t, exec (.lineLossTimerExpires p) s = .next t ∧
      SameBut [.clock, .tx, .ring, .ports, .portCounts] s t ∧ ended t ∧ lastCell t ∧ t.ports[p].lineLoss = none) ∧
    (∀ d, u.link ≠ .pass → u.lineLoss = some d → exec (.lineLossTimerExpires p) s =
      .next ((atMoment d s).setPorts (s.ports.set p { u with lineLoss := none }))) ∧
    (exec (.portLineSignal p true) s = .next (s.setPorts (s.ports.set p { u with lineLoss := none }))) ∧
    (u.lineLoss = none → exec (.portLineSignal p false) s =
      .next (s.setPorts (s.ports.set p { u with lineLoss := some (s.clock.now + 1000000000) }))) ∧
    (∀ d, u.lineLoss = some d → exec (.portLineSignal p false) s = .next s)

/-- R180, at a SIGN, WEATHER or TOLL port, which every port in PASS is (`StationTablesStayInOrder`): in PASS a byte from the
equipment joins the gather buffer, which goes out as one PASS cell at 48 bytes or 20 ms after its first byte; a delivered
PASS cell that fits an open session is written out, and another is stray. -/
def Obligations.PassBytesAreGatheredAndWrittenOut : Prop :=
  ∀ (p : Port) (s : State) (u : PortUnit) (c : Nat), s.profile p ∈ [Profile.sign, .weather, .toll] → s.ports[p] = u →
    u.link = .pass → u.opening = some c →
    let idle := (if u.idleCode = 0 then some (s.clock.now + 2000000000)
      else if u.idleCode = 1 then some (s.clock.now + 8000000000)
      else if u.idleCode = 2 then some (s.clock.now + 32000000000) else none : Option Time)
    let sent := fun (bytes : List Byte) (t : State) =>
      (s.phase = .active → (s.insertQueue .b).length < 32 → t.ring = s.ring ∧
        (t.tx.get (insertLine s.fold)).insert.b = s.insertQueue .b ++
          [originate 15 (natByte c) (natByte p.val :: natByte bytes.length :: bytes) s]) ∧
      (s.phase = .active → 32 ≤ (s.insertQueue .b).length → t.tx = s.tx ∧
        t.ring = { s.ring with insertDrops := bump s.ring.insertDrops }) ∧
      (s.phase ≠ .active → t.tx = s.tx ∧ t.ring = s.ring)
    (∀ b : Byte, u.gather.length < 47 → exec (.passByte p b) s = .next (s.setPorts (s.ports.set p { u with
      gather := u.gather ++ [b], idleTimer := idle,
      gatherTimer := if u.gather = [] then some (s.clock.now + 20000000) else u.gatherTimer }))) ∧
    (∀ b : Byte, u.gather.length = 47 → ∃ t, exec (.passByte p b) s = .next t ∧ SameBut [.tx, .ring, .ports] s t ∧
      t.ports = s.ports.set p { u with gather := [], gatherTimer := none, idleTimer := idle } ∧
      sent (u.gather ++ [b]) t) ∧
    (∀ d, u.gatherTimer = some d → u.gather ≠ [] → ∃ t, exec (.gatherTimerExpires p) s = .next t ∧
      SameBut [.clock, .tx, .ring, .ports] s t ∧ t.clock = { s.clock with now := max s.clock.now d } ∧
      t.ports = s.ports.set p { u with gather := [], gatherTimer := none } ∧ sent u.gather t) ∧
    (∀ (l : Line) (cell : Cell), Delivered l cell s → cell.kind = 15 → s.phase = .active → s.isCentre = false →
      let heard := s.setLines (s.lines.set l { s.lines.get l with silence := some (s.clock.now + 2000000) })
      let length := (byteAt cell.payload 1).toNat
      ((byteAt cell.payload 0).toNat = p.val → cell.source.toNat = c → 1 ≤ length → length ≤ 48 →
        exec (.cellArrives l cell) s = .next (heard.setPorts (s.ports.set p { u with
          written := (cell.payload.drop 2).take length, idleTimer := idle }))) ∧
      (((byteAt cell.payload 0).toNat = p.val ∧ (cell.source.toNat ≠ c ∨ length = 0 ∨ 48 < length)) ∨
          3 < (byteAt cell.payload 0).toNat →
        exec (.cellArrives l cell) s = .next (heard.setPortCounts
          { s.portCounts with strayPass := bump s.portCounts.strayPass })))

/-- R7, R20, R182, R183: a cell copied of class C, and a VOICE, WX-REPORT, STATUS or PASS cell delivered, join the delivery
queue of a centre station as CELL frames, here behind a frame that is being sent; in a full queue the oldest frame that is
no TOLL-RECORD makes room. A CELL frame on a CENTRE port that is UP joins the intake FIFO, is refused or overflows it; the
64th cell sends PAUSE. The FIFO's head moves on while its class has room, here a cell for another station, and the paused
FIFO that falls to 31 cells sends GO. That a CELL frame carries a CLAIM as it arrived, before this station's mark, and which
bytes of a cell of the FIFO its kind leaves unused, as `CellsAndFramesReadBackAsWritten` gives them, are the model's choice
(notes/assumptions/16.md, 41.md). -/
def Obligations.CentreCellsPassThroughTheIntake : Prop :=
  (∀ (l : Line) (c : Cell) (s : State) (p : Port), s.portOf .centre = some p → s.ports[p].sending ≠ none →
    let frame : Frame := ⟨80, c.kind :: c.source :: c.dest :: c.hops :: c.payload⟩
    let q := s.centre.delivery
    let dropped := fun (t : State) => t.portCounts.deliveryDrops = bump s.portCounts.deliveryDrops
    let placed := fun (t : State) =>
      (q.length < 128 → t.centre.delivery = q ++ [frame] ∧ t.portCounts.deliveryDrops = s.portCounts.deliveryDrops) ∧
      (∀ first f rest, 128 ≤ q.length → q = first ++ f :: rest → (∀ g ∈ first, g.type = 81) → f.type ≠ 81 →
        t.centre.delivery = first ++ rest ++ [frame] ∧ dropped t) ∧
      (128 ≤ q.length → (∀ g ∈ q, g.type = 81) → t.centre.delivery = q ∧ dropped t)
    (Copied l c s → ∃ t, exec (.cellArrives l c) s = .next t ∧
      (classOf c.kind = .c → placed t) ∧ (classOf c.kind ≠ .c → t.centre.delivery = q)) ∧
    (Delivered l c s → c.kind ≠ 7 → c.kind ≠ 8 → ∃ t, exec (.cellArrives l c) s = .next t ∧
      (c.kind ∈ ([1, 6, 13, 15] : List Byte) → placed t) ∧
      (c.kind ∉ ([1, 6, 13, 15] : List Byte) → t.centre.delivery = q))) ∧
  ∀ (p : Port) (s : State), s.portOf .centre = some p → s.ports[p].link = .up → s.ports[p].sending ≠ none →
    s.ports[p].queue.length < 128 →
    (∀ bytes : List Byte, s.phase = .starting ∨ s.phase = .active → s.rx[p] = none →
      let dest := (byteAt bytes 2).toNat
      let good := bytes.length = 60 ∧ byteAt bytes 0 ∈ ([1, 7, 11, 12, 15] : List Byte) ∧
        ((1 ≤ dest ∧ dest ≤ 60) ∨ (64 ≤ dest ∧ dest ≤ 95) ∨ dest = 255)
      let heard := { s.ports[p] with silence := some (s.clock.now + 1000000000) }
      let up := s.setPorts (s.ports.set p heard)
      let joined := s.centre.intake ++ [⟨byteAt bytes 0, byteAt bytes 1, byteAt bytes 2, byteAt bytes 3,
        bytes.drop 4, 0⟩]
      (¬good → exec (.cellFrame p bytes) s = .next (up.setPortCounts
        { s.portCounts with intakeRefused := bump s.portCounts.intakeRefused })) ∧
      (good → 64 ≤ s.centre.intake.length → exec (.cellFrame p bytes) s = .next (up.setPortCounts
        { s.portCounts with intakeOverflow := bump s.portCounts.intakeOverflow })) ∧
      (good → s.centre.intake.length < 63 →
        exec (.cellFrame p bytes) s = .next (up.setCentre { s.centre with intake := joined })) ∧
      (good → s.centre.intake.length = 63 → exec (.cellFrame p bytes) s = .next
        ((s.setPorts (s.ports.set p { heard with queue := heard.queue ++ [⟨82, []⟩] })).setCentre
          { s.centre with intake := joined, paused := true }))) ∧
    (∀ (c : Cell) (rest : List Cell), s.centre.intake = c :: rest → s.phase = .active →
      ((s.insertQueue (classOf c.kind)).length = insertCapacity (classOf c.kind) → exec .intakeAdvance s = .next s) ∧
      ((s.insertQueue (classOf c.kind)).length < insertCapacity (classOf c.kind) →
        1 ≤ c.dest.toNat → c.dest.toNat ≤ 60 → s.own ≠ some c.dest.toNat →
        let tx := s.tx.set (insertLine s.fold) { s.tx.get (insertLine s.fold) with
          insert := (s.tx.get (insertLine s.fold)).insert.set (classOf c.kind)
            (s.insertQueue (classOf c.kind) ++ [originate c.kind c.dest (clearUnused c.kind c.payload) s]) }
        (s.centre.paused = false ∨ 31 < rest.length → exec .intakeAdvance s =
          .next ((s.setTx tx).setCentre { s.centre with intake := rest })) ∧
        (s.centre.paused = true → rest.length ≤ 31 → exec .intakeAdvance s =
          .next (((s.setTx tx).setCentre { s.centre with intake := rest, paused := false }).setPorts
            (s.ports.set p { s.ports[p] with queue := s.ports[p].queue ++ [⟨83, []⟩] })))))

/-- R157, R158, R184: at the end of each 5 s period an ACTIVE or MUTE station sends its report, and the report number rises
by one. Every byte of sections 0, 1 and 2 is that of R184's table. Each section goes to the selected centre and, when it is
another station, to the toll centre; the cells join the B insert queue in order while it has room, and the others are
insert drops. A centre station also places its own three cells in its delivery queue, here behind frames that wait, onto an
idle link, or into a queue of TOLL-RECORDs that refuses them. That the sections are built before any is sent, that the
selected centre's copy stands first, that the toll centre is reported to also where no centre is selected, and that an own
cell is addressed to the station itself, are the model's choice (notes/assumptions/46.md, 35.md, 17.md), and so are the
display state a MUTE station keeps (20.md) and the moment in `lastSent` (10.md). -/
def Obligations.StatusReportsGoOutEveryPeriod : Prop :=
  ∀ (s : State) (d : Time), s.phase = .active ∨ s.phase = .mute → s.station.statusAt = some d →
    let later := (atMoment d s).setStation { s.station with
      statusAt := some (d + 5000000000), reportNumber := s.station.reportNumber + 1 }
    let bit := fun (b : Bool) (weight : Nat) => if b then weight else 0
    let line := fun (u : LineUnit) =>
      [match u.state with | .down => 0 | .proving => 1 | .up => 2,
       match u.cause with | .none => 0 | .silence => 1 | .errors => 2 | .farDeaf => 3,
       u.farNumber.setWidth 8,
       match u.farFold with | .normal => 0 | .foldD => 1 | .foldU => 2 | .isolated => 3] ++ wordBytes u.downEvents
    let port := fun (p : Port) =>
      ([match s.profile p with | .none => 0 | .phone => 1 | .sign => 2 | .weather => 3 | .toll => 4 | .centre => 5,
        match s.ports[p].link with | .down => 0 | .up => 1 | .mismatch => 2 | .pass => 3] : List Byte)
    let phone := fun (h : Phone) =>
      [match h.state with | .idle => 0 | .waiting => 1 | .claiming => 2 | .ringing => 3 | .connected => 4 | .backoff => 5,
       natByte h.priority, match h.circuit with | some c => natByte c.val | none => 255] ++
      wordBytes h.late ++ wordBytes h.overflow ++ wordBytes h.underrun
    let coded := fun (x : DisplayState) =>
      (match x with | .pass => 0 | .noSign => 1 | .dark => 2 | .updating => 3 | .steady => 4 : Byte)
    let display := fun (p : Port) =>
      if s.ports[p].link = .pass ∧ s.signs[p].frozen = none then 0
      else if s.ports[p].link ≠ .up then 1
      else match s.signs[p].frozen with
        | some x => coded x
        | none => if s.signs[p].dark = true then 2
          else if s.signs[p].transfer ≠ none ∨ s.signs[p].pendingResult ≠ none ∨ s.signs[p].awaiting = true then 3 else 4
    let sign := fun (p : Port) =>
      [natByte (selectedClaim s.signs[p].claims).page.val, display p, natByte s.signs[p].stage,
       natByte s.signs[p].faultCount] ++
      wordBytes s.signs[p].verifyFails ++ wordBytes s.signs[p].missedTotal ++ wordBytes s.signs[p].busyCount
    let those := fun (k : Profile) => (List.finRange 4).filter (fun p => decide (s.profile p = k))
    let orZeros := fun (n : Nat) (bytes : Option (List Byte)) => bytes.getD (List.replicate n 0)
    let stale := fun (i : Fin 7) => bit (decide (s.weather.quantities[i].window.length < 3)) (2 ^ i.val)
    let level := fun (x : Level) => (match x with | .zero => 0 | .one => 1 | .two => 2 | .unknown => 3 : Byte)
    let p0 : List Byte :=
      [0, s.station.reportNumber, if s.phase = .active then 2 else 3,
       match s.fold with | .normal => 0 | .foldD => 1 | .foldU => 2 | .isolated => 3,
       natByte (bit s.straps.conflicts[0] 1 + bit s.straps.conflicts[1] 2 + bit s.straps.conflicts[2] 4 +
         bit s.straps.conflicts[3] 8 + bit s.station.duplicateFlag 16)] ++
      line s.lines.u ++ line s.lines.d ++ wordBytes s.ring.flushed ++
      [natByte (s.station.heard.toList.countP (fun e => e.present)),
       natByte (s.station.heard.toList.countP (fun e => e.present && decide (e.fold ≠ .normal)))] ++
      wordBytes s.station.rejects ++
      [match s.station.lastReject with
        | .none => 0 | .notCentre => 1 | .unknown => 2 | .range => 3 | .state => 4 | .port => 5] ++
      port 0 ++ port 1 ++ port 2 ++ port 3 ++
      wordBytes s.ring.badU ++ wordBytes s.ring.badD ++ wordBytes s.ring.malformed ++ wordBytes s.ring.lineDown ++
      wordBytes s.ring.expired ++ wordBytes s.ring.undeliverable ++ wordBytes s.ring.transitDrops ++
      wordBytes s.ring.insertDrops
    let p1 : List Byte :=
      [1, s.station.reportNumber, natByte s.call.floor] ++
      orZeros 9 ((those .phone)[0]?.map (fun p => phone s.call.phones[p])) ++
      orZeros 9 ((those .phone)[1]?.map (fun p => phone s.call.phones[p])) ++
      orZeros 10 ((those .sign)[0]?.map sign) ++ orZeros 10 ((those .sign)[1]?.map sign) ++
      wordBytes (BitVec.ofNat 16 ((List.finRange 256).countP (fun i => decide (s.plates.blocks[i] = .free)))) ++
      [natByte ((List.finRange 64).countP (fun n => decide (s.plates.dir[n] ≠ none)))] ++
      wordBytes s.plates.plateRange ++ wordBytes s.plates.storeFull ++ wordBytes s.plates.loadBroken ++
      wordBytes s.plates.displaced ++ wordBytes s.plates.strayParts
    let p2 : List Byte :=
      [2, s.station.reportNumber, match s.toll.chan with | .closed => 0 | .syncing => 1 | .opened => 2,
       natByte s.toll.journal.length] ++
      wordBytes s.toll.counters.busy ++ wordBytes s.toll.counters.rejected ++ wordBytes s.toll.counters.stray ++
      wordBytes s.toll.counters.outOfStep ++ wordBytes s.toll.counters.unsynced ++ wordBytes s.toll.counters.repeats ++
      wordBytes s.toll.counters.gaps ++ wordBytes s.toll.counters.noRoom ++ wordBytes s.toll.counters.downRefused ++
      wordBytes s.toll.counters.downRepeats ++ wordBytes s.toll.counters.downMissing ++
      wordBytes s.toll.counters.downUndelivered ++
      wordBytes s.portCounts.badFrames ++ wordBytes s.portCounts.frameDrops ++ wordBytes s.portCounts.intakeRefused ++
      wordBytes s.portCounts.intakeOverflow ++ wordBytes s.portCounts.deliveryDrops ++ wordBytes s.portCounts.strayPass ++
      [level s.weather.ice, level s.weather.fog, level s.weather.wind,
       natByte (stale 0 + stale 1 + stale 2 + stale 3 + stale 4 + stale 5 + stale 6),
       natByte (s.weather.view.toList.countP (fun e => decide (e ≠ none))), natByte s.weather.interval] ++
      wordBytes s.weather.clamped ++ wordBytes s.weather.missedPolls ++ wordBytes s.weather.lateReplies
    let stations := match s.selectedCentre, s.tollCentre with
      | some c, some t => if t = c then [c] else [c, t]
      | some c, none => [c]
      | none, some t => [t]
      | none, none => []
    let cells := [p0, p1, p2].flatMap (fun b => stations.map (fun c => originate 6 (natByte c) b s))
    let room := 32 - (s.insertQueue .b).length
    let sent := (later.setTx (s.tx.set (insertLine s.fold) { s.tx.get (insertLine s.fold) with
        insert := { (s.tx.get (insertLine s.fold)).insert with b := s.insertQueue .b ++ cells.take room } })).setRing
      { s.ring with insertDrops := bumpBy s.ring.insertDrops (cells.length - room) }
    p0.length = 48 ∧ p1.length = 54 ∧ p2.length = 52 ∧
    (s.isCentre = false → exec .statusPeriod s = .next sent) ∧
    ∀ p : Port, s.portOf .centre = some p →
      let q := s.centre.delivery
      let frame := fun (b : List Byte) => (⟨80, 6 :: s.ownByte :: s.ownByte :: 127 :: padded b⟩ : Frame)
      (s.ports[p].sending ≠ none ∨ (s.ports[p].link ≠ .up ∧ s.ports[p].queue = []) → q.length ≤ 125 →
        exec .statusPeriod s = .next (sent.setCentre { s.centre with delivery := q ++ [frame p0, frame p1, frame p2] })) ∧
      (s.ports[p].sending = none → s.ports[p].link = .up → s.ports[p].queue = [] → q = [] →
        exec .statusPeriod s = .next ((sent.setCentre { s.centre with delivery := [frame p1, frame p2] }).setPorts
          (s.ports.set p { s.ports[p] with
            sending := some ⟨frame p0, true⟩, lastSent := max s.clock.now d }))) ∧
      (128 ≤ q.length → (∀ f ∈ q, f.type = 81) → exec .statusPeriod s = .next (sent.setPortCounts
        { s.portCounts with deliveryDrops := bumpBy s.portCounts.deliveryDrops 3 }))

/-! ### What every step keeps -/

/-- R6, R12, R56, R83, R85, R92, R164, R176, R180, R182, R183: no command takes a queue, a count or a window out of its
bounds. -/
def Obligations.QueuesAndCountsStayWithinBounds : Prop :=
  ∀ (c : Instr) (s t : State), WithinBounds s → exec c s = .next t → WithinBounds t

/-- R107, R108: whatever is commanded, every plate-store block stays FREE, or owned by exactly one present plate, or owned
by exactly one open load slot, each owner's blocks being the one run it names. -/
def Obligations.PlateStoreBlocksKeepOneOwner : Prop :=
  ∀ (c : Instr) (s t : State), StoreInOrder s.plates → exec c s = .next t → StoreInOrder t.plates

/-- R141: whatever is commanded, each claims list holds the REST entry exactly once and each other source at most once,
and a response entry's claim only while that entry is enabled and not IDLE. -/
def Obligations.ClaimsListsStayInOrder : Prop :=
  ∀ (c : Instr) (s t : State), ClaimsInOrder s → exec c s = .next t → ClaimsInOrder t

/-- R41, R47, R48, R172, R179, R182: whatever is commanded, STRAP-FAULT stays the phase of a station without a number, no
station hears itself or has itself in its weather view, the intake FIFO holds only what the centre equipment may send, and
a port in PASS is a SIGN, WEATHER or TOLL port. -/
def Obligations.StationTablesStayInOrder : Prop :=
  ∀ (c : Instr) (s t : State), TablesInOrder s → exec c s = .next t → TablesInOrder t

/-- The invariants hold right after power-on and after every RESET. -/
def Obligations.InvariantsHoldAfterReset : Prop :=
  (WithinBounds State.reset ∧ StoreInOrder State.reset.plates ∧ ClaimsInOrder State.reset ∧ TablesInOrder State.reset) ∧
  ∀ (pins : Straps) (s t : State), exec (.reset pins) s = .next t →
    WithinBounds t ∧ StoreInOrder t.plates ∧ ClaimsInOrder t ∧ TablesInOrder t

/-- R4, R46, R62, R82, R92, R98, R176, R180: a cell a unit originates has a good check, and the fields that a payload or a
frame is written with are the fields read from it: HELLO, CLAIM, VOICE, TOLL-REC and TOLL-DOWN, PASS, and every frame that
the node receives. The bytes that a cell of the centre equipment is sent with: those its kind uses as they came, the others
as 0, for each kind and each command code. The byte layouts, and which bytes of such a cell are unused, are the model's
(notes/assumptions/5.md, 6.md, 41.md). -/
def Obligations.CellsAndFramesReadBackAsWritten : Prop :=
  (∀ (kind dest : Byte) (bytes : List Byte) (s : State), checkGood (originate kind dest bytes s) = true ∧
    (originate kind dest bytes s).payload.length = 56 ∧ (originate kind dest bytes s).hops = 127) ∧
  (∀ h : Hello, readHello (padded (helloBytes h)) = h) ∧
  (∀ c : Claim, c.priority ≤ 3 → c.target ≤ 60 → readClaim (padded (claimBytes c)) = c) ∧
  (∀ (c : Fin 16) (seq : BitVec 8) (voice : List Byte), voice.length = 40 →
    circuitAt (padded (voiceBytes c seq voice)) 0 = c ∧ byteAt (padded (voiceBytes c seq voice)) 1 = seq ∧
      readVoice (padded (voiceBytes c seq voice)) = voice) ∧
  (∀ (n : BitVec 16) (body : List Byte), body.length ≤ 53 →
    readTollBody (padded (tollBodyBytes n body)) = ⟨n, body.length, body⟩) ∧
  (∀ (p : Port) (data : List Byte), data.length ≤ 48 →
    (byteAt (padded (passBytes p data)) 0).toNat = p.val ∧
      (byteAt (padded (passBytes p data)) 1).toNat = data.length ∧
      ((padded (passBytes p data)).drop 2).take data.length = data) ∧
  (∀ (b : List Byte) (i : Nat),
    let code := (byteAt b 0).toNat
    let keeps := fun (kind : Byte) (used : Prop) =>
      (used → byteAt (clearUnused kind b) i = byteAt b i) ∧ (¬used → byteAt (clearUnused kind b) i = 0)
    keeps 1 (i < 42) ∧ keeps 11 (i < 3 + min (byteAt b 2).toNat 48) ∧ keeps 12 (i < 7 + min (byteAt b 6).toNat 48) ∧
    keeps 15 (i < 2 + min (byteAt b 1).toNat 48) ∧
    (code ∈ ([5, 8, 14, 15] : List Nat) → keeps 7 (i < 2)) ∧
    (code ∈ ([2, 3, 4, 10, 11, 13] : List Nat) → keeps 7 (i < 3)) ∧
    (code = 1 ∨ code = 7 → keeps 7 (i < 4)) ∧
    (code = 6 → keeps 7 (i < 7 + 7 * min (byteAt b 6).toNat 7)) ∧
    (code = 9 → keeps 7 (i < 14 ∧ ¬(byteAt b 5 = 1 ∧ i = 9) ∧ ¬(byteAt b 5 = 3 ∧ 6 ≤ i ∧ i ≤ 9))) ∧
    (code = 12 → keeps 7 (i < 7 ∨ (i < 11 ∧ byteAt b 2 ≠ 2 ∧ byteAt b 2 ≠ 3))) ∧
    (code = 0 ∨ 15 < code → keeps 7 (i < 56))) ∧
  (∀ f : RxFrame, (∀ v, f = .samples v → v.length = 40) → readFrame (rxFrame f) = some f)
end

