-- ==== Sys2Proof/Laws/State.lean ====
section
/-! SUPPORT. What each field of the state, and each view of it, is after each update of one part: true by unfolding, so
that no later proof unfolds a record update. -/

namespace Sys2Proof.Machine

/-! setPending -/

@[simp] theorem State.setPending_pending (s : State) (x : List Instr) : (s.setPending x).pending = x := rfl
@[simp] theorem State.setPending_clock (s : State) (x : List Instr) : (s.setPending x).clock = s.clock := rfl
@[simp] theorem State.setPending_straps (s : State) (x : List Instr) : (s.setPending x).straps = s.straps := rfl
@[simp] theorem State.setPending_lines (s : State) (x : List Instr) : (s.setPending x).lines = s.lines := rfl
@[simp] theorem State.setPending_tx (s : State) (x : List Instr) : (s.setPending x).tx = s.tx := rfl
@[simp] theorem State.setPending_ring (s : State) (x : List Instr) : (s.setPending x).ring = s.ring := rfl
@[simp] theorem State.setPending_station (s : State) (x : List Instr) : (s.setPending x).station = s.station := rfl
@[simp] theorem State.setPending_call (s : State) (x : List Instr) : (s.setPending x).call = s.call := rfl
@[simp] theorem State.setPending_toll (s : State) (x : List Instr) : (s.setPending x).toll = s.toll := rfl
@[simp] theorem State.setPending_plates (s : State) (x : List Instr) : (s.setPending x).plates = s.plates := rfl
@[simp] theorem State.setPending_signs (s : State) (x : List Instr) : (s.setPending x).signs = s.signs := rfl
@[simp] theorem State.setPending_brightness (s : State) (x : List Instr) : (s.setPending x).brightness = s.brightness := rfl
@[simp] theorem State.setPending_responses (s : State) (x : List Instr) : (s.setPending x).responses = s.responses := rfl
@[simp] theorem State.setPending_weather (s : State) (x : List Instr) : (s.setPending x).weather = s.weather := rfl
@[simp] theorem State.setPending_ports (s : State) (x : List Instr) : (s.setPending x).ports = s.ports := rfl
@[simp] theorem State.setPending_rx (s : State) (x : List Instr) : (s.setPending x).rx = s.rx := rfl
@[simp] theorem State.setPending_portCounts (s : State) (x : List Instr) : (s.setPending x).portCounts = s.portCounts := rfl
@[simp] theorem State.setPending_centre (s : State) (x : List Instr) : (s.setPending x).centre = s.centre := rfl
@[simp] theorem State.setPending_now (s : State) (x : List Instr) : (s.setPending x).now = s.now := rfl
@[simp] theorem State.setPending_fold (s : State) (x : List Instr) : (s.setPending x).fold = s.fold := rfl
@[simp] theorem State.setPending_own (s : State) (x : List Instr) : (s.setPending x).own = s.own := rfl
@[simp] theorem State.setPending_ownByte (s : State) (x : List Instr) : (s.setPending x).ownByte = s.ownByte := rfl
@[simp] theorem State.setPending_phase (s : State) (x : List Instr) : (s.setPending x).phase = s.phase := rfl
@[simp] theorem State.setPending_profile (s : State) (x : List Instr) (p : Port) : (s.setPending x).profile p = s.profile p := rfl
@[simp] theorem State.setPending_portOf (s : State) (x : List Instr) (k : Profile) : (s.setPending x).portOf k = s.portOf k := rfl
@[simp] theorem State.setPending_isCentre (s : State) (x : List Instr) : (s.setPending x).isCentre = s.isCentre := rfl
@[simp] theorem State.setPending_inService (s : State) (x : List Instr) (p : Port) : (s.setPending x).inService p = s.inService p := rfl
@[simp] theorem State.setPending_heardOf (s : State) (x : List Instr) (n : Nat) : (s.setPending x).heardOf n = s.heardOf n := rfl
@[simp] theorem State.setPending_centreHeard (s : State) (x : List Instr) (n : Nat) : (s.setPending x).centreHeard n = s.centreHeard n := rfl
@[simp] theorem State.setPending_selectedCentre (s : State) (x : List Instr) : (s.setPending x).selectedCentre = s.selectedCentre := rfl
@[simp] theorem State.setPending_tollCentre (s : State) (x : List Instr) : (s.setPending x).tollCentre = s.tollCentre := rfl
@[simp] theorem State.setPending_groupMask (s : State) (x : List Instr) (g : Fin 32) : (s.setPending x).groupMask g = s.groupMask g := rfl

/-! setClock -/

@[simp] theorem State.setClock_pending (s : State) (x : Clock) : (s.setClock x).pending = s.pending := rfl
@[simp] theorem State.setClock_clock (s : State) (x : Clock) : (s.setClock x).clock = x := rfl
@[simp] theorem State.setClock_straps (s : State) (x : Clock) : (s.setClock x).straps = s.straps := rfl
@[simp] theorem State.setClock_lines (s : State) (x : Clock) : (s.setClock x).lines = s.lines := rfl
@[simp] theorem State.setClock_tx (s : State) (x : Clock) : (s.setClock x).tx = s.tx := rfl
@[simp] theorem State.setClock_ring (s : State) (x : Clock) : (s.setClock x).ring = s.ring := rfl
@[simp] theorem State.setClock_station (s : State) (x : Clock) : (s.setClock x).station = s.station := rfl
@[simp] theorem State.setClock_call (s : State) (x : Clock) : (s.setClock x).call = s.call := rfl
@[simp] theorem State.setClock_toll (s : State) (x : Clock) : (s.setClock x).toll = s.toll := rfl
@[simp] theorem State.setClock_plates (s : State) (x : Clock) : (s.setClock x).plates = s.plates := rfl
@[simp] theorem State.setClock_signs (s : State) (x : Clock) : (s.setClock x).signs = s.signs := rfl
@[simp] theorem State.setClock_brightness (s : State) (x : Clock) : (s.setClock x).brightness = s.brightness := rfl
@[simp] theorem State.setClock_responses (s : State) (x : Clock) : (s.setClock x).responses = s.responses := rfl
@[simp] theorem State.setClock_weather (s : State) (x : Clock) : (s.setClock x).weather = s.weather := rfl
@[simp] theorem State.setClock_ports (s : State) (x : Clock) : (s.setClock x).ports = s.ports := rfl
@[simp] theorem State.setClock_rx (s : State) (x : Clock) : (s.setClock x).rx = s.rx := rfl
@[simp] theorem State.setClock_portCounts (s : State) (x : Clock) : (s.setClock x).portCounts = s.portCounts := rfl
@[simp] theorem State.setClock_centre (s : State) (x : Clock) : (s.setClock x).centre = s.centre := rfl
@[simp] theorem State.setClock_fold (s : State) (x : Clock) : (s.setClock x).fold = s.fold := rfl
@[simp] theorem State.setClock_own (s : State) (x : Clock) : (s.setClock x).own = s.own := rfl
@[simp] theorem State.setClock_ownByte (s : State) (x : Clock) : (s.setClock x).ownByte = s.ownByte := rfl
@[simp] theorem State.setClock_phase (s : State) (x : Clock) : (s.setClock x).phase = s.phase := rfl
@[simp] theorem State.setClock_profile (s : State) (x : Clock) (p : Port) : (s.setClock x).profile p = s.profile p := rfl
@[simp] theorem State.setClock_portOf (s : State) (x : Clock) (k : Profile) : (s.setClock x).portOf k = s.portOf k := rfl
@[simp] theorem State.setClock_isCentre (s : State) (x : Clock) : (s.setClock x).isCentre = s.isCentre := rfl
@[simp] theorem State.setClock_inService (s : State) (x : Clock) (p : Port) : (s.setClock x).inService p = s.inService p := rfl
@[simp] theorem State.setClock_heardOf (s : State) (x : Clock) (n : Nat) : (s.setClock x).heardOf n = s.heardOf n := rfl
@[simp] theorem State.setClock_centreHeard (s : State) (x : Clock) (n : Nat) : (s.setClock x).centreHeard n = s.centreHeard n := rfl
@[simp] theorem State.setClock_selectedCentre (s : State) (x : Clock) : (s.setClock x).selectedCentre = s.selectedCentre := rfl
@[simp] theorem State.setClock_tollCentre (s : State) (x : Clock) : (s.setClock x).tollCentre = s.tollCentre := rfl
@[simp] theorem State.setClock_groupMask (s : State) (x : Clock) (g : Fin 32) : (s.setClock x).groupMask g = s.groupMask g := rfl

/-! setLines -/

@[simp] theorem State.setLines_pending (s : State) (x : Both LineUnit) : (s.setLines x).pending = s.pending := rfl
@[simp] theorem State.setLines_clock (s : State) (x : Both LineUnit) : (s.setLines x).clock = s.clock := rfl
@[simp] theorem State.setLines_straps (s : State) (x : Both LineUnit) : (s.setLines x).straps = s.straps := rfl
@[simp] theorem State.setLines_lines (s : State) (x : Both LineUnit) : (s.setLines x).lines = x := rfl
@[simp] theorem State.setLines_tx (s : State) (x : Both LineUnit) : (s.setLines x).tx = s.tx := rfl
@[simp] theorem State.setLines_ring (s : State) (x : Both LineUnit) : (s.setLines x).ring = s.ring := rfl
@[simp] theorem State.setLines_station (s : State) (x : Both LineUnit) : (s.setLines x).station = s.station := rfl
@[simp] theorem State.setLines_call (s : State) (x : Both LineUnit) : (s.setLines x).call = s.call := rfl
@[simp] theorem State.setLines_toll (s : State) (x : Both LineUnit) : (s.setLines x).toll = s.toll := rfl
@[simp] theorem State.setLines_plates (s : State) (x : Both LineUnit) : (s.setLines x).plates = s.plates := rfl
@[simp] theorem State.setLines_signs (s : State) (x : Both LineUnit) : (s.setLines x).signs = s.signs := rfl
@[simp] theorem State.setLines_brightness (s : State) (x : Both LineUnit) : (s.setLines x).brightness = s.brightness := rfl
@[simp] theorem State.setLines_responses (s : State) (x : Both LineUnit) : (s.setLines x).responses = s.responses := rfl
@[simp] theorem State.setLines_weather (s : State) (x : Both LineUnit) : (s.setLines x).weather = s.weather := rfl
@[simp] theorem State.setLines_ports (s : State) (x : Both LineUnit) : (s.setLines x).ports = s.ports := rfl
@[simp] theorem State.setLines_rx (s : State) (x : Both LineUnit) : (s.setLines x).rx = s.rx := rfl
@[simp] theorem State.setLines_portCounts (s : State) (x : Both LineUnit) : (s.setLines x).portCounts = s.portCounts := rfl
@[simp] theorem State.setLines_centre (s : State) (x : Both LineUnit) : (s.setLines x).centre = s.centre := rfl
@[simp] theorem State.setLines_now (s : State) (x : Both LineUnit) : (s.setLines x).now = s.now := rfl
@[simp] theorem State.setLines_own (s : State) (x : Both LineUnit) : (s.setLines x).own = s.own := rfl
@[simp] theorem State.setLines_ownByte (s : State) (x : Both LineUnit) : (s.setLines x).ownByte = s.ownByte := rfl
@[simp] theorem State.setLines_phase (s : State) (x : Both LineUnit) : (s.setLines x).phase = s.phase := rfl
@[simp] theorem State.setLines_profile (s : State) (x : Both LineUnit) (p : Port) : (s.setLines x).profile p = s.profile p := rfl
@[simp] theorem State.setLines_portOf (s : State) (x : Both LineUnit) (k : Profile) : (s.setLines x).portOf k = s.portOf k := rfl
@[simp] theorem State.setLines_isCentre (s : State) (x : Both LineUnit) : (s.setLines x).isCentre = s.isCentre := rfl
@[simp] theorem State.setLines_inService (s : State) (x : Both LineUnit) (p : Port) : (s.setLines x).inService p = s.inService p := rfl
@[simp] theorem State.setLines_heardOf (s : State) (x : Both LineUnit) (n : Nat) : (s.setLines x).heardOf n = s.heardOf n := rfl
@[simp] theorem State.setLines_centreHeard (s : State) (x : Both LineUnit) (n : Nat) : (s.setLines x).centreHeard n = s.centreHeard n := rfl
@[simp] theorem State.setLines_selectedCentre (s : State) (x : Both LineUnit) : (s.setLines x).selectedCentre = s.selectedCentre := rfl
@[simp] theorem State.setLines_tollCentre (s : State) (x : Both LineUnit) : (s.setLines x).tollCentre = s.tollCentre := rfl
@[simp] theorem State.setLines_groupMask (s : State) (x : Both LineUnit) (g : Fin 32) : (s.setLines x).groupMask g = s.groupMask g := rfl

/-! setTx -/

@[simp] theorem State.setTx_pending (s : State) (x : Both Transmitter) : (s.setTx x).pending = s.pending := rfl
@[simp] theorem State.setTx_clock (s : State) (x : Both Transmitter) : (s.setTx x).clock = s.clock := rfl
@[simp] theorem State.setTx_straps (s : State) (x : Both Transmitter) : (s.setTx x).straps = s.straps := rfl
@[simp] theorem State.setTx_lines (s : State) (x : Both Transmitter) : (s.setTx x).lines = s.lines := rfl
@[simp] theorem State.setTx_tx (s : State) (x : Both Transmitter) : (s.setTx x).tx = x := rfl
@[simp] theorem State.setTx_ring (s : State) (x : Both Transmitter) : (s.setTx x).ring = s.ring := rfl
@[simp] theorem State.setTx_station (s : State) (x : Both Transmitter) : (s.setTx x).station = s.station := rfl
@[simp] theorem State.setTx_call (s : State) (x : Both Transmitter) : (s.setTx x).call = s.call := rfl
@[simp] theorem State.setTx_toll (s : State) (x : Both Transmitter) : (s.setTx x).toll = s.toll := rfl
@[simp] theorem State.setTx_plates (s : State) (x : Both Transmitter) : (s.setTx x).plates = s.plates := rfl
@[simp] theorem State.setTx_signs (s : State) (x : Both Transmitter) : (s.setTx x).signs = s.signs := rfl
@[simp] theorem State.setTx_brightness (s : State) (x : Both Transmitter) : (s.setTx x).brightness = s.brightness := rfl
@[simp] theorem State.setTx_responses (s : State) (x : Both Transmitter) : (s.setTx x).responses = s.responses := rfl
@[simp] theorem State.setTx_weather (s : State) (x : Both Transmitter) : (s.setTx x).weather = s.weather := rfl
@[simp] theorem State.setTx_ports (s : State) (x : Both Transmitter) : (s.setTx x).ports = s.ports := rfl
@[simp] theorem State.setTx_rx (s : State) (x : Both Transmitter) : (s.setTx x).rx = s.rx := rfl
@[simp] theorem State.setTx_portCounts (s : State) (x : Both Transmitter) : (s.setTx x).portCounts = s.portCounts := rfl
@[simp] theorem State.setTx_centre (s : State) (x : Both Transmitter) : (s.setTx x).centre = s.centre := rfl
@[simp] theorem State.setTx_now (s : State) (x : Both Transmitter) : (s.setTx x).now = s.now := rfl
@[simp] theorem State.setTx_fold (s : State) (x : Both Transmitter) : (s.setTx x).fold = s.fold := rfl
@[simp] theorem State.setTx_own (s : State) (x : Both Transmitter) : (s.setTx x).own = s.own := rfl
@[simp] theorem State.setTx_ownByte (s : State) (x : Both Transmitter) : (s.setTx x).ownByte = s.ownByte := rfl
@[simp] theorem State.setTx_phase (s : State) (x : Both Transmitter) : (s.setTx x).phase = s.phase := rfl
@[simp] theorem State.setTx_profile (s : State) (x : Both Transmitter) (p : Port) : (s.setTx x).profile p = s.profile p := rfl
@[simp] theorem State.setTx_portOf (s : State) (x : Both Transmitter) (k : Profile) : (s.setTx x).portOf k = s.portOf k := rfl
@[simp] theorem State.setTx_isCentre (s : State) (x : Both Transmitter) : (s.setTx x).isCentre = s.isCentre := rfl
@[simp] theorem State.setTx_inService (s : State) (x : Both Transmitter) (p : Port) : (s.setTx x).inService p = s.inService p := rfl
@[simp] theorem State.setTx_heardOf (s : State) (x : Both Transmitter) (n : Nat) : (s.setTx x).heardOf n = s.heardOf n := rfl
@[simp] theorem State.setTx_centreHeard (s : State) (x : Both Transmitter) (n : Nat) : (s.setTx x).centreHeard n = s.centreHeard n := rfl
@[simp] theorem State.setTx_selectedCentre (s : State) (x : Both Transmitter) : (s.setTx x).selectedCentre = s.selectedCentre := rfl
@[simp] theorem State.setTx_tollCentre (s : State) (x : Both Transmitter) : (s.setTx x).tollCentre = s.tollCentre := rfl
@[simp] theorem State.setTx_groupMask (s : State) (x : Both Transmitter) (g : Fin 32) : (s.setTx x).groupMask g = s.groupMask g := rfl

/-! setRing -/

@[simp] theorem State.setRing_pending (s : State) (x : RingCounters) : (s.setRing x).pending = s.pending := rfl
@[simp] theorem State.setRing_clock (s : State) (x : RingCounters) : (s.setRing x).clock = s.clock := rfl
@[simp] theorem State.setRing_straps (s : State) (x : RingCounters) : (s.setRing x).straps = s.straps := rfl
@[simp] theorem State.setRing_lines (s : State) (x : RingCounters) : (s.setRing x).lines = s.lines := rfl
@[simp] theorem State.setRing_tx (s : State) (x : RingCounters) : (s.setRing x).tx = s.tx := rfl
@[simp] theorem State.setRing_ring (s : State) (x : RingCounters) : (s.setRing x).ring = x := rfl
@[simp] theorem State.setRing_station (s : State) (x : RingCounters) : (s.setRing x).station = s.station := rfl
@[simp] theorem State.setRing_call (s : State) (x : RingCounters) : (s.setRing x).call = s.call := rfl
@[simp] theorem State.setRing_toll (s : State) (x : RingCounters) : (s.setRing x).toll = s.toll := rfl
@[simp] theorem State.setRing_plates (s : State) (x : RingCounters) : (s.setRing x).plates = s.plates := rfl
@[simp] theorem State.setRing_signs (s : State) (x : RingCounters) : (s.setRing x).signs = s.signs := rfl
@[simp] theorem State.setRing_brightness (s : State) (x : RingCounters) : (s.setRing x).brightness = s.brightness := rfl
@[simp] theorem State.setRing_responses (s : State) (x : RingCounters) : (s.setRing x).responses = s.responses := rfl
@[simp] theorem State.setRing_weather (s : State) (x : RingCounters) : (s.setRing x).weather = s.weather := rfl
@[simp] theorem State.setRing_ports (s : State) (x : RingCounters) : (s.setRing x).ports = s.ports := rfl
@[simp] theorem State.setRing_rx (s : State) (x : RingCounters) : (s.setRing x).rx = s.rx := rfl
@[simp] theorem State.setRing_portCounts (s : State) (x : RingCounters) : (s.setRing x).portCounts = s.portCounts := rfl
@[simp] theorem State.setRing_centre (s : State) (x : RingCounters) : (s.setRing x).centre = s.centre := rfl
@[simp] theorem State.setRing_now (s : State) (x : RingCounters) : (s.setRing x).now = s.now := rfl
@[simp] theorem State.setRing_fold (s : State) (x : RingCounters) : (s.setRing x).fold = s.fold := rfl
@[simp] theorem State.setRing_own (s : State) (x : RingCounters) : (s.setRing x).own = s.own := rfl
@[simp] theorem State.setRing_ownByte (s : State) (x : RingCounters) : (s.setRing x).ownByte = s.ownByte := rfl
@[simp] theorem State.setRing_phase (s : State) (x : RingCounters) : (s.setRing x).phase = s.phase := rfl
@[simp] theorem State.setRing_profile (s : State) (x : RingCounters) (p : Port) : (s.setRing x).profile p = s.profile p := rfl
@[simp] theorem State.setRing_portOf (s : State) (x : RingCounters) (k : Profile) : (s.setRing x).portOf k = s.portOf k := rfl
@[simp] theorem State.setRing_isCentre (s : State) (x : RingCounters) : (s.setRing x).isCentre = s.isCentre := rfl
@[simp] theorem State.setRing_inService (s : State) (x : RingCounters) (p : Port) : (s.setRing x).inService p = s.inService p := rfl
@[simp] theorem State.setRing_heardOf (s : State) (x : RingCounters) (n : Nat) : (s.setRing x).heardOf n = s.heardOf n := rfl
@[simp] theorem State.setRing_centreHeard (s : State) (x : RingCounters) (n : Nat) : (s.setRing x).centreHeard n = s.centreHeard n := rfl
@[simp] theorem State.setRing_selectedCentre (s : State) (x : RingCounters) : (s.setRing x).selectedCentre = s.selectedCentre := rfl
@[simp] theorem State.setRing_tollCentre (s : State) (x : RingCounters) : (s.setRing x).tollCentre = s.tollCentre := rfl
@[simp] theorem State.setRing_groupMask (s : State) (x : RingCounters) (g : Fin 32) : (s.setRing x).groupMask g = s.groupMask g := rfl

/-! setStation -/

@[simp] theorem State.setStation_pending (s : State) (x : Station) : (s.setStation x).pending = s.pending := rfl
@[simp] theorem State.setStation_clock (s : State) (x : Station) : (s.setStation x).clock = s.clock := rfl
@[simp] theorem State.setStation_straps (s : State) (x : Station) : (s.setStation x).straps = s.straps := rfl
@[simp] theorem State.setStation_lines (s : State) (x : Station) : (s.setStation x).lines = s.lines := rfl
@[simp] theorem State.setStation_tx (s : State) (x : Station) : (s.setStation x).tx = s.tx := rfl
@[simp] theorem State.setStation_ring (s : State) (x : Station) : (s.setStation x).ring = s.ring := rfl
@[simp] theorem State.setStation_station (s : State) (x : Station) : (s.setStation x).station = x := rfl
@[simp] theorem State.setStation_call (s : State) (x : Station) : (s.setStation x).call = s.call := rfl
@[simp] theorem State.setStation_toll (s : State) (x : Station) : (s.setStation x).toll = s.toll := rfl
@[simp] theorem State.setStation_plates (s : State) (x : Station) : (s.setStation x).plates = s.plates := rfl
@[simp] theorem State.setStation_signs (s : State) (x : Station) : (s.setStation x).signs = s.signs := rfl
@[simp] theorem State.setStation_brightness (s : State) (x : Station) : (s.setStation x).brightness = s.brightness := rfl
@[simp] theorem State.setStation_responses (s : State) (x : Station) : (s.setStation x).responses = s.responses := rfl
@[simp] theorem State.setStation_weather (s : State) (x : Station) : (s.setStation x).weather = s.weather := rfl
@[simp] theorem State.setStation_ports (s : State) (x : Station) : (s.setStation x).ports = s.ports := rfl
@[simp] theorem State.setStation_rx (s : State) (x : Station) : (s.setStation x).rx = s.rx := rfl
@[simp] theorem State.setStation_portCounts (s : State) (x : Station) : (s.setStation x).portCounts = s.portCounts := rfl
@[simp] theorem State.setStation_centre (s : State) (x : Station) : (s.setStation x).centre = s.centre := rfl
@[simp] theorem State.setStation_now (s : State) (x : Station) : (s.setStation x).now = s.now := rfl
@[simp] theorem State.setStation_fold (s : State) (x : Station) : (s.setStation x).fold = s.fold := rfl
@[simp] theorem State.setStation_own (s : State) (x : Station) : (s.setStation x).own = s.own := rfl
@[simp] theorem State.setStation_ownByte (s : State) (x : Station) : (s.setStation x).ownByte = s.ownByte := rfl
@[simp] theorem State.setStation_profile (s : State) (x : Station) (p : Port) : (s.setStation x).profile p = s.profile p := rfl
@[simp] theorem State.setStation_portOf (s : State) (x : Station) (k : Profile) : (s.setStation x).portOf k = s.portOf k := rfl
@[simp] theorem State.setStation_isCentre (s : State) (x : Station) : (s.setStation x).isCentre = s.isCentre := rfl
@[simp] theorem State.setStation_inService (s : State) (x : Station) (p : Port) : (s.setStation x).inService p = s.inService p := rfl

/-! setCall -/

@[simp] theorem State.setCall_pending (s : State) (x : CallUnit) : (s.setCall x).pending = s.pending := rfl
@[simp] theorem State.setCall_clock (s : State) (x : CallUnit) : (s.setCall x).clock = s.clock := rfl
@[simp] theorem State.setCall_straps (s : State) (x : CallUnit) : (s.setCall x).straps = s.straps := rfl
@[simp] theorem State.setCall_lines (s : State) (x : CallUnit) : (s.setCall x).lines = s.lines := rfl
@[simp] theorem State.setCall_tx (s : State) (x : CallUnit) : (s.setCall x).tx = s.tx := rfl
@[simp] theorem State.setCall_ring (s : State) (x : CallUnit) : (s.setCall x).ring = s.ring := rfl
@[simp] theorem State.setCall_station (s : State) (x : CallUnit) : (s.setCall x).station = s.station := rfl
@[simp] theorem State.setCall_call (s : State) (x : CallUnit) : (s.setCall x).call = x := rfl
@[simp] theorem State.setCall_toll (s : State) (x : CallUnit) : (s.setCall x).toll = s.toll := rfl
@[simp] theorem State.setCall_plates (s : State) (x : CallUnit) : (s.setCall x).plates = s.plates := rfl
@[simp] theorem State.setCall_signs (s : State) (x : CallUnit) : (s.setCall x).signs = s.signs := rfl
@[simp] theorem State.setCall_brightness (s : State) (x : CallUnit) : (s.setCall x).brightness = s.brightness := rfl
@[simp] theorem State.setCall_responses (s : State) (x : CallUnit) : (s.setCall x).responses = s.responses := rfl
@[simp] theorem State.setCall_weather (s : State) (x : CallUnit) : (s.setCall x).weather = s.weather := rfl
@[simp] theorem State.setCall_ports (s : State) (x : CallUnit) : (s.setCall x).ports = s.ports := rfl
@[simp] theorem State.setCall_rx (s : State) (x : CallUnit) : (s.setCall x).rx = s.rx := rfl
@[simp] theorem State.setCall_portCounts (s : State) (x : CallUnit) : (s.setCall x).portCounts = s.portCounts := rfl
@[simp] theorem State.setCall_centre (s : State) (x : CallUnit) : (s.setCall x).centre = s.centre := rfl
@[simp] theorem State.setCall_now (s : State) (x : CallUnit) : (s.setCall x).now = s.now := rfl
@[simp] theorem State.setCall_fold (s : State) (x : CallUnit) : (s.setCall x).fold = s.fold := rfl
@[simp] theorem State.setCall_own (s : State) (x : CallUnit) : (s.setCall x).own = s.own := rfl
@[simp] theorem State.setCall_ownByte (s : State) (x : CallUnit) : (s.setCall x).ownByte = s.ownByte := rfl
@[simp] theorem State.setCall_phase (s : State) (x : CallUnit) : (s.setCall x).phase = s.phase := rfl
@[simp] theorem State.setCall_profile (s : State) (x : CallUnit) (p : Port) : (s.setCall x).profile p = s.profile p := rfl
@[simp] theorem State.setCall_portOf (s : State) (x : CallUnit) (k : Profile) : (s.setCall x).portOf k = s.portOf k := rfl
@[simp] theorem State.setCall_isCentre (s : State) (x : CallUnit) : (s.setCall x).isCentre = s.isCentre := rfl
@[simp] theorem State.setCall_inService (s : State) (x : CallUnit) (p : Port) : (s.setCall x).inService p = s.inService p := rfl
@[simp] theorem State.setCall_heardOf (s : State) (x : CallUnit) (n : Nat) : (s.setCall x).heardOf n = s.heardOf n := rfl
@[simp] theorem State.setCall_centreHeard (s : State) (x : CallUnit) (n : Nat) : (s.setCall x).centreHeard n = s.centreHeard n := rfl
@[simp] theorem State.setCall_selectedCentre (s : State) (x : CallUnit) : (s.setCall x).selectedCentre = s.selectedCentre := rfl
@[simp] theorem State.setCall_tollCentre (s : State) (x : CallUnit) : (s.setCall x).tollCentre = s.tollCentre := rfl
@[simp] theorem State.setCall_groupMask (s : State) (x : CallUnit) (g : Fin 32) : (s.setCall x).groupMask g = s.groupMask g := rfl

/-! setToll -/

@[simp] theorem State.setToll_pending (s : State) (x : TollUnit) : (s.setToll x).pending = s.pending := rfl
@[simp] theorem State.setToll_clock (s : State) (x : TollUnit) : (s.setToll x).clock = s.clock := rfl
@[simp] theorem State.setToll_straps (s : State) (x : TollUnit) : (s.setToll x).straps = s.straps := rfl
@[simp] theorem State.setToll_lines (s : State) (x : TollUnit) : (s.setToll x).lines = s.lines := rfl
@[simp] theorem State.setToll_tx (s : State) (x : TollUnit) : (s.setToll x).tx = s.tx := rfl
@[simp] theorem State.setToll_ring (s : State) (x : TollUnit) : (s.setToll x).ring = s.ring := rfl
@[simp] theorem State.setToll_station (s : State) (x : TollUnit) : (s.setToll x).station = s.station := rfl
@[simp] theorem State.setToll_call (s : State) (x : TollUnit) : (s.setToll x).call = s.call := rfl
@[simp] theorem State.setToll_toll (s : State) (x : TollUnit) : (s.setToll x).toll = x := rfl
@[simp] theorem State.setToll_plates (s : State) (x : TollUnit) : (s.setToll x).plates = s.plates := rfl
@[simp] theorem State.setToll_signs (s : State) (x : TollUnit) : (s.setToll x).signs = s.signs := rfl
@[simp] theorem State.setToll_brightness (s : State) (x : TollUnit) : (s.setToll x).brightness = s.brightness := rfl
@[simp] theorem State.setToll_responses (s : State) (x : TollUnit) : (s.setToll x).responses = s.responses := rfl
@[simp] theorem State.setToll_weather (s : State) (x : TollUnit) : (s.setToll x).weather = s.weather := rfl
@[simp] theorem State.setToll_ports (s : State) (x : TollUnit) : (s.setToll x).ports = s.ports := rfl
@[simp] theorem State.setToll_rx (s : State) (x : TollUnit) : (s.setToll x).rx = s.rx := rfl
@[simp] theorem State.setToll_portCounts (s : State) (x : TollUnit) : (s.setToll x).portCounts = s.portCounts := rfl
@[simp] theorem State.setToll_centre (s : State) (x : TollUnit) : (s.setToll x).centre = s.centre := rfl
@[simp] theorem State.setToll_now (s : State) (x : TollUnit) : (s.setToll x).now = s.now := rfl
@[simp] theorem State.setToll_fold (s : State) (x : TollUnit) : (s.setToll x).fold = s.fold := rfl
@[simp] theorem State.setToll_own (s : State) (x : TollUnit) : (s.setToll x).own = s.own := rfl
@[simp] theorem State.setToll_ownByte (s : State) (x : TollUnit) : (s.setToll x).ownByte = s.ownByte := rfl
@[simp] theorem State.setToll_phase (s : State) (x : TollUnit) : (s.setToll x).phase = s.phase := rfl
@[simp] theorem State.setToll_profile (s : State) (x : TollUnit) (p : Port) : (s.setToll x).profile p = s.profile p := rfl
@[simp] theorem State.setToll_portOf (s : State) (x : TollUnit) (k : Profile) : (s.setToll x).portOf k = s.portOf k := rfl
@[simp] theorem State.setToll_isCentre (s : State) (x : TollUnit) : (s.setToll x).isCentre = s.isCentre := rfl
@[simp] theorem State.setToll_inService (s : State) (x : TollUnit) (p : Port) : (s.setToll x).inService p = s.inService p := rfl
@[simp] theorem State.setToll_heardOf (s : State) (x : TollUnit) (n : Nat) : (s.setToll x).heardOf n = s.heardOf n := rfl
@[simp] theorem State.setToll_centreHeard (s : State) (x : TollUnit) (n : Nat) : (s.setToll x).centreHeard n = s.centreHeard n := rfl
@[simp] theorem State.setToll_selectedCentre (s : State) (x : TollUnit) : (s.setToll x).selectedCentre = s.selectedCentre := rfl
@[simp] theorem State.setToll_tollCentre (s : State) (x : TollUnit) : (s.setToll x).tollCentre = s.tollCentre := rfl
@[simp] theorem State.setToll_groupMask (s : State) (x : TollUnit) (g : Fin 32) : (s.setToll x).groupMask g = s.groupMask g := rfl

/-! setPlates -/

@[simp] theorem State.setPlates_pending (s : State) (x : PlateStore) : (s.setPlates x).pending = s.pending := rfl
@[simp] theorem State.setPlates_clock (s : State) (x : PlateStore) : (s.setPlates x).clock = s.clock := rfl
@[simp] theorem State.setPlates_straps (s : State) (x : PlateStore) : (s.setPlates x).straps = s.straps := rfl
@[simp] theorem State.setPlates_lines (s : State) (x : PlateStore) : (s.setPlates x).lines = s.lines := rfl
@[simp] theorem State.setPlates_tx (s : State) (x : PlateStore) : (s.setPlates x).tx = s.tx := rfl
@[simp] theorem State.setPlates_ring (s : State) (x : PlateStore) : (s.setPlates x).ring = s.ring := rfl
@[simp] theorem State.setPlates_station (s : State) (x : PlateStore) : (s.setPlates x).station = s.station := rfl
@[simp] theorem State.setPlates_call (s : State) (x : PlateStore) : (s.setPlates x).call = s.call := rfl
@[simp] theorem State.setPlates_toll (s : State) (x : PlateStore) : (s.setPlates x).toll = s.toll := rfl
@[simp] theorem State.setPlates_plates (s : State) (x : PlateStore) : (s.setPlates x).plates = x := rfl
@[simp] theorem State.setPlates_signs (s : State) (x : PlateStore) : (s.setPlates x).signs = s.signs := rfl
@[simp] theorem State.setPlates_brightness (s : State) (x : PlateStore) : (s.setPlates x).brightness = s.brightness := rfl
@[simp] theorem State.setPlates_responses (s : State) (x : PlateStore) : (s.setPlates x).responses = s.responses := rfl
@[simp] theorem State.setPlates_weather (s : State) (x : PlateStore) : (s.setPlates x).weather = s.weather := rfl
@[simp] theorem State.setPlates_ports (s : State) (x : PlateStore) : (s.setPlates x).ports = s.ports := rfl
@[simp] theorem State.setPlates_rx (s : State) (x : PlateStore) : (s.setPlates x).rx = s.rx := rfl
@[simp] theorem State.setPlates_portCounts (s : State) (x : PlateStore) : (s.setPlates x).portCounts = s.portCounts := rfl
@[simp] theorem State.setPlates_centre (s : State) (x : PlateStore) : (s.setPlates x).centre = s.centre := rfl
@[simp] theorem State.setPlates_now (s : State) (x : PlateStore) : (s.setPlates x).now = s.now := rfl
@[simp] theorem State.setPlates_fold (s : State) (x : PlateStore) : (s.setPlates x).fold = s.fold := rfl
@[simp] theorem State.setPlates_own (s : State) (x : PlateStore) : (s.setPlates x).own = s.own := rfl
@[simp] theorem State.setPlates_ownByte (s : State) (x : PlateStore) : (s.setPlates x).ownByte = s.ownByte := rfl
@[simp] theorem State.setPlates_phase (s : State) (x : PlateStore) : (s.setPlates x).phase = s.phase := rfl
@[simp] theorem State.setPlates_profile (s : State) (x : PlateStore) (p : Port) : (s.setPlates x).profile p = s.profile p := rfl
@[simp] theorem State.setPlates_portOf (s : State) (x : PlateStore) (k : Profile) : (s.setPlates x).portOf k = s.portOf k := rfl
@[simp] theorem State.setPlates_isCentre (s : State) (x : PlateStore) : (s.setPlates x).isCentre = s.isCentre := rfl
@[simp] theorem State.setPlates_inService (s : State) (x : PlateStore) (p : Port) : (s.setPlates x).inService p = s.inService p := rfl
@[simp] theorem State.setPlates_heardOf (s : State) (x : PlateStore) (n : Nat) : (s.setPlates x).heardOf n = s.heardOf n := rfl
@[simp] theorem State.setPlates_centreHeard (s : State) (x : PlateStore) (n : Nat) : (s.setPlates x).centreHeard n = s.centreHeard n := rfl
@[simp] theorem State.setPlates_selectedCentre (s : State) (x : PlateStore) : (s.setPlates x).selectedCentre = s.selectedCentre := rfl
@[simp] theorem State.setPlates_tollCentre (s : State) (x : PlateStore) : (s.setPlates x).tollCentre = s.tollCentre := rfl
@[simp] theorem State.setPlates_groupMask (s : State) (x : PlateStore) (g : Fin 32) : (s.setPlates x).groupMask g = s.groupMask g := rfl

/-! setSigns -/

@[simp] theorem State.setSigns_pending (s : State) (x : Vector Sign 4) : (s.setSigns x).pending = s.pending := rfl
@[simp] theorem State.setSigns_clock (s : State) (x : Vector Sign 4) : (s.setSigns x).clock = s.clock := rfl
@[simp] theorem State.setSigns_straps (s : State) (x : Vector Sign 4) : (s.setSigns x).straps = s.straps := rfl
@[simp] theorem State.setSigns_lines (s : State) (x : Vector Sign 4) : (s.setSigns x).lines = s.lines := rfl
@[simp] theorem State.setSigns_tx (s : State) (x : Vector Sign 4) : (s.setSigns x).tx = s.tx := rfl
@[simp] theorem State.setSigns_ring (s : State) (x : Vector Sign 4) : (s.setSigns x).ring = s.ring := rfl
@[simp] theorem State.setSigns_station (s : State) (x : Vector Sign 4) : (s.setSigns x).station = s.station := rfl
@[simp] theorem State.setSigns_call (s : State) (x : Vector Sign 4) : (s.setSigns x).call = s.call := rfl
@[simp] theorem State.setSigns_toll (s : State) (x : Vector Sign 4) : (s.setSigns x).toll = s.toll := rfl
@[simp] theorem State.setSigns_plates (s : State) (x : Vector Sign 4) : (s.setSigns x).plates = s.plates := rfl
@[simp] theorem State.setSigns_signs (s : State) (x : Vector Sign 4) : (s.setSigns x).signs = x := rfl
@[simp] theorem State.setSigns_brightness (s : State) (x : Vector Sign 4) : (s.setSigns x).brightness = s.brightness := rfl
@[simp] theorem State.setSigns_responses (s : State) (x : Vector Sign 4) : (s.setSigns x).responses = s.responses := rfl
@[simp] theorem State.setSigns_weather (s : State) (x : Vector Sign 4) : (s.setSigns x).weather = s.weather := rfl
@[simp] theorem State.setSigns_ports (s : State) (x : Vector Sign 4) : (s.setSigns x).ports = s.ports := rfl
@[simp] theorem State.setSigns_rx (s : State) (x : Vector Sign 4) : (s.setSigns x).rx = s.rx := rfl
@[simp] theorem State.setSigns_portCounts (s : State) (x : Vector Sign 4) : (s.setSigns x).portCounts = s.portCounts := rfl
@[simp] theorem State.setSigns_centre (s : State) (x : Vector Sign 4) : (s.setSigns x).centre = s.centre := rfl
@[simp] theorem State.setSigns_now (s : State) (x : Vector Sign 4) : (s.setSigns x).now = s.now := rfl
@[simp] theorem State.setSigns_fold (s : State) (x : Vector Sign 4) : (s.setSigns x).fold = s.fold := rfl
@[simp] theorem State.setSigns_own (s : State) (x : Vector Sign 4) : (s.setSigns x).own = s.own := rfl
@[simp] theorem State.setSigns_ownByte (s : State) (x : Vector Sign 4) : (s.setSigns x).ownByte = s.ownByte := rfl
@[simp] theorem State.setSigns_phase (s : State) (x : Vector Sign 4) : (s.setSigns x).phase = s.phase := rfl
@[simp] theorem State.setSigns_profile (s : State) (x : Vector Sign 4) (p : Port) : (s.setSigns x).profile p = s.profile p := rfl
@[simp] theorem State.setSigns_portOf (s : State) (x : Vector Sign 4) (k : Profile) : (s.setSigns x).portOf k = s.portOf k := rfl
@[simp] theorem State.setSigns_isCentre (s : State) (x : Vector Sign 4) : (s.setSigns x).isCentre = s.isCentre := rfl
@[simp] theorem State.setSigns_inService (s : State) (x : Vector Sign 4) (p : Port) : (s.setSigns x).inService p = s.inService p := rfl
@[simp] theorem State.setSigns_heardOf (s : State) (x : Vector Sign 4) (n : Nat) : (s.setSigns x).heardOf n = s.heardOf n := rfl
@[simp] theorem State.setSigns_centreHeard (s : State) (x : Vector Sign 4) (n : Nat) : (s.setSigns x).centreHeard n = s.centreHeard n := rfl
@[simp] theorem State.setSigns_selectedCentre (s : State) (x : Vector Sign 4) : (s.setSigns x).selectedCentre = s.selectedCentre := rfl
@[simp] theorem State.setSigns_tollCentre (s : State) (x : Vector Sign 4) : (s.setSigns x).tollCentre = s.tollCentre := rfl
@[simp] theorem State.setSigns_groupMask (s : State) (x : Vector Sign 4) (g : Fin 32) : (s.setSigns x).groupMask g = s.groupMask g := rfl

/-! setBrightness -/

@[simp] theorem State.setBrightness_pending (s : State) (x : Nat) : (s.setBrightness x).pending = s.pending := rfl
@[simp] theorem State.setBrightness_clock (s : State) (x : Nat) : (s.setBrightness x).clock = s.clock := rfl
@[simp] theorem State.setBrightness_straps (s : State) (x : Nat) : (s.setBrightness x).straps = s.straps := rfl
@[simp] theorem State.setBrightness_lines (s : State) (x : Nat) : (s.setBrightness x).lines = s.lines := rfl
@[simp] theorem State.setBrightness_tx (s : State) (x : Nat) : (s.setBrightness x).tx = s.tx := rfl
@[simp] theorem State.setBrightness_ring (s : State) (x : Nat) : (s.setBrightness x).ring = s.ring := rfl
@[simp] theorem State.setBrightness_station (s : State) (x : Nat) : (s.setBrightness x).station = s.station := rfl
@[simp] theorem State.setBrightness_call (s : State) (x : Nat) : (s.setBrightness x).call = s.call := rfl
@[simp] theorem State.setBrightness_toll (s : State) (x : Nat) : (s.setBrightness x).toll = s.toll := rfl
@[simp] theorem State.setBrightness_plates (s : State) (x : Nat) : (s.setBrightness x).plates = s.plates := rfl
@[simp] theorem State.setBrightness_signs (s : State) (x : Nat) : (s.setBrightness x).signs = s.signs := rfl
@[simp] theorem State.setBrightness_brightness (s : State) (x : Nat) : (s.setBrightness x).brightness = x := rfl
@[simp] theorem State.setBrightness_responses (s : State) (x : Nat) : (s.setBrightness x).responses = s.responses := rfl
@[simp] theorem State.setBrightness_weather (s : State) (x : Nat) : (s.setBrightness x).weather = s.weather := rfl
@[simp] theorem State.setBrightness_ports (s : State) (x : Nat) : (s.setBrightness x).ports = s.ports := rfl
@[simp] theorem State.setBrightness_rx (s : State) (x : Nat) : (s.setBrightness x).rx = s.rx := rfl
@[simp] theorem State.setBrightness_portCounts (s : State) (x : Nat) : (s.setBrightness x).portCounts = s.portCounts := rfl
@[simp] theorem State.setBrightness_centre (s : State) (x : Nat) : (s.setBrightness x).centre = s.centre := rfl
@[simp] theorem State.setBrightness_now (s : State) (x : Nat) : (s.setBrightness x).now = s.now := rfl
@[simp] theorem State.setBrightness_fold (s : State) (x : Nat) : (s.setBrightness x).fold = s.fold := rfl
@[simp] theorem State.setBrightness_own (s : State) (x : Nat) : (s.setBrightness x).own = s.own := rfl
@[simp] theorem State.setBrightness_ownByte (s : State) (x : Nat) : (s.setBrightness x).ownByte = s.ownByte := rfl
@[simp] theorem State.setBrightness_phase (s : State) (x : Nat) : (s.setBrightness x).phase = s.phase := rfl
@[simp] theorem State.setBrightness_profile (s : State) (x : Nat) (p : Port) : (s.setBrightness x).profile p = s.profile p := rfl
@[simp] theorem State.setBrightness_portOf (s : State) (x : Nat) (k : Profile) : (s.setBrightness x).portOf k = s.portOf k := rfl
@[simp] theorem State.setBrightness_isCentre (s : State) (x : Nat) : (s.setBrightness x).isCentre = s.isCentre := rfl
@[simp] theorem State.setBrightness_inService (s : State) (x : Nat) (p : Port) : (s.setBrightness x).inService p = s.inService p := rfl
@[simp] theorem State.setBrightness_heardOf (s : State) (x : Nat) (n : Nat) : (s.setBrightness x).heardOf n = s.heardOf n := rfl
@[simp] theorem State.setBrightness_centreHeard (s : State) (x : Nat) (n : Nat) : (s.setBrightness x).centreHeard n = s.centreHeard n := rfl
@[simp] theorem State.setBrightness_selectedCentre (s : State) (x : Nat) : (s.setBrightness x).selectedCentre = s.selectedCentre := rfl
@[simp] theorem State.setBrightness_tollCentre (s : State) (x : Nat) : (s.setBrightness x).tollCentre = s.tollCentre := rfl
@[simp] theorem State.setBrightness_groupMask (s : State) (x : Nat) (g : Fin 32) : (s.setBrightness x).groupMask g = s.groupMask g := rfl

/-! setResponses -/

@[simp] theorem State.setResponses_pending (s : State) (x : Vector Response 16) : (s.setResponses x).pending = s.pending := rfl
@[simp] theorem State.setResponses_clock (s : State) (x : Vector Response 16) : (s.setResponses x).clock = s.clock := rfl
@[simp] theorem State.setResponses_straps (s : State) (x : Vector Response 16) : (s.setResponses x).straps = s.straps := rfl
@[simp] theorem State.setResponses_lines (s : State) (x : Vector Response 16) : (s.setResponses x).lines = s.lines := rfl
@[simp] theorem State.setResponses_tx (s : State) (x : Vector Response 16) : (s.setResponses x).tx = s.tx := rfl
@[simp] theorem State.setResponses_ring (s : State) (x : Vector Response 16) : (s.setResponses x).ring = s.ring := rfl
@[simp] theorem State.setResponses_station (s : State) (x : Vector Response 16) : (s.setResponses x).station = s.station := rfl
@[simp] theorem State.setResponses_call (s : State) (x : Vector Response 16) : (s.setResponses x).call = s.call := rfl
@[simp] theorem State.setResponses_toll (s : State) (x : Vector Response 16) : (s.setResponses x).toll = s.toll := rfl
@[simp] theorem State.setResponses_plates (s : State) (x : Vector Response 16) : (s.setResponses x).plates = s.plates := rfl
@[simp] theorem State.setResponses_signs (s : State) (x : Vector Response 16) : (s.setResponses x).signs = s.signs := rfl
@[simp] theorem State.setResponses_brightness (s : State) (x : Vector Response 16) : (s.setResponses x).brightness = s.brightness := rfl
@[simp] theorem State.setResponses_responses (s : State) (x : Vector Response 16) : (s.setResponses x).responses = x := rfl
@[simp] theorem State.setResponses_weather (s : State) (x : Vector Response 16) : (s.setResponses x).weather = s.weather := rfl
@[simp] theorem State.setResponses_ports (s : State) (x : Vector Response 16) : (s.setResponses x).ports = s.ports := rfl
@[simp] theorem State.setResponses_rx (s : State) (x : Vector Response 16) : (s.setResponses x).rx = s.rx := rfl
@[simp] theorem State.setResponses_portCounts (s : State) (x : Vector Response 16) : (s.setResponses x).portCounts = s.portCounts := rfl
@[simp] theorem State.setResponses_centre (s : State) (x : Vector Response 16) : (s.setResponses x).centre = s.centre := rfl
@[simp] theorem State.setResponses_now (s : State) (x : Vector Response 16) : (s.setResponses x).now = s.now := rfl
@[simp] theorem State.setResponses_fold (s : State) (x : Vector Response 16) : (s.setResponses x).fold = s.fold := rfl
@[simp] theorem State.setResponses_own (s : State) (x : Vector Response 16) : (s.setResponses x).own = s.own := rfl
@[simp] theorem State.setResponses_ownByte (s : State) (x : Vector Response 16) : (s.setResponses x).ownByte = s.ownByte := rfl
@[simp] theorem State.setResponses_phase (s : State) (x : Vector Response 16) : (s.setResponses x).phase = s.phase := rfl
@[simp] theorem State.setResponses_profile (s : State) (x : Vector Response 16) (p : Port) : (s.setResponses x).profile p = s.profile p := rfl
@[simp] theorem State.setResponses_portOf (s : State) (x : Vector Response 16) (k : Profile) : (s.setResponses x).portOf k = s.portOf k := rfl
@[simp] theorem State.setResponses_isCentre (s : State) (x : Vector Response 16) : (s.setResponses x).isCentre = s.isCentre := rfl
@[simp] theorem State.setResponses_inService (s : State) (x : Vector Response 16) (p : Port) : (s.setResponses x).inService p = s.inService p := rfl
@[simp] theorem State.setResponses_heardOf (s : State) (x : Vector Response 16) (n : Nat) : (s.setResponses x).heardOf n = s.heardOf n := rfl
@[simp] theorem State.setResponses_centreHeard (s : State) (x : Vector Response 16) (n : Nat) : (s.setResponses x).centreHeard n = s.centreHeard n := rfl
@[simp] theorem State.setResponses_selectedCentre (s : State) (x : Vector Response 16) : (s.setResponses x).selectedCentre = s.selectedCentre := rfl
@[simp] theorem State.setResponses_tollCentre (s : State) (x : Vector Response 16) : (s.setResponses x).tollCentre = s.tollCentre := rfl
@[simp] theorem State.setResponses_groupMask (s : State) (x : Vector Response 16) (g : Fin 32) : (s.setResponses x).groupMask g = s.groupMask g := rfl

/-! setWeather -/

@[simp] theorem State.setWeather_pending (s : State) (x : Weather) : (s.setWeather x).pending = s.pending := rfl
@[simp] theorem State.setWeather_clock (s : State) (x : Weather) : (s.setWeather x).clock = s.clock := rfl
@[simp] theorem State.setWeather_straps (s : State) (x : Weather) : (s.setWeather x).straps = s.straps := rfl
@[simp] theorem State.setWeather_lines (s : State) (x : Weather) : (s.setWeather x).lines = s.lines := rfl
@[simp] theorem State.setWeather_tx (s : State) (x : Weather) : (s.setWeather x).tx = s.tx := rfl
@[simp] theorem State.setWeather_ring (s : State) (x : Weather) : (s.setWeather x).ring = s.ring := rfl
@[simp] theorem State.setWeather_station (s : State) (x : Weather) : (s.setWeather x).station = s.station := rfl
@[simp] theorem State.setWeather_call (s : State) (x : Weather) : (s.setWeather x).call = s.call := rfl
@[simp] theorem State.setWeather_toll (s : State) (x : Weather) : (s.setWeather x).toll = s.toll := rfl
@[simp] theorem State.setWeather_plates (s : State) (x : Weather) : (s.setWeather x).plates = s.plates := rfl
@[simp] theorem State.setWeather_signs (s : State) (x : Weather) : (s.setWeather x).signs = s.signs := rfl
@[simp] theorem State.setWeather_brightness (s : State) (x : Weather) : (s.setWeather x).brightness = s.brightness := rfl
@[simp] theorem State.setWeather_responses (s : State) (x : Weather) : (s.setWeather x).responses = s.responses := rfl
@[simp] theorem State.setWeather_weather (s : State) (x : Weather) : (s.setWeather x).weather = x := rfl
@[simp] theorem State.setWeather_ports (s : State) (x : Weather) : (s.setWeather x).ports = s.ports := rfl
@[simp] theorem State.setWeather_rx (s : State) (x : Weather) : (s.setWeather x).rx = s.rx := rfl
@[simp] theorem State.setWeather_portCounts (s : State) (x : Weather) : (s.setWeather x).portCounts = s.portCounts := rfl
@[simp] theorem State.setWeather_centre (s : State) (x : Weather) : (s.setWeather x).centre = s.centre := rfl
@[simp] theorem State.setWeather_now (s : State) (x : Weather) : (s.setWeather x).now = s.now := rfl
@[simp] theorem State.setWeather_fold (s : State) (x : Weather) : (s.setWeather x).fold = s.fold := rfl
@[simp] theorem State.setWeather_own (s : State) (x : Weather) : (s.setWeather x).own = s.own := rfl
@[simp] theorem State.setWeather_ownByte (s : State) (x : Weather) : (s.setWeather x).ownByte = s.ownByte := rfl
@[simp] theorem State.setWeather_phase (s : State) (x : Weather) : (s.setWeather x).phase = s.phase := rfl
@[simp] theorem State.setWeather_profile (s : State) (x : Weather) (p : Port) : (s.setWeather x).profile p = s.profile p := rfl
@[simp] theorem State.setWeather_portOf (s : State) (x : Weather) (k : Profile) : (s.setWeather x).portOf k = s.portOf k := rfl
@[simp] theorem State.setWeather_isCentre (s : State) (x : Weather) : (s.setWeather x).isCentre = s.isCentre := rfl
@[simp] theorem State.setWeather_inService (s : State) (x : Weather) (p : Port) : (s.setWeather x).inService p = s.inService p := rfl
@[simp] theorem State.setWeather_heardOf (s : State) (x : Weather) (n : Nat) : (s.setWeather x).heardOf n = s.heardOf n := rfl
@[simp] theorem State.setWeather_centreHeard (s : State) (x : Weather) (n : Nat) : (s.setWeather x).centreHeard n = s.centreHeard n := rfl
@[simp] theorem State.setWeather_selectedCentre (s : State) (x : Weather) : (s.setWeather x).selectedCentre = s.selectedCentre := rfl
@[simp] theorem State.setWeather_tollCentre (s : State) (x : Weather) : (s.setWeather x).tollCentre = s.tollCentre := rfl
@[simp] theorem State.setWeather_groupMask (s : State) (x : Weather) (g : Fin 32) : (s.setWeather x).groupMask g = s.groupMask g := rfl

/-! setPorts -/

@[simp] theorem State.setPorts_pending (s : State) (x : Vector PortUnit 4) : (s.setPorts x).pending = s.pending := rfl
@[simp] theorem State.setPorts_clock (s : State) (x : Vector PortUnit 4) : (s.setPorts x).clock = s.clock := rfl
@[simp] theorem State.setPorts_straps (s : State) (x : Vector PortUnit 4) : (s.setPorts x).straps = s.straps := rfl
@[simp] theorem State.setPorts_lines (s : State) (x : Vector PortUnit 4) : (s.setPorts x).lines = s.lines := rfl
@[simp] theorem State.setPorts_tx (s : State) (x : Vector PortUnit 4) : (s.setPorts x).tx = s.tx := rfl
@[simp] theorem State.setPorts_ring (s : State) (x : Vector PortUnit 4) : (s.setPorts x).ring = s.ring := rfl
@[simp] theorem State.setPorts_station (s : State) (x : Vector PortUnit 4) : (s.setPorts x).station = s.station := rfl
@[simp] theorem State.setPorts_call (s : State) (x : Vector PortUnit 4) : (s.setPorts x).call = s.call := rfl
@[simp] theorem State.setPorts_toll (s : State) (x : Vector PortUnit 4) : (s.setPorts x).toll = s.toll := rfl
@[simp] theorem State.setPorts_plates (s : State) (x : Vector PortUnit 4) : (s.setPorts x).plates = s.plates := rfl
@[simp] theorem State.setPorts_signs (s : State) (x : Vector PortUnit 4) : (s.setPorts x).signs = s.signs := rfl
@[simp] theorem State.setPorts_brightness (s : State) (x : Vector PortUnit 4) : (s.setPorts x).brightness = s.brightness := rfl
@[simp] theorem State.setPorts_responses (s : State) (x : Vector PortUnit 4) : (s.setPorts x).responses = s.responses := rfl
@[simp] theorem State.setPorts_weather (s : State) (x : Vector PortUnit 4) : (s.setPorts x).weather = s.weather := rfl
@[simp] theorem State.setPorts_ports (s : State) (x : Vector PortUnit 4) : (s.setPorts x).ports = x := rfl
@[simp] theorem State.setPorts_rx (s : State) (x : Vector PortUnit 4) : (s.setPorts x).rx = s.rx := rfl
@[simp] theorem State.setPorts_portCounts (s : State) (x : Vector PortUnit 4) : (s.setPorts x).portCounts = s.portCounts := rfl
@[simp] theorem State.setPorts_centre (s : State) (x : Vector PortUnit 4) : (s.setPorts x).centre = s.centre := rfl
@[simp] theorem State.setPorts_now (s : State) (x : Vector PortUnit 4) : (s.setPorts x).now = s.now := rfl
@[simp] theorem State.setPorts_fold (s : State) (x : Vector PortUnit 4) : (s.setPorts x).fold = s.fold := rfl
@[simp] theorem State.setPorts_own (s : State) (x : Vector PortUnit 4) : (s.setPorts x).own = s.own := rfl
@[simp] theorem State.setPorts_ownByte (s : State) (x : Vector PortUnit 4) : (s.setPorts x).ownByte = s.ownByte := rfl
@[simp] theorem State.setPorts_phase (s : State) (x : Vector PortUnit 4) : (s.setPorts x).phase = s.phase := rfl
@[simp] theorem State.setPorts_profile (s : State) (x : Vector PortUnit 4) (p : Port) : (s.setPorts x).profile p = s.profile p := rfl
@[simp] theorem State.setPorts_portOf (s : State) (x : Vector PortUnit 4) (k : Profile) : (s.setPorts x).portOf k = s.portOf k := rfl
@[simp] theorem State.setPorts_isCentre (s : State) (x : Vector PortUnit 4) : (s.setPorts x).isCentre = s.isCentre := rfl
@[simp] theorem State.setPorts_heardOf (s : State) (x : Vector PortUnit 4) (n : Nat) : (s.setPorts x).heardOf n = s.heardOf n := rfl
@[simp] theorem State.setPorts_centreHeard (s : State) (x : Vector PortUnit 4) (n : Nat) : (s.setPorts x).centreHeard n = s.centreHeard n := rfl
@[simp] theorem State.setPorts_selectedCentre (s : State) (x : Vector PortUnit 4) : (s.setPorts x).selectedCentre = s.selectedCentre := rfl
@[simp] theorem State.setPorts_tollCentre (s : State) (x : Vector PortUnit 4) : (s.setPorts x).tollCentre = s.tollCentre := rfl
@[simp] theorem State.setPorts_groupMask (s : State) (x : Vector PortUnit 4) (g : Fin 32) : (s.setPorts x).groupMask g = s.groupMask g := rfl

/-! setRx -/

@[simp] theorem State.setRx_pending (s : State) (x : Vector (Option PartFrame) 4) : (s.setRx x).pending = s.pending := rfl
@[simp] theorem State.setRx_clock (s : State) (x : Vector (Option PartFrame) 4) : (s.setRx x).clock = s.clock := rfl
@[simp] theorem State.setRx_straps (s : State) (x : Vector (Option PartFrame) 4) : (s.setRx x).straps = s.straps := rfl
@[simp] theorem State.setRx_lines (s : State) (x : Vector (Option PartFrame) 4) : (s.setRx x).lines = s.lines := rfl
@[simp] theorem State.setRx_tx (s : State) (x : Vector (Option PartFrame) 4) : (s.setRx x).tx = s.tx := rfl
@[simp] theorem State.setRx_ring (s : State) (x : Vector (Option PartFrame) 4) : (s.setRx x).ring = s.ring := rfl
@[simp] theorem State.setRx_station (s : State) (x : Vector (Option PartFrame) 4) : (s.setRx x).station = s.station := rfl
@[simp] theorem State.setRx_call (s : State) (x : Vector (Option PartFrame) 4) : (s.setRx x).call = s.call := rfl
@[simp] theorem State.setRx_toll (s : State) (x : Vector (Option PartFrame) 4) : (s.setRx x).toll = s.toll := rfl
@[simp] theorem State.setRx_plates (s : State) (x : Vector (Option PartFrame) 4) : (s.setRx x).plates = s.plates := rfl
@[simp] theorem State.setRx_signs (s : State) (x : Vector (Option PartFrame) 4) : (s.setRx x).signs = s.signs := rfl
@[simp] theorem State.setRx_brightness (s : State) (x : Vector (Option PartFrame) 4) : (s.setRx x).brightness = s.brightness := rfl
@[simp] theorem State.setRx_responses (s : State) (x : Vector (Option PartFrame) 4) : (s.setRx x).responses = s.responses := rfl
@[simp] theorem State.setRx_weather (s : State) (x : Vector (Option PartFrame) 4) : (s.setRx x).weather = s.weather := rfl
@[simp] theorem State.setRx_ports (s : State) (x : Vector (Option PartFrame) 4) : (s.setRx x).ports = s.ports := rfl
@[simp] theorem State.setRx_rx (s : State) (x : Vector (Option PartFrame) 4) : (s.setRx x).rx = x := rfl
@[simp] theorem State.setRx_portCounts (s : State) (x : Vector (Option PartFrame) 4) : (s.setRx x).portCounts = s.portCounts := rfl
@[simp] theorem State.setRx_centre (s : State) (x : Vector (Option PartFrame) 4) : (s.setRx x).centre = s.centre := rfl
@[simp] theorem State.setRx_now (s : State) (x : Vector (Option PartFrame) 4) : (s.setRx x).now = s.now := rfl
@[simp] theorem State.setRx_fold (s : State) (x : Vector (Option PartFrame) 4) : (s.setRx x).fold = s.fold := rfl
@[simp] theorem State.setRx_own (s : State) (x : Vector (Option PartFrame) 4) : (s.setRx x).own = s.own := rfl
@[simp] theorem State.setRx_ownByte (s : State) (x : Vector (Option PartFrame) 4) : (s.setRx x).ownByte = s.ownByte := rfl
@[simp] theorem State.setRx_phase (s : State) (x : Vector (Option PartFrame) 4) : (s.setRx x).phase = s.phase := rfl
@[simp] theorem State.setRx_profile (s : State) (x : Vector (Option PartFrame) 4) (p : Port) : (s.setRx x).profile p = s.profile p := rfl
@[simp] theorem State.setRx_portOf (s : State) (x : Vector (Option PartFrame) 4) (k : Profile) : (s.setRx x).portOf k = s.portOf k := rfl
@[simp] theorem State.setRx_isCentre (s : State) (x : Vector (Option PartFrame) 4) : (s.setRx x).isCentre = s.isCentre := rfl
@[simp] theorem State.setRx_inService (s : State) (x : Vector (Option PartFrame) 4) (p : Port) : (s.setRx x).inService p = s.inService p := rfl
@[simp] theorem State.setRx_heardOf (s : State) (x : Vector (Option PartFrame) 4) (n : Nat) : (s.setRx x).heardOf n = s.heardOf n := rfl
@[simp] theorem State.setRx_centreHeard (s : State) (x : Vector (Option PartFrame) 4) (n : Nat) : (s.setRx x).centreHeard n = s.centreHeard n := rfl
@[simp] theorem State.setRx_selectedCentre (s : State) (x : Vector (Option PartFrame) 4) : (s.setRx x).selectedCentre = s.selectedCentre := rfl
@[simp] theorem State.setRx_tollCentre (s : State) (x : Vector (Option PartFrame) 4) : (s.setRx x).tollCentre = s.tollCentre := rfl
@[simp] theorem State.setRx_groupMask (s : State) (x : Vector (Option PartFrame) 4) (g : Fin 32) : (s.setRx x).groupMask g = s.groupMask g := rfl

/-! setPortCounts -/

@[simp] theorem State.setPortCounts_pending (s : State) (x : PortCounters) : (s.setPortCounts x).pending = s.pending := rfl
@[simp] theorem State.setPortCounts_clock (s : State) (x : PortCounters) : (s.setPortCounts x).clock = s.clock := rfl
@[simp] theorem State.setPortCounts_straps (s : State) (x : PortCounters) : (s.setPortCounts x).straps = s.straps := rfl
@[simp] theorem State.setPortCounts_lines (s : State) (x : PortCounters) : (s.setPortCounts x).lines = s.lines := rfl
@[simp] theorem State.setPortCounts_tx (s : State) (x : PortCounters) : (s.setPortCounts x).tx = s.tx := rfl
@[simp] theorem State.setPortCounts_ring (s : State) (x : PortCounters) : (s.setPortCounts x).ring = s.ring := rfl
@[simp] theorem State.setPortCounts_station (s : State) (x : PortCounters) : (s.setPortCounts x).station = s.station := rfl
@[simp] theorem State.setPortCounts_call (s : State) (x : PortCounters) : (s.setPortCounts x).call = s.call := rfl
@[simp] theorem State.setPortCounts_toll (s : State) (x : PortCounters) : (s.setPortCounts x).toll = s.toll := rfl
@[simp] theorem State.setPortCounts_plates (s : State) (x : PortCounters) : (s.setPortCounts x).plates = s.plates := rfl
@[simp] theorem State.setPortCounts_signs (s : State) (x : PortCounters) : (s.setPortCounts x).signs = s.signs := rfl
@[simp] theorem State.setPortCounts_brightness (s : State) (x : PortCounters) : (s.setPortCounts x).brightness = s.brightness := rfl
@[simp] theorem State.setPortCounts_responses (s : State) (x : PortCounters) : (s.setPortCounts x).responses = s.responses := rfl
@[simp] theorem State.setPortCounts_weather (s : State) (x : PortCounters) : (s.setPortCounts x).weather = s.weather := rfl
@[simp] theorem State.setPortCounts_ports (s : State) (x : PortCounters) : (s.setPortCounts x).ports = s.ports := rfl
@[simp] theorem State.setPortCounts_rx (s : State) (x : PortCounters) : (s.setPortCounts x).rx = s.rx := rfl
@[simp] theorem State.setPortCounts_portCounts (s : State) (x : PortCounters) : (s.setPortCounts x).portCounts = x := rfl
@[simp] theorem State.setPortCounts_centre (s : State) (x : PortCounters) : (s.setPortCounts x).centre = s.centre := rfl
@[simp] theorem State.setPortCounts_now (s : State) (x : PortCounters) : (s.setPortCounts x).now = s.now := rfl
@[simp] theorem State.setPortCounts_fold (s : State) (x : PortCounters) : (s.setPortCounts x).fold = s.fold := rfl
@[simp] theorem State.setPortCounts_own (s : State) (x : PortCounters) : (s.setPortCounts x).own = s.own := rfl
@[simp] theorem State.setPortCounts_ownByte (s : State) (x : PortCounters) : (s.setPortCounts x).ownByte = s.ownByte := rfl
@[simp] theorem State.setPortCounts_phase (s : State) (x : PortCounters) : (s.setPortCounts x).phase = s.phase := rfl
@[simp] theorem State.setPortCounts_profile (s : State) (x : PortCounters) (p : Port) : (s.setPortCounts x).profile p = s.profile p := rfl
@[simp] theorem State.setPortCounts_portOf (s : State) (x : PortCounters) (k : Profile) : (s.setPortCounts x).portOf k = s.portOf k := rfl
@[simp] theorem State.setPortCounts_isCentre (s : State) (x : PortCounters) : (s.setPortCounts x).isCentre = s.isCentre := rfl
@[simp] theorem State.setPortCounts_inService (s : State) (x : PortCounters) (p : Port) : (s.setPortCounts x).inService p = s.inService p := rfl
@[simp] theorem State.setPortCounts_heardOf (s : State) (x : PortCounters) (n : Nat) : (s.setPortCounts x).heardOf n = s.heardOf n := rfl
@[simp] theorem State.setPortCounts_centreHeard (s : State) (x : PortCounters) (n : Nat) : (s.setPortCounts x).centreHeard n = s.centreHeard n := rfl
@[simp] theorem State.setPortCounts_selectedCentre (s : State) (x : PortCounters) : (s.setPortCounts x).selectedCentre = s.selectedCentre := rfl
@[simp] theorem State.setPortCounts_tollCentre (s : State) (x : PortCounters) : (s.setPortCounts x).tollCentre = s.tollCentre := rfl
@[simp] theorem State.setPortCounts_groupMask (s : State) (x : PortCounters) (g : Fin 32) : (s.setPortCounts x).groupMask g = s.groupMask g := rfl

/-! setCentre -/

@[simp] theorem State.setCentre_pending (s : State) (x : CentrePort) : (s.setCentre x).pending = s.pending := rfl
@[simp] theorem State.setCentre_clock (s : State) (x : CentrePort) : (s.setCentre x).clock = s.clock := rfl
@[simp] theorem State.setCentre_straps (s : State) (x : CentrePort) : (s.setCentre x).straps = s.straps := rfl
@[simp] theorem State.setCentre_lines (s : State) (x : CentrePort) : (s.setCentre x).lines = s.lines := rfl
@[simp] theorem State.setCentre_tx (s : State) (x : CentrePort) : (s.setCentre x).tx = s.tx := rfl
@[simp] theorem State.setCentre_ring (s : State) (x : CentrePort) : (s.setCentre x).ring = s.ring := rfl
@[simp] theorem State.setCentre_station (s : State) (x : CentrePort) : (s.setCentre x).station = s.station := rfl
@[simp] theorem State.setCentre_call (s : State) (x : CentrePort) : (s.setCentre x).call = s.call := rfl
@[simp] theorem State.setCentre_toll (s : State) (x : CentrePort) : (s.setCentre x).toll = s.toll := rfl
@[simp] theorem State.setCentre_plates (s : State) (x : CentrePort) : (s.setCentre x).plates = s.plates := rfl
@[simp] theorem State.setCentre_signs (s : State) (x : CentrePort) : (s.setCentre x).signs = s.signs := rfl
@[simp] theorem State.setCentre_brightness (s : State) (x : CentrePort) : (s.setCentre x).brightness = s.brightness := rfl
@[simp] theorem State.setCentre_responses (s : State) (x : CentrePort) : (s.setCentre x).responses = s.responses := rfl
@[simp] theorem State.setCentre_weather (s : State) (x : CentrePort) : (s.setCentre x).weather = s.weather := rfl
@[simp] theorem State.setCentre_ports (s : State) (x : CentrePort) : (s.setCentre x).ports = s.ports := rfl
@[simp] theorem State.setCentre_rx (s : State) (x : CentrePort) : (s.setCentre x).rx = s.rx := rfl
@[simp] theorem State.setCentre_portCounts (s : State) (x : CentrePort) : (s.setCentre x).portCounts = s.portCounts := rfl
@[simp] theorem State.setCentre_centre (s : State) (x : CentrePort) : (s.setCentre x).centre = x := rfl
@[simp] theorem State.setCentre_now (s : State) (x : CentrePort) : (s.setCentre x).now = s.now := rfl
@[simp] theorem State.setCentre_fold (s : State) (x : CentrePort) : (s.setCentre x).fold = s.fold := rfl
@[simp] theorem State.setCentre_own (s : State) (x : CentrePort) : (s.setCentre x).own = s.own := rfl
@[simp] theorem State.setCentre_ownByte (s : State) (x : CentrePort) : (s.setCentre x).ownByte = s.ownByte := rfl
@[simp] theorem State.setCentre_phase (s : State) (x : CentrePort) : (s.setCentre x).phase = s.phase := rfl
@[simp] theorem State.setCentre_profile (s : State) (x : CentrePort) (p : Port) : (s.setCentre x).profile p = s.profile p := rfl
@[simp] theorem State.setCentre_portOf (s : State) (x : CentrePort) (k : Profile) : (s.setCentre x).portOf k = s.portOf k := rfl
@[simp] theorem State.setCentre_isCentre (s : State) (x : CentrePort) : (s.setCentre x).isCentre = s.isCentre := rfl
@[simp] theorem State.setCentre_inService (s : State) (x : CentrePort) (p : Port) : (s.setCentre x).inService p = s.inService p := rfl
@[simp] theorem State.setCentre_heardOf (s : State) (x : CentrePort) (n : Nat) : (s.setCentre x).heardOf n = s.heardOf n := rfl
@[simp] theorem State.setCentre_centreHeard (s : State) (x : CentrePort) (n : Nat) : (s.setCentre x).centreHeard n = s.centreHeard n := rfl
@[simp] theorem State.setCentre_selectedCentre (s : State) (x : CentrePort) : (s.setCentre x).selectedCentre = s.selectedCentre := rfl
@[simp] theorem State.setCentre_tollCentre (s : State) (x : CentrePort) : (s.setCentre x).tollCentre = s.tollCentre := rfl
@[simp] theorem State.setCentre_groupMask (s : State) (x : CentrePort) (g : Fin 32) : (s.setCentre x).groupMask g = s.groupMask g := rfl

/-! Pairs by line -/

@[simp] theorem Both.get_set_same {α : Type} (b : Both α) (l : Line) (x : α) : (b.set l x).get l = x := by
  cases l <;> rfl

theorem Both.get_set_other {α : Type} (b : Both α) (l k : Line) (x : α) (h : k ≠ l) : (b.set l x).get k = b.get k := by
  cases l <;> cases k <;> first | rfl | exact absurd rfl h

@[simp] theorem Queues.get_set_same (q : Queues) (k : CellClass) (x : List Cell) : (q.set k x).get k = x := by
  cases k <;> rfl

theorem Queues.get_set_other (q : Queues) (k j : CellClass) (x : List Cell) (h : j ≠ k) :
    (q.set k x).get j = q.get j := by
  cases k <;> cases j <;> first | rfl | exact absurd rfl h

end Sys2Proof.Machine
end

