-- ==== Sys2Proof/Laws/FrameOps.lean ====
section
/-! SUPPORT. For each operation of the shared operations: which parts of the state it may change
(`SameBut`). -/

namespace Sys2Proof.Machine

/-- Every part of the first list is in the second. -/
def covers (qs ps : List Part) : Bool := qs.all (fun x => ps.contains x)

theorem mem_of_covers {qs ps : List Part} (h : covers qs ps = true) {x : Part} (hx : x ∈ qs) : x ∈ ps := by
  simp only [covers, List.all_eq_true] at h
  simpa using h x hx

theorem SameBut.refl (ps : List Part) (s : State) : SameBut ps s s := by
  refine ⟨fun x _ => ?_⟩; cases x <;> rfl

theorem SamePart.trans {s t u : State} {x : Part} (h : SamePart s t x) (k : SamePart t u x) : SamePart s u x := by
  cases x <;> exact Eq.trans k h

/-- A footprint may be enlarged. -/
theorem SameBut.mono {qs ps : List Part} {s t : State} (h : SameBut qs s t) (c : covers qs ps = true) :
    SameBut ps s t := ⟨fun x hx => h.same x (fun hq => hx (mem_of_covers c hq))⟩

/-- One more operation after those that already keep to a footprint. -/
theorem SameBut.step {qs ps : List Part} {s t u : State} (h : SameBut qs t u) (c : covers qs ps = true)
    (k : SameBut ps s t) : SameBut ps s u := ⟨fun x hx => (k.same x hx).trans ((h.mono c).same x hx)⟩

theorem SameBut.trans {ps : List Part} {s t u : State} (k : SameBut ps s t) (h : SameBut ps t u) : SameBut ps s u :=
  ⟨fun x hx => (k.same x hx).trans (h.same x hx)⟩

/-- The state of an answer that is a pair. -/
theorem SameBut.of_pair {α : Type} {ps : List Part} {s t : State} {b : α} {x : State × α} (h : x = (t, b))
    (k : SameBut ps s x.1) : SameBut ps s t := by rw [h] at k; exact k

theorem SameBut.of_ite {ps : List Part} {s t u : State} {c : Prop} [Decidable c] (h : SameBut ps s t)
    (k : SameBut ps s u) : SameBut ps s (if c then t else u) := by
  split
  · exact h
  · exact k

theorem foldl_keeps {α : Type} {ps : List Part} {f : State → α → State} (h : ∀ s x, SameBut ps s (f s x))
    {l : List α} {s : State} : SameBut ps s (l.foldl f s) := by
  induction l generalizing s with
  | nil => exact SameBut.refl _ _
  | cons x rest ih => exact (h s x).trans ih

theorem forPorts_keeps {ps : List Part} {f : Port → State → State} (h : ∀ p s, SameBut ps s (f p s)) {s : State} :
    SameBut ps s (forPorts f s) := (((h 0 s).trans (h 1 _)).trans (h 2 _)).trans (h 3 _)

theorem State.setPending_keeps {s : State} {x} : SameBut [.pending] s (s.setPending x) := by
  refine ⟨fun y hy => ?_⟩; cases y <;> first | rfl | simp at hy
theorem State.setClock_keeps {s : State} {x} : SameBut [.clock] s (s.setClock x) := by
  refine ⟨fun y hy => ?_⟩; cases y <;> first | rfl | simp at hy
theorem State.setLines_keeps {s : State} {x} : SameBut [.lines] s (s.setLines x) := by
  refine ⟨fun y hy => ?_⟩; cases y <;> first | rfl | simp at hy
theorem State.setTx_keeps {s : State} {x} : SameBut [.tx] s (s.setTx x) := by
  refine ⟨fun y hy => ?_⟩; cases y <;> first | rfl | simp at hy
theorem State.setRing_keeps {s : State} {x} : SameBut [.ring] s (s.setRing x) := by
  refine ⟨fun y hy => ?_⟩; cases y <;> first | rfl | simp at hy
theorem State.setStation_keeps {s : State} {x} : SameBut [.station] s (s.setStation x) := by
  refine ⟨fun y hy => ?_⟩; cases y <;> first | rfl | simp at hy
theorem State.setCall_keeps {s : State} {x} : SameBut [.call] s (s.setCall x) := by
  refine ⟨fun y hy => ?_⟩; cases y <;> first | rfl | simp at hy
theorem State.setToll_keeps {s : State} {x} : SameBut [.toll] s (s.setToll x) := by
  refine ⟨fun y hy => ?_⟩; cases y <;> first | rfl | simp at hy
theorem State.setPlates_keeps {s : State} {x} : SameBut [.plates] s (s.setPlates x) := by
  refine ⟨fun y hy => ?_⟩; cases y <;> first | rfl | simp at hy
theorem State.setSigns_keeps {s : State} {x} : SameBut [.signs] s (s.setSigns x) := by
  refine ⟨fun y hy => ?_⟩; cases y <;> first | rfl | simp at hy
theorem State.setBrightness_keeps {s : State} {x} : SameBut [.brightness] s (s.setBrightness x) := by
  refine ⟨fun y hy => ?_⟩; cases y <;> first | rfl | simp at hy
theorem State.setResponses_keeps {s : State} {x} : SameBut [.responses] s (s.setResponses x) := by
  refine ⟨fun y hy => ?_⟩; cases y <;> first | rfl | simp at hy
theorem State.setWeather_keeps {s : State} {x} : SameBut [.weather] s (s.setWeather x) := by
  refine ⟨fun y hy => ?_⟩; cases y <;> first | rfl | simp at hy
theorem State.setPorts_keeps {s : State} {x} : SameBut [.ports] s (s.setPorts x) := by
  refine ⟨fun y hy => ?_⟩; cases y <;> first | rfl | simp at hy
theorem State.setRx_keeps {s : State} {x} : SameBut [.rx] s (s.setRx x) := by
  refine ⟨fun y hy => ?_⟩; cases y <;> first | rfl | simp at hy
theorem State.setPortCounts_keeps {s : State} {x} : SameBut [.portCounts] s (s.setPortCounts x) := by
  refine ⟨fun y hy => ?_⟩; cases y <;> first | rfl | simp at hy
theorem State.setCentre_keeps {s : State} {x} : SameBut [.centre] s (s.setCentre x) := by
  refine ⟨fun y hy => ?_⟩; cases y <;> first | rfl | simp at hy

theorem modPortCounts_keeps (f : PortCounters → PortCounters) (s : State) :
    SameBut [.portCounts] s (modPortCounts f s) := by
  unfold modPortCounts
  try dsimp only
  repeat' (first
    | with_reducible apply SameBut.refl
    | (apply SameBut.step
       case h => first
         | with_reducible apply State.setPortCounts_keeps
       case c => decide)
    | split)

theorem deliveryDrop_keeps (s : State) :
    SameBut [.portCounts] s (deliveryDrop s) := by
  unfold deliveryDrop
  try dsimp only
  repeat' (first
    | with_reducible apply SameBut.refl
    | (apply SameBut.step
       case h => first
         | with_reducible apply modPortCounts_keeps
       case c => decide)
    | split)

theorem modTx_keeps (l : Line) (f : Transmitter → Transmitter) (s : State) :
    SameBut [.tx] s (modTx l f s) := by
  unfold modTx
  try dsimp only
  repeat' (first
    | with_reducible apply SameBut.refl
    | (apply SameBut.step
       case h => first
         | with_reducible apply State.setTx_keeps
       case c => decide)
    | split)

theorem enqueueInsert_keeps (l : Line) (c : Cell) (s : State) :
    SameBut [.tx] s (enqueueInsert l c s) := by
  unfold enqueueInsert
  try dsimp only
  repeat' (first
    | with_reducible apply SameBut.refl
    | (apply SameBut.step
       case h => first
         | with_reducible apply modTx_keeps
       case c => decide)
    | split)

theorem modRing_keeps (f : RingCounters → RingCounters) (s : State) :
    SameBut [.ring] s (modRing f s) := by
  unfold modRing
  try dsimp only
  repeat' (first
    | with_reducible apply SameBut.refl
    | (apply SameBut.step
       case h => first
         | with_reducible apply State.setRing_keeps
       case c => decide)
    | split)

theorem insertDrop_keeps (s : State) :
    SameBut [.ring] s (insertDrop s) := by
  unfold insertDrop
  try dsimp only
  repeat' (first
    | with_reducible apply SameBut.refl
    | (apply SameBut.step
       case h => first
         | with_reducible apply modRing_keeps
       case c => decide)
    | split)

theorem modLine_keeps (l : Line) (f : LineUnit → LineUnit) (s : State) :
    SameBut [.lines] s (modLine l f s) := by
  unfold modLine
  try dsimp only
  repeat' (first
    | with_reducible apply SameBut.refl
    | (apply SameBut.step
       case h => first
         | with_reducible apply State.setLines_keeps
       case c => decide)
    | split)

theorem modPhone_keeps (p : Port) (f : Phone → Phone) (s : State) :
    SameBut [.call] s (modPhone p f s) := by
  unfold modPhone
  try dsimp only
  repeat' (first
    | with_reducible apply SameBut.refl
    | (apply SameBut.step
       case h => first
         | with_reducible apply State.setCall_keeps
       case c => decide)
    | split)

theorem modPort_keeps (p : Port) (f : PortUnit → PortUnit) (s : State) :
    SameBut [.ports] s (modPort p f s) := by
  unfold modPort
  try dsimp only
  repeat' (first
    | with_reducible apply SameBut.refl
    | (apply SameBut.step
       case h => first
         | with_reducible apply State.setPorts_keeps
       case c => decide)
    | split)

theorem modSign_keeps (p : Port) (f : Sign → Sign) (s : State) :
    SameBut [.signs] s (modSign p f s) := by
  unfold modSign
  try dsimp only
  repeat' (first
    | with_reducible apply SameBut.refl
    | (apply SameBut.step
       case h => first
         | with_reducible apply State.setSigns_keeps
       case c => decide)
    | split)

theorem modTollCounters_keeps (f : TollCounters → TollCounters) (s : State) :
    SameBut [.toll] s (modTollCounters f s) := by
  unfold modTollCounters
  try dsimp only
  repeat' (first
    | with_reducible apply SameBut.refl
    | (apply SameBut.step
       case h => first
         | with_reducible apply State.setToll_keeps
       case c => decide)
    | split)

theorem offer_keeps (kind : Byte) (dest : Byte) (payload : List Byte) (s : State) :
    SameBut [.tx] s (offer kind dest payload s).1 := by
  unfold offer
  try dsimp only
  repeat' (first
    | with_reducible apply SameBut.refl
    | (apply SameBut.step
       case h => first
         | with_reducible apply enqueueInsert_keeps
       case c => decide)
    | split)

theorem offerCounted_keeps (kind : Byte) (dest : Byte) (payload : List Byte) (s : State) :
    SameBut [.tx, .ring] s (offerCounted kind dest payload s) := by
  unfold offerCounted
  try dsimp only
  repeat' (first
    | with_reducible apply SameBut.refl
    | (apply SameBut.step
       case h => first
         | with_reducible apply offer_keeps
         | with_reducible apply insertDrop_keeps
       case c => decide)
    | with_reducible refine SameBut.of_pair (by assumption) ?_
    | split)

theorem startNext_keeps (p : Port) (s : State) :
    SameBut [.ports, .centre] s (startNext p s) := by
  unfold startNext
  try dsimp only
  repeat' (first
    | with_reducible apply SameBut.refl
    | (apply SameBut.step
       case h => first
         | with_reducible apply modPort_keeps
         | with_reducible apply State.setCentre_keeps
       case c => decide)
    | split)

theorem placeDelivery_keeps (f : Frame) (s : State) :
    SameBut [.ports, .portCounts, .centre] s (placeDelivery f s) := by
  unfold placeDelivery
  try dsimp only
  repeat' (first
    | with_reducible apply SameBut.refl
    | (apply SameBut.step
       case h => first
         | with_reducible apply startNext_keeps
         | with_reducible apply State.setCentre_keeps
         | with_reducible apply deliveryDrop_keeps
       case c => decide)
    | split)

theorem reach_keeps (t : Time) (s : State) :
    SameBut [.clock] s (reach t s) := by
  unfold reach
  try dsimp only
  repeat' (first
    | with_reducible apply SameBut.refl
    | (apply SameBut.step
       case h => first
         | with_reducible apply State.setClock_keeps
       case c => decide)
    | split)

theorem reject_keeps (r : RejectReason) (s : State) :
    SameBut [.station] s (reject r s) := by
  unfold reject
  try dsimp only
  repeat' (first
    | with_reducible apply SameBut.refl
    | (apply SameBut.step
       case h => first
         | with_reducible apply State.setStation_keeps
       case c => decide)
    | split)

theorem sendFrame_keeps (p : Port) (f : Frame) (s : State) :
    SameBut [.ports, .portCounts] s (sendFrame p f s) := by
  unfold sendFrame
  try dsimp only
  repeat' (first
    | with_reducible apply SameBut.refl
    | (apply SameBut.step
       case h => first
         | with_reducible apply modPort_keeps
         | with_reducible apply modPortCounts_keeps
       case c => decide)
    | split)

theorem sendService_keeps (p : Port) (f : Frame) (s : State) :
    SameBut [.ports, .portCounts] s (sendService p f s) := by
  unfold sendService
  try dsimp only
  repeat' (first
    | with_reducible apply SameBut.refl
    | (apply SameBut.step
       case h => first
         | with_reducible apply sendFrame_keeps
       case c => decide)
    | split)

theorem sendServices_keeps (p : Port) (a1 : List Frame) (s : State) :
    SameBut [.ports, .portCounts] s (sendServices p a1 s) := by
  induction a1 generalizing s with
  | nil => exact SameBut.refl _ _
  | cons _ _ ih =>
    unfold sendServices
    repeat' (first
      | with_reducible apply SameBut.refl
      | (apply SameBut.step
         case h => first
           | with_reducible apply ih
           | with_reducible apply sendService_keeps
         case c => decide)
      | split)

theorem withdrawC_keeps (f : Cell → Bool) (s : State) :
    SameBut [.tx] s (withdrawC f s).1 := by
  unfold withdrawC
  try dsimp only
  repeat' (first
    | with_reducible apply SameBut.refl
    | (apply SameBut.step
       case h => first
         | with_reducible apply modTx_keeps
       case c => decide)
    | split)

end Sys2Proof.Machine
end

