-- ==== Sys2Proof/Laws/FrameSigns.lean ====
section
/-! SUPPORT. For each operation of the display controller and the response table: which parts of the state it may change
(`SameBut`). -/

namespace Sys2Proof.Machine

theorem answered_keeps (p : Port) (s : State) :
    SameBut [.signs] s (answered p s) := by
  unfold answered
  try dsimp only
  repeat' (first
    | with_reducible apply SameBut.refl
    | (apply SameBut.step
       case h => first
         | with_reducible apply modSign_keeps
       case c => decide)
    | split)

theorem sendOffer_keeps (p : Port) (t : Transfer) (pic : Pic) (s : State) :
    SameBut [.signs, .ports, .portCounts] s (sendOffer p t pic s) := by
  unfold sendOffer
  try dsimp only
  repeat' (first
    | with_reducible apply SameBut.refl
    | (apply SameBut.step
       case h => first
         | with_reducible apply sendService_keeps
         | with_reducible apply modSign_keeps
       case c => decide)
    | split)

theorem startTransfer_keeps (p : Port) (r : Result) (s : State) :
    SameBut [.signs, .ports, .portCounts] s (startTransfer p r s) := by
  unfold startTransfer
  try dsimp only
  repeat' (first
    | with_reducible apply SameBut.refl
    | (apply SameBut.step
       case h => first
         | with_reducible apply sendOffer_keeps
       case c => decide)
    | split)

theorem receiveResult_keeps (p : Port) (r : Result) (s : State) :
    SameBut [.signs, .ports, .portCounts] s (receiveResult p r s) := by
  unfold receiveResult
  try dsimp only
  repeat' (first
    | with_reducible apply SameBut.refl
    | (apply SameBut.step
       case h => first
         | with_reducible apply modSign_keeps
         | with_reducible apply startTransfer_keeps
       case c => decide)
    | split)

theorem completeCompose_keeps (p : Port) (c : Compose) (s : State) :
    SameBut [.signs, .ports, .portCounts] s (completeCompose p c s) := by
  unfold completeCompose
  try dsimp only
  repeat' (first
    | with_reducible apply SameBut.refl
    | (apply SameBut.step
       case h => first
         | with_reducible apply receiveResult_keeps
         | with_reducible apply modSign_keeps
       case c => decide)
    | split)

theorem startCompose_keeps (p : Port) (page : Fin 8) (s : State) :
    SameBut [.signs, .ports, .portCounts] s (startCompose p page s) := by
  unfold startCompose
  try dsimp only
  repeat' (first
    | with_reducible apply SameBut.refl
    | (apply SameBut.step
       case h => first
         | with_reducible apply modSign_keeps
         | with_reducible apply completeCompose_keeps
       case c => decide)
    | split)

theorem layerBoundary_keeps (p : Port) (c : Compose) (s : State) :
    SameBut [.signs, .ports, .portCounts] s (layerBoundary p c s) := by
  unfold layerBoundary
  try dsimp only
  repeat' (first
    | with_reducible apply SameBut.refl
    | (apply SameBut.step
       case h => first
         | with_reducible apply modSign_keeps
         | with_reducible apply startCompose_keeps
         | with_reducible apply completeCompose_keeps
       case c => decide)
    | split)

theorem applyLayer_keeps (p : Port) (s : State) :
    SameBut [.signs, .ports, .portCounts] s (applyLayer p s) := by
  unfold applyLayer
  try dsimp only
  repeat' (first
    | with_reducible apply SameBut.refl
    | (apply SameBut.step
       case h => first
         | with_reducible apply layerBoundary_keeps
       case c => decide)
    | split)

theorem composeRequest_keeps (p : Port) (page : Fin 8) (s : State) :
    SameBut [.signs, .ports, .portCounts] s (composeRequest p page s) := by
  unfold composeRequest
  try dsimp only
  repeat' (first
    | with_reducible apply SameBut.refl
    | (apply SameBut.step
       case h => first
         | with_reducible apply modSign_keeps
         | with_reducible apply startCompose_keeps
       case c => decide)
    | split)

theorem requestTarget_keeps (p : Port) (s : State) :
    SameBut [.signs, .ports, .portCounts] s (requestTarget p s) := by
  unfold requestTarget
  try dsimp only
  repeat' (first
    | with_reducible apply SameBut.refl
    | (apply SameBut.step
       case h => first
         | with_reducible apply composeRequest_keeps
         | with_reducible apply modSign_keeps
       case c => decide)
    | split)

theorem setTarget_keeps (p : Port) (page : Fin 8) (s : State) :
    SameBut [.signs] s (setTarget p page s) := by
  unfold setTarget
  try dsimp only
  repeat' (first
    | with_reducible apply SameBut.refl
    | (apply SameBut.step
       case h => first
         | with_reducible apply modSign_keeps
       case c => decide)
    | split)

theorem trySelected_keeps (p : Port) (s : State) :
    SameBut [.signs, .ports, .portCounts] s (trySelected p s) := by
  unfold trySelected
  try dsimp only
  repeat' (first
    | with_reducible apply SameBut.refl
    | (apply SameBut.step
       case h => first
         | with_reducible apply requestTarget_keeps
         | with_reducible apply setTarget_keeps
       case c => decide)
    | split)

theorem changeClaims_keeps (p : Port) (f : Sign → Sign) (s : State) :
    SameBut [.signs, .ports, .portCounts] s (changeClaims p f s) := by
  unfold changeClaims
  try dsimp only
  repeat' (first
    | with_reducible apply SameBut.refl
    | (apply SameBut.step
       case h => first
         | with_reducible apply modSign_keeps
         | with_reducible apply trySelected_keeps
       case c => decide)
    | split)

theorem endTransfer_keeps (p : Port) (s : State) :
    SameBut [.signs] s (endTransfer p s) := by
  unfold endTransfer
  try dsimp only
  repeat' (first
    | with_reducible apply SameBut.refl
    | (apply SameBut.step
       case h => first
         | with_reducible apply modSign_keeps
       case c => decide)
    | split)

theorem enterDark_keeps (p : Port) (s : State) :
    SameBut [.signs, .ports, .portCounts] s (enterDark p s) := by
  unfold enterDark
  try dsimp only
  repeat' (first
    | with_reducible apply SameBut.refl
    | (apply SameBut.step
       case h => first
         | with_reducible apply sendService_keeps
         | with_reducible apply modSign_keeps
         | with_reducible apply endTransfer_keeps
       case c => decide)
    | split)

theorem transferPending_keeps (p : Port) (s : State) :
    SameBut [.signs, .ports, .portCounts] s (transferPending p s) := by
  unfold transferPending
  try dsimp only
  repeat' (first
    | with_reducible apply SameBut.refl
    | (apply SameBut.step
       case h => first
         | with_reducible apply startTransfer_keeps
         | with_reducible apply modSign_keeps
       case c => decide)
    | split)

theorem fallBack_keeps (p : Port) (s : State) :
    SameBut [.signs, .ports, .portCounts] s (fallBack p s) := by
  unfold fallBack
  try dsimp only
  repeat' (first
    | with_reducible apply SameBut.refl
    | (apply SameBut.step
       case h => first
         | with_reducible apply requestTarget_keeps
         | with_reducible apply setTarget_keeps
         | with_reducible apply modSign_keeps
         | with_reducible apply endTransfer_keeps
       case c => decide)
    | split)

theorem escalate_keeps (p : Port) (r : Result) (s : State) :
    SameBut [.signs, .ports, .portCounts] s (escalate p r s) := by
  unfold escalate
  try dsimp only
  repeat' (first
    | with_reducible apply SameBut.refl
    | (apply SameBut.step
       case h => first
         | with_reducible apply modSign_keeps
         | with_reducible apply endTransfer_keeps
         | with_reducible apply transferPending_keeps
         | with_reducible apply startTransfer_keeps
         | with_reducible apply enterDark_keeps
         | with_reducible apply fallBack_keeps
       case c => decide)
    | split)

theorem sendBright_keeps (p : Port) (s : State) :
    SameBut [.ports, .portCounts] s (sendBright p s) := by
  unfold sendBright
  try dsimp only
  repeat' (first
    | with_reducible apply SameBut.refl
    | (apply SameBut.step
       case h => first
         | with_reducible apply sendService_keeps
       case c => decide)
    | split)

theorem evaluateBrightness_keeps (a : Int) (s : State) :
    SameBut [.brightness, .ports, .portCounts] s (evaluateBrightness a s) := by
  unfold evaluateBrightness
  try dsimp only
  repeat' (first
    | with_reducible apply SameBut.refl
    | (apply SameBut.step
       case h => first
         | with_reducible apply State.setBrightness_keeps
         | with_reducible apply sendBright_keeps
       case c => decide)
    | (apply SameBut.step
       with_reducible apply forPorts_keeps (ps := [.brightness, .ports, .portCounts])
       case c => decide
       intro _ _)
    | split)

theorem pageCommitted_keeps (p : Port) (page : Fin 8) (s : State) :
    SameBut [.signs, .ports, .portCounts] s (pageCommitted p page s) := by
  unfold pageCommitted
  try dsimp only
  repeat' (first
    | with_reducible apply SameBut.refl
    | (apply SameBut.step
       case h => first
         | with_reducible apply trySelected_keeps
         | with_reducible apply requestTarget_keeps
       case c => decide)
    | split)

theorem placeClaim_keeps (p : Port) (source : ClaimSource) (page : Fin 8) (priority : Nat) (s : State) :
    SameBut [.signs, .ports, .portCounts] s (placeClaim p source page priority s) := by
  unfold placeClaim
  try dsimp only
  repeat' (first
    | with_reducible apply SameBut.refl
    | (apply SameBut.step
       case h => first
         | with_reducible apply changeClaims_keeps
       case c => decide)
    | split)

theorem plateReportedTo_keeps (plate : Nat) (p : Port) (s : State) :
    SameBut [.signs, .ports, .portCounts] s (plateReportedTo plate p s) := by
  unfold plateReportedTo
  try dsimp only
  repeat' (first
    | with_reducible apply SameBut.refl
    | (apply SameBut.step
       case h => first
         | with_reducible apply trySelected_keeps
         | with_reducible apply requestTarget_keeps
       case c => decide)
    | split)

theorem plateReported_keeps (plate : Nat) (s : State) :
    SameBut [.signs, .ports, .portCounts] s (plateReported plate s) := by
  unfold plateReported
  try dsimp only
  repeat' (first
    | with_reducible apply SameBut.refl
    | (apply SameBut.step
       case h => first
         | with_reducible apply plateReportedTo_keeps
       case c => decide)
    | (apply SameBut.step
       with_reducible apply forPorts_keeps (ps := [.signs, .ports, .portCounts])
       case c => decide
       intro _ _)
    | split)

theorem removeClaim_keeps (p : Port) (source : ClaimSource) (s : State) :
    SameBut [.signs, .ports, .portCounts] s (removeClaim p source s) := by
  unfold removeClaim
  try dsimp only
  repeat' (first
    | with_reducible apply SameBut.refl
    | (apply SameBut.step
       case h => first
         | with_reducible apply changeClaims_keeps
       case c => decide)
    | split)

theorem sendRows_keeps (p : Port) (t : Transfer) (pic : Pic) (s : State) :
    SameBut [.signs, .ports, .portCounts] s (sendRows p t pic s) := by
  unfold sendRows
  try dsimp only
  repeat' (first
    | with_reducible apply SameBut.refl
    | (apply SameBut.step
       case h => first
         | with_reducible apply sendServices_keeps
         | with_reducible apply modSign_keeps
       case c => decide)
    | split)

theorem sendSwitch_keeps (p : Port) (t : Transfer) (s : State) :
    SameBut [.signs, .ports, .portCounts] s (sendSwitch p t s) := by
  unfold sendSwitch
  try dsimp only
  repeat' (first
    | with_reducible apply SameBut.refl
    | (apply SameBut.step
       case h => first
         | with_reducible apply sendService_keeps
         | with_reducible apply modSign_keeps
       case c => decide)
    | split)

theorem resendStep_keeps (p : Port) (t : Transfer) (s : State) :
    SameBut [.signs, .ports, .portCounts] s (resendStep p t s) := by
  unfold resendStep
  try dsimp only
  repeat' (first
    | with_reducible apply SameBut.refl
    | (apply SameBut.step
       case h => first
         | with_reducible apply sendOffer_keeps
         | with_reducible apply sendRows_keeps
         | with_reducible apply sendSwitch_keeps
       case c => decide)
    | split)

theorem restoreSign_keeps (p : Port) (s : State) :
    SameBut [.signs, .ports, .portCounts] s (restoreSign p s) := by
  unfold restoreSign
  try dsimp only
  repeat' (first
    | with_reducible apply SameBut.refl
    | (apply SameBut.step
       case h => first
         | with_reducible apply modSign_keeps
         | with_reducible apply endTransfer_keeps
         | with_reducible apply trySelected_keeps
       case c => decide)
    | split)

theorem signBusy_keeps (p : Port) (s : State) :
    SameBut [.signs] s (signBusy p s) := by
  unfold signBusy
  try dsimp only
  repeat' (first
    | with_reducible apply SameBut.refl
    | (apply SameBut.step
       case h => first
         | with_reducible apply modSign_keeps
         | with_reducible apply answered_keeps
       case c => decide)
    | split)

theorem signLinkLeft_keeps (p : Port) (s : State) :
    SameBut [.signs] s (signLinkLeft p s) := by
  unfold signLinkLeft
  try dsimp only
  repeat' (first
    | with_reducible apply SameBut.refl
    | (apply SameBut.step
       case h => first
         | with_reducible apply modSign_keeps
         | with_reducible apply endTransfer_keeps
       case c => decide)
    | split)

theorem signLinkUp_keeps (p : Port) (s : State) :
    SameBut [.signs, .ports, .portCounts] s (signLinkUp p s) := by
  unfold signLinkUp
  try dsimp only
  repeat' (first
    | with_reducible apply SameBut.refl
    | (apply SameBut.step
       case h => first
         | with_reducible apply sendService_keeps
         | with_reducible apply requestTarget_keeps
       case c => decide)
    | split)

theorem signMute_keeps (p : Port) (s : State) :
    SameBut [.signs] s (signMute p s) := by
  unfold signMute
  try dsimp only
  repeat' (first
    | with_reducible apply SameBut.refl
    | (apply SameBut.step
       case h => first
         | with_reducible apply modSign_keeps
         | with_reducible apply endTransfer_keeps
       case c => decide)
    | split)

theorem signReady_keeps (p : Port) (s : State) :
    SameBut [.signs, .ports, .portCounts] s (signReady p s) := by
  unfold signReady
  try dsimp only
  repeat' (first
    | with_reducible apply SameBut.refl
    | (apply SameBut.step
       case h => first
         | with_reducible apply sendRows_keeps
         | with_reducible apply answered_keeps
       case c => decide)
    | split)

theorem signRetry_keeps (p : Port) (s : State) :
    SameBut [.clock, .signs, .ports, .portCounts] s (signRetry p s) := by
  unfold signRetry
  try dsimp only
  repeat' (first
    | with_reducible apply SameBut.refl
    | (apply SameBut.step
       case h => first
         | with_reducible apply sendOffer_keeps
         | with_reducible apply reach_keeps
       case c => decide)
    | split)

theorem signRowsTaken_keeps (p : Port) (pic : Pic) (s : State) :
    SameBut [.signs, .ports, .portCounts] s (signRowsTaken p pic s) := by
  unfold signRowsTaken
  try dsimp only
  repeat' (first
    | with_reducible apply SameBut.refl
    | (apply SameBut.step
       case h => first
         | with_reducible apply sendOffer_keeps
         | with_reducible apply answered_keeps
         | with_reducible apply sendSwitch_keeps
       case c => decide)
    | split)

theorem verify_keeps (p : Port) (r : Result) (shownA : List (BitVec 16)) (shownB : List (BitVec 16)) (s : State) :
    SameBut [.signs, .ports, .portCounts] s (verify p r shownA shownB s) := by
  unfold verify
  try dsimp only
  repeat' (first
    | with_reducible apply SameBut.refl
    | (apply SameBut.step
       case h => first
         | with_reducible apply transferPending_keeps
         | with_reducible apply modSign_keeps
         | with_reducible apply endTransfer_keeps
         | with_reducible apply escalate_keeps
       case c => decide)
    | split)

theorem signShown_keeps (p : Port) (pic : Pic) (checks : List (BitVec 16)) (s : State) :
    SameBut [.signs, .ports, .portCounts] s (signShown p pic checks s) := by
  unfold signShown
  try dsimp only
  repeat' (first
    | with_reducible apply SameBut.refl
    | (apply SameBut.step
       case h => first
         | with_reducible apply modSign_keeps
         | with_reducible apply answered_keeps
         | with_reducible apply verify_keeps
       case c => decide)
    | split)

theorem placeClaims_keeps (k : Fin 16) (s : State) :
    SameBut [.signs, .ports, .portCounts] s (placeClaims k s) := by
  unfold placeClaims
  try dsimp only
  repeat' (first
    | with_reducible apply SameBut.refl
    | (apply SameBut.step
       case h => first
         | with_reducible apply placeClaim_keeps
       case c => decide)
    | (apply SameBut.step
       with_reducible apply forPorts_keeps (ps := [.signs, .ports, .portCounts])
       case c => decide
       intro _ _)
    | split)

theorem modResponse_keeps (k : Fin 16) (f : Response → Response) (s : State) :
    SameBut [.responses] s (modResponse k f s) := by
  unfold modResponse
  try dsimp only
  repeat' (first
    | with_reducible apply SameBut.refl
    | (apply SameBut.step
       case h => first
         | with_reducible apply State.setResponses_keeps
       case c => decide)
    | split)

theorem claimAtOnce_keeps (k : Fin 16) (s : State) :
    SameBut [.signs, .responses, .ports, .portCounts] s (claimAtOnce k s) := by
  unfold claimAtOnce
  try dsimp only
  repeat' (first
    | with_reducible apply SameBut.refl
    | (apply SameBut.step
       case h => first
         | with_reducible apply placeClaims_keeps
         | with_reducible apply modResponse_keeps
       case c => decide)
    | split)

theorem removeClaims_keeps (k : Fin 16) (s : State) :
    SameBut [.signs, .ports, .portCounts] s (removeClaims k s) := by
  unfold removeClaims
  try dsimp only
  repeat' (first
    | with_reducible apply SameBut.refl
    | (apply SameBut.step
       case h => first
         | with_reducible apply removeClaim_keeps
       case c => decide)
    | (apply SameBut.step
       with_reducible apply forPorts_keeps (ps := [.signs, .ports, .portCounts])
       case c => decide
       intro _ _)
    | split)

theorem clearEntry_keeps (s : State) (k : Fin 16) :
    SameBut [.signs, .responses, .ports, .portCounts] s (clearEntry s k) := by
  unfold clearEntry
  try dsimp only
  repeat' (first
    | with_reducible apply SameBut.refl
    | (apply SameBut.step
       case h => first
         | with_reducible apply removeClaims_keeps
         | with_reducible apply modResponse_keeps
       case c => decide)
    | split)

theorem clearResponses_keeps (index : Byte) (s : State) :
    SameBut [.station, .signs, .responses, .ports, .portCounts] s (clearResponses index s) := by
  unfold clearResponses
  try dsimp only
  repeat' (first
    | with_reducible apply SameBut.refl
    | (apply SameBut.step
       case h => first
         | with_reducible apply clearEntry_keeps
         | with_reducible apply reject_keeps
       case c => decide)
    | (apply SameBut.step
       with_reducible apply foldl_keeps (ps := [.station, .signs, .responses, .ports, .portCounts])
       case c => decide
       intro _ _)
    | split)

theorem latchStep_keeps (k : Fin 16) (v : Bool) (s : State) :
    SameBut [.signs, .responses, .ports, .portCounts] s (latchStep k v s) := by
  unfold latchStep
  try dsimp only
  repeat' (first
    | with_reducible apply SameBut.refl
    | (apply SameBut.step
       case h => first
         | with_reducible apply placeClaims_keeps
         | with_reducible apply modResponse_keeps
       case c => decide)
    | split)

theorem levelStep_keeps (k : Fin 16) (v : Bool) (s : State) :
    SameBut [.signs, .responses, .ports, .portCounts] s (levelStep k v s) := by
  unfold levelStep
  try dsimp only
  repeat' (first
    | with_reducible apply SameBut.refl
    | (apply SameBut.step
       case h => first
         | with_reducible apply placeClaims_keeps
         | with_reducible apply modResponse_keeps
         | with_reducible apply removeClaims_keeps
       case c => decide)
    | split)

theorem lingerExpired_keeps (k : Fin 16) (s : State) :
    SameBut [.clock, .signs, .responses, .ports, .portCounts] s (lingerExpired k s) := by
  unfold lingerExpired
  try dsimp only
  repeat' (first
    | with_reducible apply SameBut.refl
    | (apply SameBut.step
       case h => first
         | with_reducible apply removeClaims_keeps
         | with_reducible apply modResponse_keeps
         | with_reducible apply reach_keeps
       case c => decide)
    | split)

theorem respondEntry_keeps (s : State) (k : Fin 16) :
    SameBut [.signs, .responses, .ports, .portCounts] s (respondEntry s k) := by
  unfold respondEntry
  try dsimp only
  repeat' (first
    | with_reducible apply SameBut.refl
    | (apply SameBut.step
       case h => first
         | with_reducible apply modResponse_keeps
         | with_reducible apply latchStep_keeps
         | with_reducible apply levelStep_keeps
       case c => decide)
    | split)

theorem respond_keeps (s : State) :
    SameBut [.signs, .responses, .ports, .portCounts] s (respond s) := by
  unfold respond
  try dsimp only
  repeat' (first
    | with_reducible apply SameBut.refl
    | (apply SameBut.step
       case h => first
         | with_reducible apply respondEntry_keeps
       case c => decide)
    | (apply SameBut.step
       with_reducible apply foldl_keeps (ps := [.signs, .responses, .ports, .portCounts])
       case c => decide
       intro _ _)
    | split)

theorem setResponse_keeps (q : ResponseParams) (s : State) :
    SameBut [.station, .signs, .responses, .ports, .portCounts] s (setResponse q s) := by
  unfold setResponse
  try dsimp only
  repeat' (first
    | with_reducible apply SameBut.refl
    | (apply SameBut.step
       case h => first
         | with_reducible apply reject_keeps
         | with_reducible apply removeClaims_keeps
         | with_reducible apply modResponse_keeps
         | with_reducible apply claimAtOnce_keeps
       case c => decide)
    | split)

end Sys2Proof.Machine
end

