-- ==== Sys2Proof/Laws/FrameCalls.lean ====
section
/-! SUPPORT. For each operation of the call unit: which parts of the state it may change
(`SameBut`). -/

namespace Sys2Proof.Machine

theorem setCircuit_keeps (c : Fin 16) (e : Circuit) (s : State) :
    SameBut [.call, .signs, .responses, .ports, .portCounts] s (setCircuit c e s) := by
  unfold setCircuit
  try dsimp only
  repeat' (first
    | with_reducible apply SameBut.refl
    | (apply SameBut.step
       case h => first
         | with_reducible apply respond_keeps
         | with_reducible apply State.setCall_keeps
       case c => decide)
    | split)

theorem failPort_keeps (p : Port) (s : State) :
    SameBut [.call] s (failPort p s) := by
  unfold failPort
  try dsimp only
  repeat' (first
    | with_reducible apply SameBut.refl
    | (apply SameBut.step
       case h => first
         | with_reducible apply modPhone_keeps
       case c => decide)
    | split)

theorem sendClaim_keeps (r : Request) (centre : Nat) (c : Fin 16) (preempt : Bool) (s : State) :
    SameBut [.tx, .call, .signs, .responses, .ports, .portCounts] s (sendClaim r centre c preempt s).1 := by
  unfold sendClaim
  try dsimp only
  repeat' (first
    | with_reducible apply SameBut.refl
    | (apply SameBut.step
       case h => first
         | with_reducible apply State.setCall_keeps
         | with_reducible apply offer_keeps
         | with_reducible apply modPhone_keeps
         | with_reducible apply setCircuit_keeps
       case c => decide)
    | with_reducible refine SameBut.of_pair (by assumption) ?_
    | split)

theorem claimTests_keeps (a0 : Nat) (s : State) :
    SameBut [.tx, .call, .signs, .responses, .ports, .portCounts] s (claimTests a0 s) := by
  induction a0 generalizing s with
  | zero => exact SameBut.refl _ _
  | succ _ ih =>
    unfold claimTests
    repeat' (first
      | with_reducible apply SameBut.refl
      | (apply SameBut.step
         case h => first
           | with_reducible apply ih
           | with_reducible apply failPort_keeps
           | with_reducible apply sendClaim_keeps
         case c => decide)
      | with_reducible refine SameBut.of_pair (by assumption) ?_
      | split)

theorem testClaim_keeps (s : State) :
    SameBut [.tx, .call, .signs, .responses, .ports, .portCounts] s (testClaim s) := by
  unfold testClaim
  try dsimp only
  repeat' (first
    | with_reducible apply SameBut.refl
    | (apply SameBut.step
       case h => first
         | with_reducible apply claimTests_keeps
       case c => decide)
    | split)

theorem avoidCircuit_keeps (p : Port) (beaten : Option (Fin 16)) (s : State) :
    SameBut [.call] s (avoidCircuit p beaten s) := by
  unfold avoidCircuit
  split
  · exact modPhone_keeps _ _ _
  · exact SameBut.refl _ _

theorem failAttempt_keeps (a : Attempt) (beaten : Option (Fin 16)) (s : State) :
    SameBut [.tx, .call, .signs, .responses, .ports, .portCounts] s (failAttempt a beaten s) := by
  unfold failAttempt
  try dsimp only
  repeat' (first
    | with_reducible apply SameBut.refl
    | (apply SameBut.step
       case h => first
         | with_reducible apply State.setCall_keeps
         | with_reducible apply setCircuit_keeps
         | with_reducible apply avoidCircuit_keeps
         | with_reducible apply testClaim_keeps
         | with_reducible apply failPort_keeps
       case c => decide)
    | split)

theorem withdrawClaim_keeps (a : Attempt) (s : State) :
    SameBut [.tx] s (withdrawClaim a s).1 := by
  unfold withdrawClaim
  try dsimp only
  repeat' (first
    | with_reducible apply SameBut.refl
    | (apply SameBut.step
       case h => first
         | with_reducible apply withdrawC_keeps
       case c => decide)
    | with_reducible refine SameBut.of_pair (by assumption) ?_
    | split)

theorem attemptExpired_keeps (s : State) :
    SameBut [.clock, .tx, .call, .signs, .responses, .ports, .portCounts] s (attemptExpired s) := by
  unfold attemptExpired
  try dsimp only
  repeat' (first
    | with_reducible apply SameBut.refl
    | (apply SameBut.step
       case h => first
         | with_reducible apply failAttempt_keeps
         | with_reducible apply withdrawClaim_keeps
         | with_reducible apply reach_keeps
       case c => decide)
    | with_reducible refine SameBut.of_pair (by assumption) ?_
    | split)

theorem backoffExpired_keeps (p : Port) (s : State) :
    SameBut [.clock, .tx, .call, .signs, .responses, .ports, .portCounts] s (backoffExpired p s) := by
  unfold backoffExpired
  try dsimp only
  repeat' (first
    | with_reducible apply SameBut.refl
    | (apply SameBut.step
       case h => first
         | with_reducible apply testClaim_keeps
         | with_reducible apply modPhone_keeps
         | with_reducible apply reach_keeps
       case c => decide)
    | split)

theorem freeOwn_keeps (s : State) (c : Fin 16) :
    SameBut [.call, .signs, .responses, .ports, .portCounts] s (freeOwn s c) := by
  unfold freeOwn
  try dsimp only
  repeat' (first
    | with_reducible apply SameBut.refl
    | (apply SameBut.step
       case h => first
         | with_reducible apply setCircuit_keeps
       case c => decide)
    | split)

theorem callMute_keeps (s : State) :
    SameBut [.call, .signs, .responses, .ports, .portCounts] s (callMute s) := by
  unfold callMute
  try dsimp only
  repeat' (first
    | with_reducible apply SameBut.refl
    | (apply SameBut.step
       case h => first
         | with_reducible apply freeOwn_keeps
         | with_reducible apply State.setCall_keeps
       case c => decide)
    | (apply SameBut.step
       with_reducible apply foldl_keeps (ps := [.call, .signs, .responses, .ports, .portCounts])
       case c => decide
       intro _ _)
    | split)

theorem settlePort_keeps (p : Port) (s : State) :
    SameBut [.call, .ports, .portCounts] s (settlePort p s) := by
  unfold settlePort
  try dsimp only
  repeat' (first
    | with_reducible apply SameBut.refl
    | (apply SameBut.step
       case h => first
         | with_reducible apply sendService_keeps
         | with_reducible apply modPhone_keeps
       case c => decide)
    | split)

theorem settle_keeps (s : State) :
    SameBut [.call, .ports, .portCounts] s (settle s) := by
  unfold settle
  try dsimp only
  repeat' (first
    | with_reducible apply SameBut.refl
    | (apply SameBut.step
       case h => first
         | with_reducible apply settlePort_keeps
       case c => decide)
    | (apply SameBut.step
       with_reducible apply forPorts_keeps (ps := [.call, .ports, .portCounts])
       case c => decide
       intro _ _)
    | split)

theorem joinRequest_keeps (p : Port) (prio : Nat) (s : State) :
    SameBut [.call] s (joinRequest p prio s) := by
  unfold joinRequest
  try dsimp only
  repeat' (first
    | with_reducible apply SameBut.refl
    | (apply SameBut.step
       case h => first
         | with_reducible apply State.setCall_keeps
       case c => decide)
    | split)

theorem newRequest_keeps (p : Port) (prio : Nat) (ring : Bool) (s : State) :
    SameBut [.tx, .call, .signs, .responses, .ports, .portCounts] s (newRequest p prio ring s) := by
  unfold newRequest
  try dsimp only
  repeat' (first
    | with_reducible apply SameBut.refl
    | (apply SameBut.step
       case h => first
         | with_reducible apply testClaim_keeps
         | with_reducible apply joinRequest_keeps
         | with_reducible apply modPhone_keeps
       case c => decide)
    | split)

theorem callPhoneOn_keeps (prio : Byte) (p : Port) (s : State) :
    SameBut [.tx, .station, .call, .signs, .responses, .ports, .portCounts] s (callPhoneOn prio p s) := by
  unfold callPhoneOn
  try dsimp only
  repeat' (first
    | with_reducible apply SameBut.refl
    | (apply SameBut.step
       case h => first
         | with_reducible apply reject_keeps
         | with_reducible apply settle_keeps
         | with_reducible apply newRequest_keeps
       case c => decide)
    | split)

theorem enterRemote_keeps (c : Fin 16) (station : Nat) (port : Port) (prio : Nat) (s : State) :
    SameBut [.call, .signs, .responses, .ports, .portCounts] s (enterRemote c station port prio s) := by
  unfold enterRemote
  try dsimp only
  repeat' (first
    | with_reducible apply SameBut.refl
    | (apply SameBut.step
       case h => first
         | with_reducible apply respond_keeps
         | with_reducible apply State.setCall_keeps
       case c => decide)
    | split)

theorem setRemote_keeps (c : Fin 16) (station : Nat) (port : Port) (prio : Nat) (s : State) :
    SameBut [.call, .signs, .responses, .ports, .portCounts] s (setRemote c station port prio s) := by
  unfold setRemote
  try dsimp only
  repeat' (first
    | with_reducible apply SameBut.refl
    | (apply SameBut.step
       case h => first
         | with_reducible apply setCircuit_keeps
         | with_reducible apply enterRemote_keeps
       case c => decide)
    | split)

theorem loseCall_keeps (p : Port) (reason : CallReason) (s : State) :
    SameBut [.call] s (loseCall p reason s) := by
  unfold loseCall
  try dsimp only
  repeat' (first
    | with_reducible apply SameBut.refl
    | (apply SameBut.step
       case h => first
         | with_reducible apply modPhone_keeps
         | with_reducible apply joinRequest_keeps
       case c => decide)
    | split)

theorem claimCopied_keeps (source : Nat) (cl : Claim) (s : State) :
    SameBut [.tx, .call, .signs, .responses, .ports, .portCounts] s (claimCopied source cl s).1 := by
  unfold claimCopied
  try dsimp only
  repeat' (first
    | with_reducible apply SameBut.refl
    | (apply SameBut.step
       case h => first
         | with_reducible apply setRemote_keeps
         | with_reducible apply testClaim_keeps
         | with_reducible apply withdrawClaim_keeps
         | with_reducible apply failAttempt_keeps
         | with_reducible apply loseCall_keeps
       case c => decide)
    | with_reducible refine SameBut.of_pair (by assumption) ?_
    | split)

theorem sendRelease_keeps (c : Fin 16) (p : Port) (s : State) :
    SameBut [.tx, .ring, .call, .signs, .responses, .ports, .portCounts] s (sendRelease c p s) := by
  unfold sendRelease
  try dsimp only
  repeat' (first
    | with_reducible apply SameBut.refl
    | (apply SameBut.step
       case h => first
         | with_reducible apply setCircuit_keeps
         | with_reducible apply offerCounted_keeps
       case c => decide)
    | split)

theorem leaveRequest_keeps (p : Port) (s : State) :
    SameBut [.call] s (leaveRequest p s) := by
  unfold leaveRequest
  try dsimp only
  repeat' (first
    | with_reducible apply SameBut.refl
    | (apply SameBut.step
       case h => first
         | with_reducible apply State.setCall_keeps
       case c => decide)
    | split)

theorem claimWon_keeps (a : Attempt) (c : Fin 16) (s : State) :
    SameBut [.tx, .ring, .call, .signs, .responses, .ports, .portCounts] s (claimWon a c s) := by
  unfold claimWon
  try dsimp only
  repeat' (first
    | with_reducible apply SameBut.refl
    | (apply SameBut.step
       case h => first
         | with_reducible apply State.setCall_keeps
         | with_reducible apply testClaim_keeps
         | with_reducible apply sendRelease_keeps
         | with_reducible apply leaveRequest_keeps
         | with_reducible apply setCircuit_keeps
         | with_reducible apply modPhone_keeps
       case c => decide)
    | split)

theorem claimReturned_keeps (cl : Claim) (s : State) :
    SameBut [.tx, .ring, .call, .signs, .responses, .ports, .portCounts] s (claimReturned cl s) := by
  unfold claimReturned
  try dsimp only
  repeat' (first
    | with_reducible apply SameBut.refl
    | (apply SameBut.step
       case h => first
         | with_reducible apply failAttempt_keeps
         | with_reducible apply claimWon_keeps
         | with_reducible apply sendRelease_keeps
       case c => decide)
    | split)

theorem hangUpAttempt_keeps (p : Port) (s : State) :
    SameBut [.tx, .call, .signs, .responses, .ports, .portCounts] s (hangUpAttempt p s) := by
  unfold hangUpAttempt
  try dsimp only
  repeat' (first
    | with_reducible apply SameBut.refl
    | (apply SameBut.step
       case h => first
         | with_reducible apply withdrawClaim_keeps
         | with_reducible apply setCircuit_keeps
         | with_reducible apply State.setCall_keeps
       case c => decide)
    | with_reducible refine SameBut.of_pair (by assumption) ?_
    | split)

theorem releaseHeld_keeps (p : Port) (s : State) :
    SameBut [.tx, .ring, .call, .signs, .responses, .ports, .portCounts] s (releaseHeld p s) := by
  unfold releaseHeld
  try dsimp only
  repeat' (first
    | with_reducible apply SameBut.refl
    | (apply SameBut.step
       case h => first
         | with_reducible apply sendRelease_keeps
       case c => decide)
    | split)

theorem endCall_keeps (p : Port) (s : State) :
    SameBut [.tx, .ring, .call, .signs, .responses, .ports, .portCounts] s (endCall p s) := by
  unfold endCall
  try dsimp only
  repeat' (first
    | with_reducible apply SameBut.refl
    | (apply SameBut.step
       case h => first
         | with_reducible apply leaveRequest_keeps
         | with_reducible apply hangUpAttempt_keeps
         | with_reducible apply releaseHeld_keeps
         | with_reducible apply testClaim_keeps
         | with_reducible apply modPhone_keeps
       case c => decide)
    | split)

theorem holdListed_keeps (source : Nat) (s : State) (h : Fin 16 × Nat × Port) :
    SameBut [.call, .signs, .responses, .ports, .portCounts] s (holdListed source s h) := by
  unfold holdListed
  try dsimp only
  repeat' (first
    | with_reducible apply SameBut.refl
    | (apply SameBut.step
       case h => first
         | with_reducible apply setRemote_keeps
         | with_reducible apply loseCall_keeps
       case c => decide)
    | split)

theorem holdCopied_keeps (source : Nat) (held : List (Fin 16 × Nat × Port)) (s : State) :
    SameBut [.tx, .call, .signs, .responses, .ports, .portCounts] s (holdCopied source held s) := by
  unfold holdCopied
  try dsimp only
  repeat' (first
    | with_reducible apply SameBut.refl
    | (apply SameBut.step
       case h => first
         | with_reducible apply testClaim_keeps
         | with_reducible apply holdListed_keeps
       case c => decide)
    | (apply SameBut.step
       with_reducible apply foldl_keeps (ps := [.tx, .call, .signs, .responses, .ports, .portCounts])
       case c => decide
       intro _ _)
    | split)

theorem holdPeriodEnds_keeps (s : State) :
    SameBut [.clock, .tx, .ring, .call] s (holdPeriodEnds s) := by
  unfold holdPeriodEnds
  try dsimp only
  repeat' (first
    | with_reducible apply SameBut.refl
    | (apply SameBut.step
       case h => first
         | with_reducible apply reach_keeps
         | with_reducible apply State.setCall_keeps
         | with_reducible apply offerCounted_keeps
       case c => decide)
    | split)

theorem raiseRequest_keeps (p : Port) (prio : Nat) (s : State) :
    SameBut [.call] s (raiseRequest p prio s) := by
  unfold raiseRequest
  try dsimp only
  repeat' (first
    | with_reducible apply SameBut.refl
    | (apply SameBut.step
       case h => first
         | with_reducible apply State.setCall_keeps
       case c => decide)
    | split)

theorem liftRequest_keeps (p : Port) (prio : Nat) (s : State) :
    SameBut [.tx, .call, .signs, .responses, .ports, .portCounts] s (liftRequest p prio s) := by
  unfold liftRequest
  try dsimp only
  repeat' (first
    | with_reducible apply SameBut.refl
    | (apply SameBut.step
       case h => first
         | with_reducible apply modPhone_keeps
         | with_reducible apply testClaim_keeps
         | with_reducible apply raiseRequest_keeps
       case c => decide)
    | split)

theorem loseTarget_keeps (station : Nat) (s : State) (c : Fin 16) :
    SameBut [.tx, .ring, .call, .signs, .responses, .ports, .portCounts] s (loseTarget station s c) := by
  unfold loseTarget
  try dsimp only
  repeat' (first
    | with_reducible apply SameBut.refl
    | (apply SameBut.step
       case h => first
         | with_reducible apply loseCall_keeps
         | with_reducible apply sendRelease_keeps
         | with_reducible apply modPhone_keeps
       case c => decide)
    | split)

theorem phoneAnswer_keeps (p : Port) (s : State) :
    SameBut [.call] s (phoneAnswer p s) := by
  unfold phoneAnswer
  try dsimp only
  repeat' (first
    | with_reducible apply SameBut.refl
    | (apply SameBut.step
       case h => first
         | with_reducible apply modPhone_keeps
       case c => decide)
    | split)

theorem phoneLinkLeft_keeps (p : Port) (s : State) :
    SameBut [.tx, .ring, .call, .signs, .responses, .ports, .portCounts] s (phoneLinkLeft p s) := by
  unfold phoneLinkLeft
  try dsimp only
  repeat' (first
    | with_reducible apply SameBut.refl
    | (apply SameBut.step
       case h => first
         | with_reducible apply settle_keeps
         | with_reducible apply endCall_keeps
       case c => decide)
    | split)

theorem phoneLinkUp_keeps (p : Port) (s : State) :
    SameBut [.call, .ports, .portCounts] s (phoneLinkUp p s) := by
  unfold phoneLinkUp
  try dsimp only
  repeat' (first
    | with_reducible apply SameBut.refl
    | (apply SameBut.step
       case h => first
         | with_reducible apply sendService_keeps
         | with_reducible apply modPhone_keeps
       case c => decide)
    | split)

theorem phoneOffHook_keeps (p : Port) (key : Key) (s : State) :
    SameBut [.tx, .call, .signs, .responses, .ports, .portCounts] s (phoneOffHook p key s) := by
  unfold phoneOffHook
  try dsimp only
  repeat' (first
    | with_reducible apply SameBut.refl
    | (apply SameBut.step
       case h => first
         | with_reducible apply newRequest_keeps
         | with_reducible apply liftRequest_keeps
       case c => decide)
    | split)

theorem phoneOnHook_keeps (p : Port) (s : State) :
    SameBut [.tx, .ring, .call, .signs, .responses, .ports, .portCounts] s (phoneOnHook p s) := by
  unfold phoneOnHook
  try dsimp only
  repeat' (first
    | with_reducible apply SameBut.refl
    | (apply SameBut.step
       case h => first
         | with_reducible apply endCall_keeps
       case c => decide)
    | split)

theorem phoneSamples_keeps (p : Port) (voice : List Byte) (s : State) :
    SameBut [.tx, .ring, .call] s (phoneSamples p voice s) := by
  unfold phoneSamples
  try dsimp only
  repeat' (first
    | with_reducible apply SameBut.refl
    | (apply SameBut.step
       case h => first
         | with_reducible apply modPhone_keeps
         | with_reducible apply offerCounted_keeps
       case c => decide)
    | split)

theorem playoutExpired_keeps (p : Port) (s : State) :
    SameBut [.clock, .call, .ports, .portCounts] s (playoutExpired p s) := by
  unfold playoutExpired
  try dsimp only
  repeat' (first
    | with_reducible apply SameBut.refl
    | (apply SameBut.step
       case h => first
         | with_reducible apply sendService_keeps
         | with_reducible apply modPhone_keeps
         | with_reducible apply reach_keeps
       case c => decide)
    | split)

theorem releaseCopied_keeps (source : Nat) (c : Fin 16) (port : Port) (s : State) :
    SameBut [.tx, .call, .signs, .responses, .ports, .portCounts] s (releaseCopied source c port s) := by
  unfold releaseCopied
  try dsimp only
  repeat' (first
    | with_reducible apply SameBut.refl
    | (apply SameBut.step
       case h => first
         | with_reducible apply testClaim_keeps
         | with_reducible apply setCircuit_keeps
       case c => decide)
    | split)

theorem remoteExpired_keeps (c : Fin 16) (s : State) :
    SameBut [.clock, .tx, .call, .signs, .responses, .ports, .portCounts] s (remoteExpired c s) := by
  unfold remoteExpired
  try dsimp only
  repeat' (first
    | with_reducible apply SameBut.refl
    | (apply SameBut.step
       case h => first
         | with_reducible apply testClaim_keeps
         | with_reducible apply setCircuit_keeps
         | with_reducible apply reach_keeps
       case c => decide)
    | split)

theorem ringingExpired_keeps (p : Port) (s : State) :
    SameBut [.clock, .tx, .ring, .call, .signs, .responses, .ports, .portCounts] s (ringingExpired p s) := by
  unfold ringingExpired
  try dsimp only
  repeat' (first
    | with_reducible apply SameBut.refl
    | (apply SameBut.step
       case h => first
         | with_reducible apply testClaim_keeps
         | with_reducible apply modPhone_keeps
         | with_reducible apply releaseHeld_keeps
         | with_reducible apply reach_keeps
       case c => decide)
    | split)

theorem setFloor_keeps (floor : Byte) (s : State) :
    SameBut [.tx, .station, .call, .signs, .responses, .ports, .portCounts] s (setFloor floor s) := by
  unfold setFloor
  try dsimp only
  repeat' (first
    | with_reducible apply SameBut.refl
    | (apply SameBut.step
       case h => first
         | with_reducible apply settle_keeps
         | with_reducible apply testClaim_keeps
         | with_reducible apply State.setCall_keeps
         | with_reducible apply reject_keeps
       case c => decide)
    | split)

theorem targetRemoved_keeps (station : Nat) (s : State) :
    SameBut [.tx, .ring, .call, .signs, .responses, .ports, .portCounts] s (targetRemoved station s) := by
  unfold targetRemoved
  try dsimp only
  repeat' (first
    | with_reducible apply SameBut.refl
    | (apply SameBut.step
       case h => first
         | with_reducible apply testClaim_keeps
         | with_reducible apply loseTarget_keeps
       case c => decide)
    | (apply SameBut.step
       with_reducible apply foldl_keeps (ps := [.tx, .ring, .call, .signs, .responses, .ports, .portCounts])
       case c => decide
       intro _ _)
    | split)

theorem voiceDelivered_keeps (source : Nat) (c : Fin 16) (seq : BitVec 8) (voice : List Byte) (s : State) :
    SameBut [.call] s (voiceDelivered source c seq voice s) := by
  unfold voiceDelivered
  try dsimp only
  repeat' (first
    | with_reducible apply SameBut.refl
    | (apply SameBut.step
       case h => first
         | with_reducible apply modPhone_keeps
       case c => decide)
    | split)

end Sys2Proof.Machine
end

