-- ==== Sys2Proof/Laws/FrameUnits.lean ====
section
/-! SUPPORT. For each operation of the weather unit, the toll unit, the centre port and the port units: which parts of the state it may change
(`SameBut`). -/

namespace Sys2Proof.Machine

theorem setView_keeps (station : Nat) (e : Option ViewEntry) (s : State) :
    SameBut [.weather] s (setView station e s) := by
  unfold setView
  try dsimp only
  repeat' (first
    | with_reducible apply SameBut.refl
    | (apply SameBut.step
       case h => first
         | with_reducible apply State.setWeather_keeps
       case c => decide)
    | split)

theorem alarmCopied_keeps (source : Nat) (payload : List Byte) (s : State) :
    SameBut [.signs, .responses, .weather, .ports, .portCounts] s (alarmCopied source payload s) := by
  unfold alarmCopied
  try dsimp only
  repeat' (first
    | with_reducible apply SameBut.refl
    | (apply SameBut.step
       case h => first
         | with_reducible apply setView_keeps
         | with_reducible apply respond_keeps
       case c => decide)
    | split)

theorem sendAlarm_keeps (s : State) :
    SameBut [.tx, .ring, .weather] s (sendAlarm s) := by
  unfold sendAlarm
  try dsimp only
  repeat' (first
    | with_reducible apply SameBut.refl
    | (apply SameBut.step
       case h => first
         | with_reducible apply offerCounted_keeps
         | with_reducible apply State.setWeather_keeps
       case c => decide)
    | split)

theorem alarmExpired_keeps (s : State) :
    SameBut [.clock, .tx, .ring, .weather] s (alarmExpired s) := by
  unfold alarmExpired
  try dsimp only
  repeat' (first
    | with_reducible apply SameBut.refl
    | (apply SameBut.step
       case h => first
         | with_reducible apply sendAlarm_keeps
         | with_reducible apply reach_keeps
       case c => decide)
    | split)

theorem tellLight_keeps (s : State) :
    SameBut [.brightness, .ports, .portCounts] s (tellLight s) := by
  unfold tellLight
  try dsimp only
  repeat' (first
    | with_reducible apply SameBut.refl
    | (apply SameBut.step
       case h => first
         | with_reducible apply evaluateBrightness_keeps
       case c => decide)
    | split)

theorem tellLevels_keeps (before : Weather) (s : State) :
    SameBut [.tx, .ring, .signs, .responses, .weather, .ports, .portCounts] s (tellLevels before s) := by
  unfold tellLevels
  try dsimp only
  repeat' (first
    | with_reducible apply SameBut.refl
    | (apply SameBut.step
       case h => first
         | with_reducible apply respond_keeps
         | with_reducible apply sendAlarm_keeps
       case c => decide)
    | split)

theorem sendReportTo_keeps (bytes : List Byte) (a1 : List Nat) (s : State) :
    SameBut [.tx, .ring] s (sendReportTo bytes a1 s) := by
  induction a1 generalizing s with
  | nil => exact SameBut.refl _ _
  | cons _ _ ih =>
    unfold sendReportTo
    repeat' (first
      | with_reducible apply SameBut.refl
      | (apply SameBut.step
         case h => first
           | with_reducible apply ih
           | with_reducible apply offerCounted_keeps
         case c => decide)
      | split)

theorem sendReport_keeps (outcome : Byte) (s : State) :
    SameBut [.tx, .ring] s (sendReport outcome s) := by
  unfold sendReport
  try dsimp only
  repeat' (first
    | with_reducible apply SameBut.refl
    | (apply SameBut.step
       case h => first
         | with_reducible apply sendReportTo_keeps
       case c => decide)
    | split)

theorem evaluate_keeps (outcome : Option Byte) (s : State) :
    SameBut [.tx, .ring, .signs, .brightness, .responses, .weather, .ports, .portCounts] s (evaluate outcome s) := by
  unfold evaluate
  try dsimp only
  repeat' (first
    | with_reducible apply SameBut.refl
    | (apply SameBut.step
       case h => first
         | with_reducible apply tellLight_keeps
         | with_reducible apply tellLevels_keeps
         | with_reducible apply State.setWeather_keeps
         | with_reducible apply sendReport_keeps
       case c => decide)
    | split)

theorem pollAt_keeps (p : Port) (s : State) :
    SameBut [.tx, .ring, .signs, .brightness, .responses, .weather, .ports, .portCounts] s (pollAt p s) := by
  unfold pollAt
  try dsimp only
  repeat' (first
    | with_reducible apply SameBut.refl
    | (apply SameBut.step
       case h => first
         | with_reducible apply sendService_keeps
         | with_reducible apply State.setWeather_keeps
         | with_reducible apply evaluate_keeps
       case c => decide)
    | split)

theorem poll_keeps (s : State) :
    SameBut [.clock, .tx, .ring, .signs, .brightness, .responses, .weather, .ports, .portCounts] s (poll s) := by
  unfold poll
  try dsimp only
  repeat' (first
    | with_reducible apply SameBut.refl
    | (apply SameBut.step
       case h => first
         | with_reducible apply pollAt_keeps
         | with_reducible apply State.setWeather_keeps
         | with_reducible apply reach_keeps
       case c => decide)
    | split)

theorem readingIn_keeps (r : Reading) (s : State) :
    SameBut [.tx, .ring, .signs, .brightness, .responses, .weather, .ports, .portCounts] s (readingIn r s) := by
  unfold readingIn
  try dsimp only
  repeat' (first
    | with_reducible apply SameBut.refl
    | (apply SameBut.step
       case h => first
         | with_reducible apply evaluate_keeps
         | with_reducible apply State.setWeather_keeps
       case c => decide)
    | split)

theorem replyExpired_keeps (s : State) :
    SameBut [.clock, .tx, .ring, .signs, .brightness, .responses, .weather, .ports, .portCounts] s (replyExpired s) := by
  unfold replyExpired
  try dsimp only
  repeat' (first
    | with_reducible apply SameBut.refl
    | (apply SameBut.step
       case h => first
         | with_reducible apply evaluate_keeps
         | with_reducible apply State.setWeather_keeps
         | with_reducible apply reach_keeps
       case c => decide)
    | split)

theorem setFog_keeps (q : LimitParams) (s : State) :
    SameBut [.station, .weather] s (setFog q s) := by
  unfold setFog
  try dsimp only
  repeat' (first
    | with_reducible apply SameBut.refl
    | (apply SameBut.step
       case h => first
         | with_reducible apply State.setWeather_keeps
         | with_reducible apply reject_keeps
       case c => decide)
    | split)

theorem setIce_keeps (q : LimitParams) (s : State) :
    SameBut [.station, .weather] s (setIce q s) := by
  unfold setIce
  try dsimp only
  repeat' (first
    | with_reducible apply SameBut.refl
    | (apply SameBut.step
       case h => first
         | with_reducible apply State.setWeather_keeps
         | with_reducible apply reject_keeps
       case c => decide)
    | split)

theorem setWind_keeps (q : LimitParams) (s : State) :
    SameBut [.station, .weather] s (setWind q s) := by
  unfold setWind
  try dsimp only
  repeat' (first
    | with_reducible apply SameBut.refl
    | (apply SameBut.step
       case h => first
         | with_reducible apply State.setWeather_keeps
         | with_reducible apply reject_keeps
       case c => decide)
    | split)

theorem setLimits_keeps (q : LimitParams) (s : State) :
    SameBut [.station, .weather] s (setLimits q s) := by
  unfold setLimits
  try dsimp only
  repeat' (first
    | with_reducible apply SameBut.refl
    | (apply SameBut.step
       case h => first
         | with_reducible apply setIce_keeps
         | with_reducible apply setFog_keeps
         | with_reducible apply setWind_keeps
         | with_reducible apply reject_keeps
       case c => decide)
    | split)

theorem setRate_keeps (interval : Byte) (s : State) :
    SameBut [.weather] s (setRate interval s) := by
  unfold setRate
  try dsimp only
  repeat' (first
    | with_reducible apply SameBut.refl
    | (apply SameBut.step
       case h => first
         | with_reducible apply State.setWeather_keeps
       case c => decide)
    | split)

theorem viewExpired_keeps (station : Nat) (s : State) :
    SameBut [.clock, .signs, .responses, .weather, .ports, .portCounts] s (viewExpired station s) := by
  unfold viewExpired
  try dsimp only
  repeat' (first
    | with_reducible apply SameBut.refl
    | (apply SameBut.step
       case h => first
         | with_reducible apply respond_keeps
         | with_reducible apply setView_keeps
         | with_reducible apply reach_keeps
       case c => decide)
    | split)

theorem weatherLinkLeft_keeps (s : State) :
    SameBut [.tx, .ring, .signs, .brightness, .responses, .weather, .ports, .portCounts] s (weatherLinkLeft s) := by
  unfold weatherLinkLeft
  try dsimp only
  repeat' (first
    | with_reducible apply SameBut.refl
    | (apply SameBut.step
       case h => first
         | with_reducible apply evaluate_keeps
         | with_reducible apply State.setWeather_keeps
       case c => decide)
    | split)

theorem weatherMute_keeps (s : State) :
    SameBut [.weather] s (weatherMute s) := by
  unfold weatherMute
  try dsimp only
  repeat' (first
    | with_reducible apply SameBut.refl
    | (apply SameBut.step
       case h => first
         | with_reducible apply State.setWeather_keeps
       case c => decide)
    | split)

theorem sendRecord_keeps (s : State) :
    SameBut [.tx, .toll] s (sendRecord s) := by
  unfold sendRecord
  try dsimp only
  repeat' (first
    | with_reducible apply SameBut.refl
    | (apply SameBut.step
       case h => first
         | with_reducible apply offer_keeps
         | with_reducible apply State.setToll_keeps
       case c => decide)
    | with_reducible refine SameBut.of_pair (by assumption) ?_
    | split)

theorem sendRecords_keeps (a0 : Nat) (s : State) :
    SameBut [.tx, .toll] s (sendRecords a0 s) := by
  induction a0 generalizing s with
  | zero => exact SameBut.refl _ _
  | succ _ ih =>
    unfold sendRecords
    repeat' (first
      | with_reducible apply SameBut.refl
      | (apply SameBut.step
         case h => first
           | with_reducible apply ih
           | with_reducible apply sendRecord_keeps
         case c => decide)
      | split)

theorem testSend_keeps (s : State) :
    SameBut [.tx, .toll] s (testSend s) := by
  unfold testSend
  try dsimp only
  repeat' (first
    | with_reducible apply SameBut.refl
    | (apply SameBut.step
       case h => first
         | with_reducible apply sendRecords_keeps
       case c => decide)
    | split)

theorem toGantry_keeps (f : Frame) (s : State) :
    SameBut [.ports, .portCounts] s (toGantry f s) := by
  unfold toGantry
  try dsimp only
  repeat' (first
    | with_reducible apply SameBut.refl
    | (apply SameBut.step
       case h => first
         | with_reducible apply sendService_keeps
       case c => decide)
    | split)

theorem sendDelivered_keeps (s : State) :
    SameBut [.ports, .portCounts] s (sendDelivered s) := by
  unfold sendDelivered
  try dsimp only
  repeat' (first
    | with_reducible apply SameBut.refl
    | (apply SameBut.step
       case h => first
         | with_reducible apply toGantry_keeps
       case c => decide)
    | split)

theorem ackProgress_keeps (o n : BitVec 16) (s : State) :
    SameBut [.tx, .toll, .ports, .portCounts] s (ackProgress o n s) := by
  unfold ackProgress
  try dsimp only
  repeat' (first
    | with_reducible apply SameBut.refl
    | (apply SameBut.step
       case h => first
         | with_reducible apply testSend_keeps
         | with_reducible apply sendDelivered_keeps
         | with_reducible apply State.setToll_keeps
       case c => decide)
    | split)

theorem answerToll_keeps (source : Nat) (answer : Byte) (n : BitVec 16) (s : State) :
    SameBut [.tx, .ring] s (answerToll source answer n s) := by
  unfold answerToll
  try dsimp only
  repeat' (first
    | with_reducible apply SameBut.refl
    | (apply SameBut.step
       case h => first
         | with_reducible apply offerCounted_keeps
       case c => decide)
    | split)

theorem closeChannel_keeps (s : State) :
    SameBut [.toll] s (closeChannel s) := by
  unfold closeChannel
  try dsimp only
  repeat' (first
    | with_reducible apply SameBut.refl
    | (apply SameBut.step
       case h => first
         | with_reducible apply State.setToll_keeps
       case c => decide)
    | split)

theorem downRefused_keeps (s : State) :
    SameBut [.toll] s (downRefused s) := by
  unfold downRefused
  try dsimp only
  repeat' (first
    | with_reducible apply SameBut.refl
    | (apply SameBut.step
       case h => first
         | with_reducible apply modTollCounters_keeps
       case c => decide)
    | split)

theorem setDown_keeps (i : Fin 2) (e : Option DownEntry) (s : State) :
    SameBut [.toll] s (setDown i e s) := by
  unfold setDown
  try dsimp only
  repeat' (first
    | with_reducible apply SameBut.refl
    | (apply SameBut.step
       case h => first
         | with_reducible apply State.setToll_keeps
       case c => decide)
    | split)

theorem sendDown_keeps (i : Fin 2) (centre : Nat) (q : TollBody) (s : State) :
    SameBut [.toll, .ports, .portCounts] s (sendDown i centre q s) := by
  unfold sendDown
  try dsimp only
  repeat' (first
    | with_reducible apply SameBut.refl
    | (apply SameBut.step
       case h => first
         | with_reducible apply toGantry_keeps
         | with_reducible apply setDown_keeps
       case c => decide)
    | split)

theorem downUndelivered_keeps (s : State) :
    SameBut [.toll] s (downUndelivered s) := by
  unfold downUndelivered
  try dsimp only
  repeat' (first
    | with_reducible apply SameBut.refl
    | (apply SameBut.step
       case h => first
         | with_reducible apply modTollCounters_keeps
       case c => decide)
    | split)

theorem downAgainst_keeps (i : Fin 2) (centre : Nat) (x : BitVec 16) (q : TollBody) (s : State) :
    SameBut [.toll, .ports, .portCounts] s (downAgainst i centre x q s) := by
  unfold downAgainst
  try dsimp only
  repeat' (first
    | with_reducible apply SameBut.refl
    | (apply SameBut.step
       case h => first
         | with_reducible apply sendDown_keeps
         | with_reducible apply modTollCounters_keeps
         | with_reducible apply toGantry_keeps
       case c => decide)
    | split)

theorem downAccepted_keeps (p : Port) (centre : Nat) (q : TollBody) (s : State) :
    SameBut [.toll, .ports, .portCounts] s (downAccepted p centre q s) := by
  unfold downAccepted
  try dsimp only
  repeat' (first
    | with_reducible apply SameBut.refl
    | (apply SameBut.step
       case h => first
         | with_reducible apply downRefused_keeps
         | with_reducible apply sendDown_keeps
         | with_reducible apply downUndelivered_keeps
         | with_reducible apply setDown_keeps
         | with_reducible apply downAgainst_keeps
       case c => decide)
    | split)

theorem offerSync_keeps (s : State) :
    SameBut [.tx, .ring] s (offerSync s) := by
  unfold offerSync
  try dsimp only
  repeat' (first
    | with_reducible apply SameBut.refl
    | (apply SameBut.step
       case h => first
         | with_reducible apply offerCounted_keeps
       case c => decide)
    | split)

theorem enterSyncing_keeps (centre : Nat) (s : State) :
    SameBut [.tx, .ring, .toll] s (enterSyncing centre s) := by
  unfold enterSyncing
  try dsimp only
  repeat' (first
    | with_reducible apply SameBut.refl
    | (apply SameBut.step
       case h => first
         | with_reducible apply offerSync_keeps
         | with_reducible apply State.setToll_keeps
       case c => decide)
    | split)

theorem followTollCentre_keeps (s : State) :
    SameBut [.tx, .ring, .toll] s (followTollCentre s) := by
  unfold followTollCentre
  try dsimp only
  repeat' (first
    | with_reducible apply SameBut.refl
    | (apply SameBut.step
       case h => first
         | with_reducible apply enterSyncing_keeps
         | with_reducible apply closeChannel_keeps
       case c => decide)
    | split)

theorem resync_keeps (s : State) :
    SameBut [.tx, .ring, .toll] s (resync s) := by
  unfold resync
  try dsimp only
  repeat' (first
    | with_reducible apply SameBut.refl
    | (apply SameBut.step
       case h => first
         | with_reducible apply enterSyncing_keeps
       case c => decide)
    | split)

theorem goBack_keeps (s : State) :
    SameBut [.tx, .ring, .toll] s (goBack s) := by
  unfold goBack
  try dsimp only
  repeat' (first
    | with_reducible apply SameBut.refl
    | (apply SameBut.step
       case h => first
         | with_reducible apply State.setToll_keeps
         | with_reducible apply resync_keeps
         | with_reducible apply testSend_keeps
       case c => decide)
    | split)

theorem plainAnswer_keeps (n : BitVec 16) (s : State) :
    SameBut [.tx, .ring, .toll, .ports, .portCounts] s (plainAnswer n s) := by
  unfold plainAnswer
  try dsimp only
  repeat' (first
    | with_reducible apply SameBut.refl
    | (apply SameBut.step
       case h => first
         | with_reducible apply resync_keeps
         | with_reducible apply modTollCounters_keeps
         | with_reducible apply ackProgress_keeps
       case c => decide)
    | split)

theorem recordBusy_keeps (s : State) :
    SameBut [.toll, .ports, .portCounts] s (recordBusy s) := by
  unfold recordBusy
  try dsimp only
  repeat' (first
    | with_reducible apply SameBut.refl
    | (apply SameBut.step
       case h => first
         | with_reducible apply toGantry_keeps
         | with_reducible apply modTollCounters_keeps
       case c => decide)
    | split)

theorem setExpected_keeps (source : Nat) (e : Option (BitVec 16)) (s : State) :
    SameBut [.toll] s (setExpected source e s) := by
  unfold setExpected
  try dsimp only
  repeat' (first
    | with_reducible apply SameBut.refl
    | (apply SameBut.step
       case h => first
         | with_reducible apply State.setToll_keeps
       case c => decide)
    | split)

theorem restartNotice_keeps (station : Nat) (s : State) :
    SameBut [.tx, .ring, .toll] s (restartNotice station s) := by
  unfold restartNotice
  try dsimp only
  repeat' (first
    | with_reducible apply SameBut.refl
    | (apply SameBut.step
       case h => first
         | with_reducible apply setExpected_keeps
         | with_reducible apply State.setToll_keeps
         | with_reducible apply resync_keeps
       case c => decide)
    | split)

theorem retransmit_keeps (s : State) :
    SameBut [.clock, .tx, .ring, .toll] s (retransmit s) := by
  unfold retransmit
  try dsimp only
  repeat' (first
    | with_reducible apply SameBut.refl
    | (apply SameBut.step
       case h => first
         | with_reducible apply goBack_keeps
         | with_reducible apply reach_keeps
       case c => decide)
    | split)

theorem strayAnswer_keeps (s : State) :
    SameBut [.toll] s (strayAnswer s) := by
  unfold strayAnswer
  try dsimp only
  repeat' (first
    | with_reducible apply SameBut.refl
    | (apply SameBut.step
       case h => first
         | with_reducible apply modTollCounters_keeps
       case c => decide)
    | split)

theorem syncAnswer_keeps (n : BitVec 16) (s : State) :
    SameBut [.tx, .toll] s (syncAnswer n s) := by
  unfold syncAnswer
  try dsimp only
  repeat' (first
    | with_reducible apply SameBut.refl
    | (apply SameBut.step
       case h => first
         | with_reducible apply testSend_keeps
         | with_reducible apply State.setToll_keeps
       case c => decide)
    | split)

theorem syncExpired_keeps (s : State) :
    SameBut [.clock, .tx, .ring, .toll] s (syncExpired s) := by
  unfold syncExpired
  try dsimp only
  repeat' (first
    | with_reducible apply SameBut.refl
    | (apply SameBut.step
       case h => first
         | with_reducible apply offerSync_keeps
         | with_reducible apply State.setToll_keeps
         | with_reducible apply reach_keeps
       case c => decide)
    | split)

theorem takeRecord_keeps (body : List Byte) (s : State) :
    SameBut [.tx, .toll, .ports, .portCounts] s (takeRecord body s) := by
  unfold takeRecord
  try dsimp only
  repeat' (first
    | with_reducible apply SameBut.refl
    | (apply SameBut.step
       case h => first
         | with_reducible apply testSend_keeps
         | with_reducible apply toGantry_keeps
         | with_reducible apply State.setToll_keeps
       case c => decide)
    | split)

theorem tollAck_keeps (source : Nat) (answer : Byte) (n : BitVec 16) (s : State) :
    SameBut [.tx, .ring, .toll, .ports, .portCounts] s (tollAck source answer n s) := by
  unfold tollAck
  try dsimp only
  repeat' (first
    | with_reducible apply SameBut.refl
    | (apply SameBut.step
       case h => first
         | with_reducible apply strayAnswer_keeps
         | with_reducible apply syncAnswer_keeps
         | with_reducible apply plainAnswer_keeps
         | with_reducible apply resync_keeps
         | with_reducible apply modTollCounters_keeps
       case c => decide)
    | split)

theorem tollDownIn_keeps (ownPort : Bool) (delivered : Bool) (source : Nat) (q : TollBody) (s : State) :
    SameBut [.toll, .ports, .portCounts] s (tollDownIn ownPort delivered source q s) := by
  unfold tollDownIn
  try dsimp only
  repeat' (first
    | with_reducible apply SameBut.refl
    | (apply SameBut.step
       case h => first
         | with_reducible apply downRefused_keeps
         | with_reducible apply downAccepted_keeps
       case c => decide)
    | split)

theorem tollLinkUp_keeps (s : State) :
    SameBut [.ports, .portCounts] s (tollLinkUp s) := by
  unfold tollLinkUp
  try dsimp only
  repeat' (first
    | with_reducible apply SameBut.refl
    | (apply SameBut.step
       case h => first
         | with_reducible apply sendDelivered_keeps
       case c => decide)
    | split)

theorem tollRecIn_keeps (source : Nat) (q : TollBody) (s : State) :
    SameBut [.tx, .ring, .toll, .ports, .portCounts, .centre] s (tollRecIn source q s) := by
  unfold tollRecIn
  try dsimp only
  repeat' (first
    | with_reducible apply SameBut.refl
    | (apply SameBut.step
       case h => first
         | with_reducible apply answerToll_keeps
         | with_reducible apply setExpected_keeps
         | with_reducible apply placeDelivery_keeps
         | with_reducible apply modTollCounters_keeps
         | with_reducible apply strayAnswer_keeps
       case c => decide)
    | split)

theorem tollRecordIn_keeps (body : List Byte) (s : State) :
    SameBut [.tx, .toll, .ports, .portCounts] s (tollRecordIn body s) := by
  unfold tollRecordIn
  try dsimp only
  repeat' (first
    | with_reducible apply SameBut.refl
    | (apply SameBut.step
       case h => first
         | with_reducible apply recordBusy_keeps
         | with_reducible apply toGantry_keeps
         | with_reducible apply modTollCounters_keeps
         | with_reducible apply takeRecord_keeps
       case c => decide)
    | split)

theorem tollSyncIn_keeps (source : Nat) (start : BitVec 16) (s : State) :
    SameBut [.tx, .ring, .toll] s (tollSyncIn source start s) := by
  unfold tollSyncIn
  try dsimp only
  repeat' (first
    | with_reducible apply SameBut.refl
    | (apply SameBut.step
       case h => first
         | with_reducible apply answerToll_keeps
         | with_reducible apply setExpected_keeps
         | with_reducible apply strayAnswer_keeps
       case c => decide)
    | split)

theorem centreLinkUp_keeps (p : Port) (s : State) :
    SameBut [.ports, .portCounts, .centre] s (centreLinkUp p s) := by
  unfold centreLinkUp
  try dsimp only
  repeat' (first
    | with_reducible apply SameBut.refl
    | (apply SameBut.step
       case h => first
         | with_reducible apply startNext_keeps
         | with_reducible apply sendService_keeps
       case c => decide)
    | split)

theorem pauseIfFull_keeps (p : Port) (s : State) :
    SameBut [.ports, .portCounts, .centre] s (pauseIfFull p s) := by
  unfold pauseIfFull
  try dsimp only
  repeat' (first
    | with_reducible apply SameBut.refl
    | (apply SameBut.step
       case h => first
         | with_reducible apply sendService_keeps
         | with_reducible apply State.setCentre_keeps
       case c => decide)
    | split)

theorem intakeFrame_keeps (p : Port) (bytes : List Byte) (s : State) :
    SameBut [.ports, .portCounts, .centre] s (intakeFrame p bytes s) := by
  unfold intakeFrame
  try dsimp only
  repeat' (first
    | with_reducible apply SameBut.refl
    | (apply SameBut.step
       case h => first
         | with_reducible apply pauseIfFull_keeps
         | with_reducible apply State.setCentre_keeps
         | with_reducible apply modPortCounts_keeps
       case c => decide)
    | split)

theorem keepStatus_keeps (bytes : List Byte) (s : State) :
    SameBut [.ports, .portCounts, .centre] s (keepStatus bytes s) := by
  unfold keepStatus
  try dsimp only
  repeat' (first
    | with_reducible apply SameBut.refl
    | (apply SameBut.step
       case h => first
         | with_reducible apply placeDelivery_keeps
       case c => decide)
    | split)

theorem offerCentre_keeps (delivered : Bool) (c : Cell) (s : State) :
    SameBut [.ports, .portCounts, .centre] s (offerCentre delivered c s) := by
  unfold offerCentre
  try dsimp only
  repeat' (first
    | with_reducible apply SameBut.refl
    | (apply SameBut.step
       case h => first
         | with_reducible apply placeDelivery_keeps
       case c => decide)
    | split)

theorem sendStatusTo_keeps (bytes : List Byte) (a1 : List Nat) (s : State) :
    SameBut [.tx, .ring] s (sendStatusTo bytes a1 s) := by
  induction a1 generalizing s with
  | nil => exact SameBut.refl _ _
  | cons _ _ ih =>
    unfold sendStatusTo
    repeat' (first
      | with_reducible apply SameBut.refl
      | (apply SameBut.step
         case h => first
           | with_reducible apply ih
           | with_reducible apply offerCounted_keeps
         case c => decide)
      | split)

theorem sendSection_keeps (bytes : List Byte) (stations : List Nat) (s : State) :
    SameBut [.tx, .ring, .ports, .portCounts, .centre] s (sendSection bytes stations s) := by
  unfold sendSection
  try dsimp only
  repeat' (first
    | with_reducible apply SameBut.refl
    | (apply SameBut.step
       case h => first
         | with_reducible apply keepStatus_keeps
         | with_reducible apply sendStatusTo_keeps
       case c => decide)
    | split)

theorem sendStatus_keeps (s : State) :
    SameBut [.tx, .ring, .station, .ports, .portCounts, .centre] s (sendStatus s) := by
  unfold sendStatus
  try dsimp only
  repeat' (first
    | with_reducible apply SameBut.refl
    | (apply SameBut.step
       case h => first
         | with_reducible apply sendSection_keeps
         | with_reducible apply State.setStation_keeps
       case c => decide)
    | split)

theorem statusPeriodEnds_keeps (s : State) :
    SameBut [.clock, .tx, .ring, .station, .ports, .portCounts, .centre] s (statusPeriodEnds s) := by
  unfold statusPeriodEnds
  try dsimp only
  repeat' (first
    | with_reducible apply SameBut.refl
    | (apply SameBut.step
       case h => first
         | with_reducible apply sendStatus_keeps
         | with_reducible apply State.setStation_keeps
         | with_reducible apply reach_keeps
       case c => decide)
    | split)

theorem aliveDue_keeps (p : Port) (s : State) :
    SameBut [.clock, .ports, .portCounts] s (aliveDue p s) := by
  unfold aliveDue
  try dsimp only
  repeat' (first
    | with_reducible apply SameBut.refl
    | (apply SameBut.step
       case h => first
         | with_reducible apply sendFrame_keeps
         | with_reducible apply reach_keeps
       case c => decide)
    | split)

theorem tellLeft_keeps (p : Port) (s : State) :
    SameBut [.tx, .ring, .call, .signs, .brightness, .responses, .weather, .ports, .portCounts] s (tellLeft p s) := by
  unfold tellLeft
  try dsimp only
  repeat' (first
    | with_reducible apply SameBut.refl
    | (apply SameBut.step
       case h => first
         | with_reducible apply phoneLinkLeft_keeps
         | with_reducible apply signLinkLeft_keeps
         | with_reducible apply weatherLinkLeft_keeps
       case c => decide)
    | split)

theorem leaveTo_keeps (p : Port) (link : Link) (s : State) :
    SameBut [.tx, .ring, .call, .signs, .brightness, .responses, .weather, .ports, .portCounts] s (leaveTo p link s) := by
  unfold leaveTo
  try dsimp only
  repeat' (first
    | with_reducible apply SameBut.refl
    | (apply SameBut.step
       case h => first
         | with_reducible apply tellLeft_keeps
         | with_reducible apply modPort_keeps
       case c => decide)
    | split)

theorem portDown_keeps (p : Port) (s : State) :
    SameBut [.tx, .ring, .call, .signs, .brightness, .responses, .weather, .ports, .portCounts] s (portDown p s) := by
  unfold portDown
  try dsimp only
  repeat' (first
    | with_reducible apply SameBut.refl
    | (apply SameBut.step
       case h => first
         | with_reducible apply leaveTo_keeps
         | with_reducible apply modPort_keeps
       case c => decide)
    | split)

theorem answerExpired_keeps (p : Port) (s : State) :
    SameBut [.clock, .tx, .ring, .call, .signs, .brightness, .responses, .weather, .ports, .portCounts] s (answerExpired p s) := by
  unfold answerExpired
  try dsimp only
  repeat' (first
    | with_reducible apply SameBut.refl
    | (apply SameBut.step
       case h => first
         | with_reducible apply modSign_keeps
         | with_reducible apply reach_keeps
         | with_reducible apply portDown_keeps
         | with_reducible apply resendStep_keeps
       case c => decide)
    | split)

theorem badFrameIn_keeps (s : State) :
    SameBut [.portCounts] s (badFrameIn s) := by
  unfold badFrameIn
  try dsimp only
  repeat' (first
    | with_reducible apply SameBut.refl
    | (apply SameBut.step
       case h => first
         | with_reducible apply modPortCounts_keeps
       case c => decide)
    | split)

theorem setRx_keeps (p : Port) (x : Option PartFrame) (s : State) :
    SameBut [.rx] s (setRx p x s) := State.setRx_keeps

theorem frameSent_keeps (p : Port) (delivery : Bool) (s : State) :
    SameBut [.ports, .centre] s (frameSent p delivery s) := by
  unfold frameSent
  try dsimp only
  repeat' (first
    | with_reducible apply SameBut.refl
    | (apply SameBut.step
       case h => first
         | with_reducible apply startNext_keeps
         | with_reducible apply modPort_keeps
       case c => decide)
    | split)

theorem deliverySent_keeps (s : State) :
    SameBut [.ports, .centre] s (deliverySent s) := by
  unfold deliverySent
  try dsimp only
  repeat' (first
    | with_reducible apply SameBut.refl
    | (apply SameBut.step
       case h => first
         | with_reducible apply frameSent_keeps
       case c => decide)
    | split)

theorem sendIdent_keeps (p : Port) (s : State) :
    SameBut [.ports, .portCounts] s (sendIdent p s) := by
  unfold sendIdent
  try dsimp only
  repeat' (first
    | with_reducible apply SameBut.refl
    | (apply SameBut.step
       case h => first
         | with_reducible apply sendFrame_keeps
       case c => decide)
    | split)

theorem sendGather_keeps (p : Port) (s : State) :
    SameBut [.tx, .ring, .ports] s (sendGather p s) := by
  unfold sendGather
  try dsimp only
  repeat' (first
    | with_reducible apply SameBut.refl
    | (apply SameBut.step
       case h => first
         | with_reducible apply modPort_keeps
         | with_reducible apply offerCounted_keeps
       case c => decide)
    | split)

theorem endPass_keeps (p : Port) (s : State) :
    SameBut [.tx, .ring, .ports, .portCounts] s (endPass p s) := by
  unfold endPass
  try dsimp only
  repeat' (first
    | with_reducible apply SameBut.refl
    | (apply SameBut.step
       case h => first
         | with_reducible apply sendIdent_keeps
         | with_reducible apply modPort_keeps
         | with_reducible apply sendGather_keeps
       case c => decide)
    | split)

theorem restartIdle_keeps (p : Port) (s : State) :
    SameBut [.ports] s (restartIdle p s) := by
  unfold restartIdle
  try dsimp only
  repeat' (first
    | with_reducible apply SameBut.refl
    | (apply SameBut.step
       case h => first
         | with_reducible apply modPort_keeps
       case c => decide)
    | split)

theorem passByteIn_keeps (p : Port) (b : Byte) (s : State) :
    SameBut [.tx, .ring, .ports] s (passByteIn p b s) := by
  unfold passByteIn
  try dsimp only
  repeat' (first
    | with_reducible apply SameBut.refl
    | (apply SameBut.step
       case h => first
         | with_reducible apply restartIdle_keeps
         | with_reducible apply modPort_keeps
         | with_reducible apply sendGather_keeps
       case c => decide)
    | split)

theorem passBytesIn_keeps (p : Port) (a1 : List Byte) (s : State) :
    SameBut [.tx, .ring, .ports] s (passBytesIn p a1 s) := by
  induction a1 generalizing s with
  | nil => exact SameBut.refl _ _
  | cons _ _ ih =>
    unfold passBytesIn
    repeat' (first
      | with_reducible apply SameBut.refl
      | (apply SameBut.step
         case h => first
           | with_reducible apply ih
           | with_reducible apply passByteIn_keeps
         case c => decide)
      | split)

theorem restartSilence_keeps (p : Port) (s : State) :
    SameBut [.ports] s (restartSilence p s) := by
  unfold restartSilence
  try dsimp only
  repeat' (first
    | with_reducible apply SameBut.refl
    | (apply SameBut.step
       case h => first
         | with_reducible apply modPort_keeps
       case c => decide)
    | split)

theorem tellUp_keeps (p : Port) (s : State) :
    SameBut [.call, .signs, .ports, .portCounts, .centre] s (tellUp p s) := by
  unfold tellUp
  try dsimp only
  repeat' (first
    | with_reducible apply SameBut.refl
    | (apply SameBut.step
       case h => first
         | with_reducible apply phoneLinkUp_keeps
         | with_reducible apply signLinkUp_keeps
         | with_reducible apply tollLinkUp_keeps
         | with_reducible apply centreLinkUp_keeps
       case c => decide)
    | split)

theorem setGeometry_keeps (p : Port) (size : Option (Byte × Byte)) (s : State) :
    SameBut [.signs] s (setGeometry p size s) := by
  unfold setGeometry
  try dsimp only
  repeat' (first
    | with_reducible apply SameBut.refl
    | (apply SameBut.step
       case h => first
         | with_reducible apply modSign_keeps
       case c => decide)
    | split)

theorem identRight_keeps (p : Port) (size : Option (Byte × Byte)) (s : State) :
    SameBut [.tx, .ring, .call, .signs, .brightness, .responses, .weather, .ports, .portCounts, .centre] s (identRight p size s) := by
  unfold identRight
  try dsimp only
  repeat' (first
    | with_reducible apply SameBut.refl
    | (apply SameBut.step
       case h => first
         | with_reducible apply leaveTo_keeps
         | with_reducible apply restartSilence_keeps
         | with_reducible apply modPort_keeps
         | with_reducible apply tellUp_keeps
         | with_reducible apply sendIdent_keeps
         | with_reducible apply setGeometry_keeps
       case c => decide)
    | split)

theorem identWrong_keeps (p : Port) (s : State) :
    SameBut [.tx, .ring, .call, .signs, .brightness, .responses, .weather, .ports, .portCounts] s (identWrong p s) := by
  unfold identWrong
  try dsimp only
  repeat' (first
    | with_reducible apply SameBut.refl
    | (apply SameBut.step
       case h => first
         | with_reducible apply sendIdent_keeps
         | with_reducible apply restartSilence_keeps
         | with_reducible apply leaveTo_keeps
       case c => decide)
    | split)

theorem identIn_keeps (p : Port) (kind : Byte) (size : Option (Byte × Byte)) (s : State) :
    SameBut [.tx, .ring, .call, .signs, .brightness, .responses, .weather, .ports, .portCounts, .centre] s (identIn p kind size s) := by
  unfold identIn
  try dsimp only
  repeat' (first
    | with_reducible apply SameBut.refl
    | (apply SameBut.step
       case h => first
         | with_reducible apply identRight_keeps
         | with_reducible apply identWrong_keeps
       case c => decide)
    | split)

theorem serviceFrame_keeps (p : Port) (a1 : RxFrame) (s : State) :
    SameBut [.tx, .ring, .call, .toll, .signs, .brightness, .responses, .weather, .ports, .portCounts, .centre] s (serviceFrame p a1 s) := by
  cases a1 <;> unfold serviceFrame
  try dsimp only
  repeat' (first
    | with_reducible apply SameBut.refl
    | (apply SameBut.step
       case h => first
         | with_reducible apply settle_keeps
         | with_reducible apply phoneOffHook_keeps
         | with_reducible apply phoneOnHook_keeps
         | with_reducible apply phoneAnswer_keeps
         | with_reducible apply phoneSamples_keeps
         | with_reducible apply signReady_keeps
         | with_reducible apply signBusy_keeps
         | with_reducible apply signRowsTaken_keeps
         | with_reducible apply signShown_keeps
         | with_reducible apply readingIn_keeps
         | with_reducible apply tollRecordIn_keeps
         | with_reducible apply intakeFrame_keeps
       case c => decide)
    | split)

theorem frameIn_keeps (p : Port) (f : RxFrame) (s : State) :
    SameBut [.tx, .ring, .call, .toll, .signs, .brightness, .responses, .weather, .ports, .portCounts, .centre] s (frameIn p f s) := by
  unfold frameIn
  try dsimp only
  repeat' (first
    | with_reducible apply SameBut.refl
    | (apply SameBut.step
       case h => first
         | with_reducible apply serviceFrame_keeps
         | with_reducible apply restartSilence_keeps
       case c => decide)
    | split)

theorem validFrame_keeps (p : Port) (f : RxFrame) (s : State) :
    SameBut [.tx, .ring, .call, .toll, .signs, .brightness, .responses, .weather, .ports, .portCounts, .centre] s (validFrame p f s) := by
  unfold validFrame
  try dsimp only
  repeat' (first
    | with_reducible apply SameBut.refl
    | (apply SameBut.step
       case h => first
         | with_reducible apply identIn_keeps
         | with_reducible apply frameIn_keeps
       case c => decide)
    | split)

theorem readBytes_keeps (p : Port) (stopped : Bool) (k : Nat) (bytes : List Byte) (s : State) :
    SameBut [.tx, .ring, .call, .toll, .signs, .brightness, .responses, .weather, .ports, .rx, .portCounts, .centre] s
      (readBytes p stopped k bytes s) := by
  induction k generalizing bytes s with
  | zero => exact SameBut.refl _ _
  | succ k ih =>
    cases bytes with
    | nil => exact SameBut.refl _ _
    | cons b rest =>
      unfold readBytes
      repeat' (first
        | with_reducible apply SameBut.refl
        | (apply SameBut.step
           case h => first
             | with_reducible apply ih
             | with_reducible apply validFrame_keeps
             | with_reducible apply badFrameIn_keeps
             | with_reducible apply setRx_keeps
           case c => decide)
        | split)

theorem takeBytes_keeps (p : Port) (stopped : Bool) (bytes : List Byte) (s : State) :
    SameBut [.tx, .ring, .call, .toll, .signs, .brightness, .responses, .weather, .ports, .rx, .portCounts, .centre] s
      (takeBytes p stopped bytes s) :=
  ((setRx_keeps p none s).mono (by decide)).trans (readBytes_keeps _ _ _ _ _)

theorem linkBytes_keeps (p : Port) (stopped : Bool) (bytes : List Byte) (s : State) :
    SameBut [.tx, .ring, .call, .toll, .signs, .brightness, .responses, .weather, .ports, .rx, .portCounts, .centre] s
      (linkBytes p stopped bytes s) := by
  unfold linkBytes
  try dsimp only
  repeat' (first
    | with_reducible apply SameBut.refl
    | (apply SameBut.step
       case h => first
         | with_reducible apply passBytesIn_keeps
         | with_reducible apply takeBytes_keeps
       case c => decide)
    | split)

theorem byteTimeout_keeps (p : Port) (s : State) :
    SameBut [.clock, .tx, .ring, .call, .toll, .signs, .brightness, .responses, .weather, .ports, .rx, .portCounts, .centre] s
      (byteTimeout p s) := by
  unfold byteTimeout
  split
  · exact ((reach_keeps _ _).mono (by decide)).trans ((linkBytes_keeps _ _ _ _).mono (by decide))
  · exact SameBut.refl _ _

theorem equipmentByte_keeps (p : Port) (b : Byte) (s : State) :
    SameBut [.tx, .ring, .call, .toll, .signs, .brightness, .responses, .weather, .ports, .rx, .portCounts, .centre] s
      (equipmentByte p b s) := linkBytes_keeps _ _ _ _

theorem frameArrives_keeps (p : Port) (f : RxFrame) (s : State) :
    SameBut [.tx, .ring, .call, .toll, .signs, .brightness, .responses, .weather, .ports, .rx, .portCounts, .centre] s
      (frameArrives p f s) := by
  unfold frameArrives
  split
  · exact (validFrame_keeps _ _ _).mono (by decide)
  · exact linkBytes_keeps _ _ _ _

theorem gatherExpired_keeps (p : Port) (s : State) :
    SameBut [.clock, .tx, .ring, .ports] s (gatherExpired p s) := by
  unfold gatherExpired
  try dsimp only
  repeat' (first
    | with_reducible apply SameBut.refl
    | (apply SameBut.step
       case h => first
         | with_reducible apply sendGather_keeps
         | with_reducible apply reach_keeps
       case c => decide)
    | split)

theorem idleExpired_keeps (p : Port) (s : State) :
    SameBut [.clock, .tx, .ring, .ports, .portCounts] s (idleExpired p s) := by
  unfold idleExpired
  try dsimp only
  repeat' (first
    | with_reducible apply SameBut.refl
    | (apply SameBut.step
       case h => first
         | with_reducible apply endPass_keeps
         | with_reducible apply reach_keeps
       case c => decide)
    | split)

theorem lineLossExpired_keeps (p : Port) (s : State) :
    SameBut [.clock, .tx, .ring, .ports, .portCounts] s (lineLossExpired p s) := by
  unfold lineLossExpired
  try dsimp only
  repeat' (first
    | with_reducible apply SameBut.refl
    | (apply SameBut.step
       case h => first
         | with_reducible apply modPort_keeps
         | with_reducible apply reach_keeps
         | with_reducible apply endPass_keeps
       case c => decide)
    | split)

theorem lineSignal_keeps (p : Port) (present : Bool) (s : State) :
    SameBut [.ports] s (lineSignal p present s) := by
  unfold lineSignal
  try dsimp only
  repeat' (first
    | with_reducible apply SameBut.refl
    | (apply SameBut.step
       case h => first
         | with_reducible apply modPort_keeps
       case c => decide)
    | split)

theorem openPass_keeps (p : Port) (centre : Nat) (code : BitVec 2) (s : State) :
    SameBut [.tx, .ring, .call, .signs, .brightness, .responses, .weather, .ports, .rx, .portCounts] s (openPass p centre code s) := by
  unfold openPass
  try dsimp only
  repeat' (first
    | with_reducible apply SameBut.refl
    | (apply SameBut.step
       case h => first
         | with_reducible apply leaveTo_keeps
         | with_reducible apply restartIdle_keeps
         | with_reducible apply setRx_keeps
         | with_reducible apply modPort_keeps
       case c => decide)
    | split)

theorem passCloseOn_keeps (p : Port) (s : State) :
    SameBut [.tx, .ring, .station, .ports, .portCounts] s (passCloseOn p s) := by
  unfold passCloseOn
  try dsimp only
  repeat' (first
    | with_reducible apply SameBut.refl
    | (apply SameBut.step
       case h => first
         | with_reducible apply endPass_keeps
         | with_reducible apply reject_keeps
       case c => decide)
    | split)

theorem passDelivered_keeps (source : Nat) (payload : List Byte) (s : State) :
    SameBut [.ports, .portCounts] s (passDelivered source payload s) := by
  unfold passDelivered
  try dsimp only
  repeat' (first
    | with_reducible apply SameBut.refl
    | (apply SameBut.step
       case h => first
         | with_reducible apply restartIdle_keeps
         | with_reducible apply modPort_keeps
         | with_reducible apply modPortCounts_keeps
       case c => decide)
    | split)

theorem passOpenOn_keeps (centre : Nat) (idle : Byte) (p : Port) (s : State) :
    SameBut [.tx, .ring, .station, .call, .signs, .brightness, .responses, .weather, .ports, .rx, .portCounts] s (passOpenOn centre idle p s) := by
  unfold passOpenOn
  try dsimp only
  repeat' (first
    | with_reducible apply SameBut.refl
    | (apply SameBut.step
       case h => first
         | with_reducible apply reject_keeps
         | with_reducible apply openPass_keeps
       case c => decide)
    | split)

theorem portMute_keeps (p : Port) (s : State) :
    SameBut [.tx, .ring, .ports, .portCounts] s (portMute p s) := by
  unfold portMute
  try dsimp only
  repeat' (first
    | with_reducible apply SameBut.refl
    | (apply SameBut.step
       case h => first
         | with_reducible apply endPass_keeps
       case c => decide)
    | split)

theorem portSilenceExpired_keeps (p : Port) (s : State) :
    SameBut [.clock, .tx, .ring, .call, .signs, .brightness, .responses, .weather, .ports, .portCounts] s (portSilenceExpired p s) := by
  unfold portSilenceExpired
  try dsimp only
  repeat' (first
    | with_reducible apply SameBut.refl
    | (apply SameBut.step
       case h => first
         | with_reducible apply portDown_keeps
         | with_reducible apply reach_keeps
       case c => decide)
    | split)

theorem rawFrame_keeps (p : Port) (f : Frame) (check : BitVec 16) (s : State) :
    SameBut [.tx, .ring, .call, .toll, .signs, .brightness, .responses, .weather, .ports, .rx, .portCounts, .centre] s
      (rawFrame p f check s) := linkBytes_keeps _ _ _ _

end Sys2Proof.Machine
end

