-- ==== Sys2Proof/Laws/FrameNode.lean ====
section
/-! SUPPORT. For each operation of the station table, the commands, the lines and the receive filter: which parts of the state it may change
(`SameBut`). -/

namespace Sys2Proof.Machine

theorem becomeActive_keeps (d : Time) (s : State) :
    SameBut [.clock, .station, .call] s (becomeActive d s) := by
  unfold becomeActive
  try dsimp only
  repeat' (first
    | with_reducible apply SameBut.refl
    | (apply SameBut.step
       case h => first
         | with_reducible apply reach_keeps
         | with_reducible apply State.setStation_keeps
         | with_reducible apply State.setCall_keeps
       case c => decide)
    | split)

theorem setHeard_keeps (station : Nat) (e : HeardEntry) (s : State) :
    SameBut [.station] s (setHeard station e s) := by
  unfold setHeard
  try dsimp only
  repeat' (first
    | with_reducible apply SameBut.refl
    | (apply SameBut.step
       case h => first
         | with_reducible apply State.setStation_keeps
       case c => decide)
    | split)

theorem tellSelections_keeps (before : State) (s : State) :
    SameBut [.tx, .ring, .call, .toll, .signs, .responses, .ports, .portCounts] s (tellSelections before s) := by
  unfold tellSelections
  try dsimp only
  repeat' (first
    | with_reducible apply SameBut.refl
    | (apply SameBut.step
       case h => first
         | with_reducible apply testClaim_keeps
         | with_reducible apply followTollCentre_keeps
       case c => decide)
    | split)

theorem changeHeard_keeps (station : Nat) (e : HeardEntry) (s : State) :
    SameBut [.tx, .ring, .station, .call, .toll, .signs, .responses, .ports, .portCounts] s (changeHeard station e s) := by
  unfold changeHeard
  try dsimp only
  repeat' (first
    | with_reducible apply SameBut.refl
    | (apply SameBut.step
       case h => first
         | with_reducible apply respond_keeps
         | with_reducible apply setHeard_keeps
         | with_reducible apply tellSelections_keeps
         | with_reducible apply targetRemoved_keeps
       case c => decide)
    | split)

theorem purgeInserts_keeps (s : State) :
    SameBut [.tx] s (purgeInserts s) := by
  unfold purgeInserts
  try dsimp only
  repeat' (first
    | with_reducible apply SameBut.refl
    | (apply SameBut.step
       case h => first
         | with_reducible apply State.setTx_keeps
       case c => decide)
    | split)

theorem signMuteOn_keeps (p : Port) (s : State) :
    SameBut [.signs] s (signMuteOn p s) := by
  unfold signMuteOn
  try dsimp only
  repeat' (first
    | with_reducible apply SameBut.refl
    | (apply SameBut.step
       case h => first
         | with_reducible apply signMute_keeps
       case c => decide)
    | split)

theorem enterMute_keeps (s : State) :
    SameBut [.tx, .ring, .station, .call, .toll, .signs, .responses, .weather, .ports, .portCounts, .centre] s (enterMute s) := by
  unfold enterMute
  try dsimp only
  repeat' (first
    | with_reducible apply SameBut.refl
    | (apply SameBut.step
       case h => first
         | with_reducible apply State.setStation_keeps
         | with_reducible apply State.setCentre_keeps
         | with_reducible apply purgeInserts_keeps
         | with_reducible apply portMute_keeps
         | with_reducible apply weatherMute_keeps
         | with_reducible apply signMuteOn_keeps
         | with_reducible apply closeChannel_keeps
         | with_reducible apply callMute_keeps
       case c => decide)
    | (apply SameBut.step
       with_reducible apply forPorts_keeps (ps := [.tx, .ring, .station, .call, .toll, .signs, .responses, .weather, .ports, .portCounts, .centre])
       case c => decide
       intro _ _)
    | split)

theorem firstAlarm_keeps (s : State) :
    SameBut [.tx, .ring, .weather] s (firstAlarm s) := by
  unfold firstAlarm
  try dsimp only
  repeat' (first
    | with_reducible apply SameBut.refl
    | (apply SameBut.step
       case h => first
         | with_reducible apply sendAlarm_keeps
       case c => decide)
    | split)

theorem heardExpired_keeps (station : Nat) (s : State) :
    SameBut [.clock, .tx, .ring, .station, .call, .toll, .signs, .responses, .ports, .portCounts] s (heardExpired station s) := by
  unfold heardExpired
  try dsimp only
  repeat' (first
    | with_reducible apply SameBut.refl
    | (apply SameBut.step
       case h => first
         | with_reducible apply changeHeard_keeps
         | with_reducible apply reach_keeps
       case c => decide)
    | split)

theorem noteRestart_keeps (source : Nat) (h : Hello) (s : State) :
    SameBut [.tx, .ring, .toll] s (noteRestart source h s) := by
  unfold noteRestart
  try dsimp only
  repeat' (first
    | with_reducible apply SameBut.refl
    | (apply SameBut.step
       case h => first
         | with_reducible apply restartNotice_keeps
       case c => decide)
    | split)

theorem helloCopied_keeps (source : Nat) (h : Hello) (s : State) :
    SameBut [.tx, .ring, .station, .call, .toll, .signs, .responses, .ports, .portCounts] s (helloCopied source h s) := by
  unfold helloCopied
  try dsimp only
  repeat' (first
    | with_reducible apply SameBut.refl
    | (apply SameBut.step
       case h => first
         | with_reducible apply noteRestart_keeps
         | with_reducible apply changeHeard_keeps
         | with_reducible apply setHeard_keeps
       case c => decide)
    | split)

theorem sendHello_keeps (s : State) :
    SameBut [.tx, .ring, .station] s (sendHello s) := by
  unfold sendHello
  try dsimp only
  repeat' (first
    | with_reducible apply SameBut.refl
    | (apply SameBut.step
       case h => first
         | with_reducible apply offer_keeps
         | with_reducible apply State.setStation_keeps
         | with_reducible apply insertDrop_keeps
       case c => decide)
    | with_reducible refine SameBut.of_pair (by assumption) ?_
    | split)

theorem helloPeriodEnds_keeps (s : State) :
    SameBut [.clock, .tx, .ring, .station] s (helloPeriodEnds s) := by
  unfold helloPeriodEnds
  try dsimp only
  repeat' (first
    | with_reducible apply SameBut.refl
    | (apply SameBut.step
       case h => first
         | with_reducible apply sendHello_keeps
         | with_reducible apply State.setStation_keeps
         | with_reducible apply reach_keeps
       case c => decide)
    | split)

theorem listeningExpired_keeps (s : State) :
    SameBut [.clock, .tx, .ring, .station, .call, .toll, .signs, .responses, .weather, .ports, .portCounts] s (listeningExpired s) := by
  unfold listeningExpired
  try dsimp only
  repeat' (first
    | with_reducible apply SameBut.refl
    | (apply SameBut.step
       case h => first
         | with_reducible apply firstAlarm_keeps
         | with_reducible apply followTollCentre_keeps
         | with_reducible apply testClaim_keeps
         | with_reducible apply sendHello_keeps
         | with_reducible apply becomeActive_keeps
       case c => decide)
    | split)

theorem ownHelloShown_keeps (stamp : BitVec 16) (s : State) :
    SameBut [.tx, .ring, .station, .call, .toll, .signs, .responses, .weather, .ports, .portCounts, .centre] s (ownHelloShown stamp s) := by
  unfold ownHelloShown
  try dsimp only
  repeat' (first
    | with_reducible apply SameBut.refl
    | (apply SameBut.step
       case h => first
         | with_reducible apply settle_keeps
         | with_reducible apply enterMute_keeps
       case c => decide)
    | split)

theorem actOnPorts_keeps {ps : List Part} {act : Port → State → State} (h : ∀ p s, SameBut ps s (act p s))
    {l : List Port} {s : State} : SameBut ps s (actOnPorts act l s) := by
  induction l generalizing s with
  | nil => exact SameBut.refl _ _
  | cons p rest ih => exact (h p s).trans ih

/-- A port command leaves unchanged what its action leaves unchanged, but for a reject. -/
theorem portCommand_keeps {ps : List Part} {a : Addressing} {fit : List Profile} {target : Byte}
    {act : Port → State → State} (h : ∀ p s, SameBut ps s (act p s)) {s : State} :
    SameBut (.station :: ps) s (portCommand a fit target act s) := by
  unfold portCommand
  have h' : ∀ p s, SameBut (.station :: ps) s (act p s) := fun p s => ⟨fun x hx => (h p s).same x (fun hm => hx (by simp [hm]))⟩
  split
  · exact actOnPorts_keeps h'
  · exact ⟨fun x hx => (reject_keeps _ _).same x (fun hm => hx (by simp_all))⟩

theorem setGroup_keeps (group : Byte) (mask : Byte) (s : State) :
    SameBut [.station] s (setGroup group mask s) := by
  unfold setGroup
  try dsimp only
  repeat' (first
    | with_reducible apply SameBut.refl
    | (apply SameBut.step
       case h => first
         | with_reducible apply State.setStation_keeps
         | with_reducible apply reject_keeps
       case c => decide)
    | split)

theorem dropOne_keeps (n : Nat) (s : State) :
    SameBut [.plates, .signs, .ports, .portCounts] s (dropOne n s) := by
  unfold dropOne
  try dsimp only
  repeat' (first
    | with_reducible apply SameBut.refl
    | (apply SameBut.step
       case h => first
         | with_reducible apply plateReported_keeps
         | with_reducible apply State.setPlates_keeps
       case c => decide)
    | split)

theorem dropCommand_keeps (plate : Byte) (s : State) :
    SameBut [.station, .plates, .signs, .ports, .portCounts] s (dropCommand plate s) := by
  unfold dropCommand
  try dsimp only
  repeat' (first
    | with_reducible apply SameBut.refl
    | (apply SameBut.step
       case h => first
         | with_reducible apply dropOne_keeps
         | with_reducible apply reject_keeps
       case c => decide)
    | split)

theorem dropEach_keeps (a0 : List Nat) (s : State) :
    SameBut [.plates, .signs, .ports, .portCounts] s (dropEach a0 s) := by
  induction a0 generalizing s with
  | nil => exact SameBut.refl _ _
  | cons _ _ ih =>
    unfold dropEach
    repeat' (first
      | with_reducible apply SameBut.refl
      | (apply SameBut.step
         case h => first
           | with_reducible apply ih
           | with_reducible apply dropOne_keeps
         case c => decide)
      | split)

theorem dropAll_keeps (s : State) :
    SameBut [.plates, .signs, .ports, .portCounts] s (dropAll s) := by
  unfold dropAll
  try dsimp only
  repeat' (first
    | with_reducible apply SameBut.refl
    | (apply SameBut.step
       case h => first
         | with_reducible apply dropEach_keeps
       case c => decide)
    | split)

theorem endPage_keeps (p : Port) (st : Staging) (s : State) :
    SameBut [.station, .signs, .ports, .portCounts] s (endPage p st s) := by
  unfold endPage
  try dsimp only
  repeat' (first
    | with_reducible apply SameBut.refl
    | (apply SameBut.step
       case h => first
         | with_reducible apply pageCommitted_keeps
         | with_reducible apply modSign_keeps
         | with_reducible apply reject_keeps
       case c => decide)
    | split)

theorem pageSetOn_keeps (q : PageParams) (p : Port) (s : State) :
    SameBut [.station, .signs, .ports, .portCounts] s (pageSetOn q p s) := by
  unfold pageSetOn
  try dsimp only
  repeat' (first
    | with_reducible apply SameBut.refl
    | (apply SameBut.step
       case h => first
         | with_reducible apply reject_keeps
         | with_reducible apply endPage_keeps
         | with_reducible apply modSign_keeps
       case c => decide)
    | split)

theorem showOn_keeps (page : Byte) (priority : Byte) (p : Port) (s : State) :
    SameBut [.station, .signs, .ports, .portCounts] s (showOn page priority p s) := by
  unfold showOn
  try dsimp only
  repeat' (first
    | with_reducible apply SameBut.refl
    | (apply SameBut.step
       case h => first
         | with_reducible apply removeClaim_keeps
         | with_reducible apply placeClaim_keeps
         | with_reducible apply reject_keeps
       case c => decide)
    | split)

theorem restartNode_keeps (s : State) :
    SameBut [.straps, .lines, .tx, .ring, .station, .call, .toll, .plates, .signs, .brightness, .responses, .weather, .ports, .rx, .portCounts, .centre] s (restartNode s) := by
  refine ⟨fun x hx => ?_⟩; cases x <;> first | rfl | simp at hx

theorem commandEffect_keeps (via : Via) (a1 : Command) (s : State) :
    SameBut [.straps, .lines, .tx, .ring, .station, .call, .toll, .plates, .signs, .brightness, .responses, .weather, .ports, .rx, .portCounts, .centre] s (commandEffect via a1 s) := by
  cases a1 <;> unfold commandEffect
  try dsimp only
  repeat' (first
    | with_reducible apply SameBut.refl
    | (apply SameBut.step
       case h => first
         | with_reducible apply setGroup_keeps
         | with_reducible apply setFloor_keeps
         | with_reducible apply callPhoneOn_keeps
         | with_reducible apply dropCommand_keeps
         | with_reducible apply dropAll_keeps
         | with_reducible apply pageSetOn_keeps
         | with_reducible apply showOn_keeps
         | with_reducible apply restoreSign_keeps
         | with_reducible apply setResponse_keeps
         | with_reducible apply clearResponses_keeps
         | with_reducible apply setRate_keeps
         | with_reducible apply setLimits_keeps
         | with_reducible apply passOpenOn_keeps
         | with_reducible apply passCloseOn_keeps
         | with_reducible apply restartNode_keeps
       case c => decide)
    | (apply SameBut.step
       with_reducible apply portCommand_keeps (ps := [.straps, .lines, .tx, .ring, .station, .call, .toll, .plates, .signs, .brightness, .responses, .weather, .ports, .rx, .portCounts, .centre])
       case c => decide
       intro _ _)
    | split)

theorem commandArrives_keeps (via : Via) (c : Command) (s : State) :
    SameBut [.straps, .lines, .tx, .ring, .station, .call, .toll, .plates, .signs, .brightness, .responses, .weather, .ports, .rx, .portCounts, .centre] s (commandArrives via c s) := by
  unfold commandArrives
  try dsimp only
  repeat' (first
    | with_reducible apply SameBut.refl
    | (apply SameBut.step
       case h => first
         | with_reducible apply reject_keeps
         | with_reducible apply commandEffect_keeps
       case c => decide)
    | split)

theorem whenActive_keeps {ps : List Part} {f : State → State} (h : ∀ s, SameBut ps s (f s)) {s : State} :
    SameBut ps s (whenActive f s) := by
  unfold whenActive
  split
  · exact h s
  · exact SameBut.refl _ _

theorem handClaim_keeps (c : Cell) (s : State) :
    SameBut [.tx, .call, .signs, .responses, .ports, .portCounts] s (handClaim c s).1 := by
  unfold handClaim
  try dsimp only
  repeat' (first
    | with_reducible apply SameBut.refl
    | (apply SameBut.step
       case h => first
         | with_reducible apply claimCopied_keeps
         | with_reducible apply settle_keeps
       case c => decide)
    | with_reducible refine SameBut.of_pair (by assumption) ?_
    | split)

theorem plateIn_keeps (ownPort : Bool) (source : Nat) (payload : List Byte) (s : State) :
    SameBut [.plates, .signs, .ports, .portCounts] s (plateIn ownPort source payload s) := by
  unfold plateIn
  try dsimp only
  repeat' (first
    | with_reducible apply SameBut.refl
    | (apply SameBut.step
       case h => first
         | with_reducible apply plateReported_keeps
         | with_reducible apply State.setPlates_keeps
       case c => decide)
    | split)

theorem handPlain_keeps (delivered : Bool) (ownPort : Bool) (c : Cell) (s : State) :
    SameBut [.straps, .lines, .tx, .ring, .station, .call, .toll, .plates, .signs, .brightness, .responses, .weather, .ports, .rx, .portCounts, .centre] s (handPlain delivered ownPort c s) := by
  unfold handPlain
  try dsimp only
  repeat' (first
    | with_reducible apply SameBut.refl
    | (apply SameBut.step
       case h => first
         | with_reducible apply voiceDelivered_keeps
         | with_reducible apply settle_keeps
         | with_reducible apply releaseCopied_keeps
         | with_reducible apply holdCopied_keeps
         | with_reducible apply helloCopied_keeps
         | with_reducible apply commandArrives_keeps
         | with_reducible apply tollRecIn_keeps
         | with_reducible apply tollAck_keeps
         | with_reducible apply tollSyncIn_keeps
         | with_reducible apply tollDownIn_keeps
         | with_reducible apply plateIn_keeps
         | with_reducible apply alarmCopied_keeps
         | with_reducible apply passDelivered_keeps
       case c => decide)
    | (apply SameBut.step
       with_reducible apply whenActive_keeps (ps := [.straps, .lines, .tx, .ring, .station, .call, .toll, .plates, .signs, .brightness, .responses, .weather, .ports, .rx, .portCounts, .centre])
       case c => decide
       intro _)
    | with_reducible apply SameBut.of_ite
    | split)

theorem handCell_keeps (delivered : Bool) (ownPort : Bool) (c : Cell) (s : State) :
    SameBut [.straps, .lines, .tx, .ring, .station, .call, .toll, .plates, .signs, .brightness, .responses, .weather, .ports, .rx, .portCounts, .centre] s (handCell delivered ownPort c s).1 := by
  unfold handCell
  try dsimp only
  repeat' (first
    | with_reducible apply SameBut.refl
    | (apply SameBut.step
       case h => first
         | with_reducible apply handClaim_keeps
         | with_reducible apply handPlain_keeps
       case c => decide)
    | with_reducible refine SameBut.of_pair (by assumption) ?_
    | split)

theorem insertIntake_keeps (c : Cell) (s : State) :
    SameBut [.tx, .ring] s (insertIntake c s) := by
  unfold insertIntake
  try dsimp only
  repeat' (first
    | with_reducible apply SameBut.refl
    | (apply SameBut.step
       case h => first
         | with_reducible apply offerCounted_keeps
       case c => decide)
    | split)

theorem routeIntake_keeps (c : Cell) (s : State) :
    SameBut [.straps, .lines, .tx, .ring, .station, .call, .toll, .plates, .signs, .brightness, .responses, .weather, .ports, .rx, .portCounts, .centre] s (routeIntake c s) := by
  unfold routeIntake
  try dsimp only
  repeat' (first
    | with_reducible apply SameBut.refl
    | (apply SameBut.step
       case h => first
         | with_reducible apply handCell_keeps
         | with_reducible apply insertIntake_keeps
       case c => decide)
    | with_reducible refine SameBut.of_pair (by assumption) ?_
    | split)

theorem goIfLow_keeps (s : State) :
    SameBut [.ports, .portCounts, .centre] s (goIfLow s) := by
  unfold goIfLow
  try dsimp only
  repeat' (first
    | with_reducible apply SameBut.refl
    | (apply SameBut.step
       case h => first
         | with_reducible apply sendService_keeps
         | with_reducible apply State.setCentre_keeps
       case c => decide)
    | split)

theorem moveIntake_keeps (s : State) :
    SameBut [.straps, .lines, .tx, .ring, .station, .call, .toll, .plates, .signs, .brightness, .responses, .weather, .ports, .rx, .portCounts, .centre] s (moveIntake s) := by
  unfold moveIntake
  try dsimp only
  repeat' (first
    | with_reducible apply SameBut.refl
    | (apply SameBut.step
       case h => first
         | with_reducible apply routeIntake_keeps
         | with_reducible apply goIfLow_keeps
         | with_reducible apply State.setCentre_keeps
       case c => decide)
    | split)

theorem advanceIntake_keeps (s : State) :
    SameBut [.straps, .lines, .tx, .ring, .station, .call, .toll, .plates, .signs, .brightness, .responses, .weather, .ports, .rx, .portCounts, .centre] s (advanceIntake s) := by
  unfold advanceIntake
  try dsimp only
  repeat' (first
    | with_reducible apply SameBut.refl
    | (apply SameBut.step
       case h => first
         | with_reducible apply moveIntake_keeps
       case c => decide)
    | split)

theorem partExpired_keeps (k : Fin 2) (s : State) :
    SameBut [.clock, .plates] s (partExpired k s) := by
  unfold partExpired
  try dsimp only
  repeat' (first
    | with_reducible apply SameBut.refl
    | (apply SameBut.step
       case h => first
         | with_reducible apply State.setPlates_keeps
         | with_reducible apply reach_keeps
       case c => decide)
    | split)

theorem countFlushed_keeps (n : Nat) (s : State) :
    SameBut [.ring] s (countFlushed n s) := by
  unfold countFlushed
  try dsimp only
  repeat' (first
    | with_reducible apply SameBut.refl
    | (apply SameBut.step
       case h => first
         | with_reducible apply modRing_keeps
       case c => decide)
    | split)

theorem flushTransit_keeps (l : Line) (s : State) :
    SameBut [.tx, .ring] s (flushTransit l s) := by
  unfold flushTransit
  try dsimp only
  repeat' (first
    | with_reducible apply SameBut.refl
    | (apply SameBut.step
       case h => first
         | with_reducible apply countFlushed_keeps
         | with_reducible apply modTx_keeps
       case c => decide)
    | split)

theorem moveTransit_keeps (l : Line) (dest : Line) (s : State) :
    SameBut [.tx, .ring] s (moveTransit l dest s) := by
  unfold moveTransit
  try dsimp only
  repeat' (first
    | with_reducible apply SameBut.refl
    | (apply SameBut.step
       case h => first
         | with_reducible apply countFlushed_keeps
         | with_reducible apply modTx_keeps
       case c => decide)
    | split)

theorem foldMoves_keeps (before : Fold) (after : Fold) (s : State) :
    SameBut [.tx, .ring] s (foldMoves before after s) := by
  unfold foldMoves
  try dsimp only
  repeat' (first
    | with_reducible apply SameBut.refl
    | (apply SameBut.step
       case h => first
         | with_reducible apply flushTransit_keeps
         | with_reducible apply moveTransit_keeps
       case c => decide)
    | split)

theorem changeLine_keeps (l : Line) (f : LineUnit → LineUnit) (s : State) :
    SameBut [.lines, .tx, .ring, .toll] s (changeLine l f s) := by
  unfold changeLine
  try dsimp only
  repeat' (first
    | with_reducible apply SameBut.refl
    | (apply SameBut.step
       case h => first
         | with_reducible apply modLine_keeps
         | with_reducible apply testSend_keeps
         | with_reducible apply foldMoves_keeps
       case c => decide)
    | split)

theorem lineDown_keeps (l : Line) (cause : DownCause) (s : State) :
    SameBut [.lines, .tx, .ring, .toll] s (lineDown l cause s) := by
  unfold lineDown
  try dsimp only
  repeat' (first
    | with_reducible apply SameBut.refl
    | (apply SameBut.step
       case h => first
         | with_reducible apply changeLine_keeps
       case c => decide)
    | split)

theorem badCellReported_keeps (l : Line) (s : State) :
    SameBut [.lines, .tx, .ring, .toll] s (badCellReported l s) := by
  unfold badCellReported
  try dsimp only
  repeat' (first
    | with_reducible apply SameBut.refl
    | (apply SameBut.step
       case h => first
         | with_reducible apply modLine_keeps
         | with_reducible apply lineDown_keeps
       case c => decide)
    | split)

theorem deafExpired_keeps (l : Line) (s : State) :
    SameBut [.clock, .lines, .tx, .ring, .toll] s (deafExpired l s) := by
  unfold deafExpired
  try dsimp only
  repeat' (first
    | with_reducible apply SameBut.refl
    | (apply SameBut.step
       case h => first
         | with_reducible apply lineDown_keeps
         | with_reducible apply modLine_keeps
         | with_reducible apply reach_keeps
       case c => decide)
    | split)

theorem validWord_keeps (l : Line) (s : State) :
    SameBut [.lines] s (validWord l s) := by
  unfold validWord
  try dsimp only
  repeat' (first
    | with_reducible apply SameBut.refl
    | (apply SameBut.step
       case h => first
         | with_reducible apply modLine_keeps
       case c => decide)
    | split)

theorem fillArrives_keeps (l : Line) (w : FillWord) (good : Bool) (s : State) :
    SameBut [.lines] s (fillArrives l w good s) := by
  unfold fillArrives
  try dsimp only
  repeat' (first
    | with_reducible apply SameBut.refl
    | (apply SameBut.step
       case h => first
         | with_reducible apply modLine_keeps
         | with_reducible apply validWord_keeps
       case c => decide)
    | split)

theorem handPlace_keeps (k : Nat) (s : State) :
    SameBut [.straps, .lines, .tx, .ring, .station, .call, .toll, .plates, .signs, .brightness, .responses, .weather, .ports, .rx, .portCounts, .centre] s (handPlace k s) := by
  induction k generalizing s with
  | zero => exact (testSend_keeps s).mono (by decide)
  | succ k ih =>
    unfold handPlace
    try dsimp only
    repeat' (first
      | with_reducible apply SameBut.refl
      | (apply SameBut.step
         case h => first
           | with_reducible apply ih
           | with_reducible apply moveIntake_keeps
           | with_reducible apply State.setToll_keeps
           | with_reducible apply sendRecord_keeps
           | with_reducible apply testSend_keeps
         case c => decide)
      | split)

theorem placeFreed_keeps (s : State) :
    SameBut [.straps, .lines, .tx, .ring, .station, .call, .toll, .plates, .signs, .brightness, .responses, .weather, .ports, .rx, .portCounts, .centre] s (placeFreed s) := handPlace_keeps _ _

theorem provingExpired_keeps (l : Line) (s : State) :
    SameBut [.clock, .lines, .tx, .ring, .toll] s (provingExpired l s) := by
  unfold provingExpired
  try dsimp only
  repeat' (first
    | with_reducible apply SameBut.refl
    | (apply SameBut.step
       case h => first
         | with_reducible apply changeLine_keeps
         | with_reducible apply reach_keeps
       case c => decide)
    | split)

theorem silenceExpired_keeps (l : Line) (s : State) :
    SameBut [.clock, .lines, .tx, .ring, .toll] s (silenceExpired l s) := by
  unfold silenceExpired
  try dsimp only
  repeat' (first
    | with_reducible apply SameBut.refl
    | (apply SameBut.step
       case h => first
         | with_reducible apply lineDown_keeps
         | with_reducible apply modLine_keeps
         | with_reducible apply reach_keeps
       case c => decide)
    | split)

theorem windowEnds_keeps (l : Line) (s : State) :
    SameBut [.clock, .lines] s (windowEnds l s) := by
  unfold windowEnds
  try dsimp only
  repeat' (first
    | with_reducible apply SameBut.refl
    | (apply SameBut.step
       case h => first
         | with_reducible apply modLine_keeps
         | with_reducible apply reach_keeps
       case c => decide)
    | split)

theorem wordEnds_keeps (l : Line) (s : State) :
    SameBut [.clock, .straps, .lines, .tx, .ring, .station, .call, .toll, .plates, .signs, .brightness, .responses, .weather, .ports, .rx, .portCounts, .centre] s (wordEnds l s) := by
  unfold wordEnds
  try dsimp only
  repeat' (first
    | with_reducible apply SameBut.refl
    | (apply SameBut.step
       case h => first
         | with_reducible apply reach_keeps
         | with_reducible apply modTx_keeps
         | with_reducible apply placeFreed_keeps
       case c => decide)
    | split)

theorem badCell_keeps (l : Line) (s : State) :
    SameBut [.lines, .tx, .ring, .toll] s (badCell l s) := by
  unfold badCell
  try dsimp only
  repeat' (first
    | with_reducible apply SameBut.refl
    | (apply SameBut.step
       case h => first
         | with_reducible apply badCellReported_keeps
         | with_reducible apply modRing_keeps
       case c => decide)
    | split)

theorem toCentre_keeps (delivered : Bool) (c : Cell) (s : State) :
    SameBut [.ports, .portCounts, .centre] s (toCentre delivered c s) := by
  unfold toCentre
  try dsimp only
  repeat' (first
    | with_reducible apply SameBut.refl
    | (apply SameBut.step
       case h => first
         | with_reducible apply offerCentre_keeps
       case c => decide)
    | split)

theorem deliver_keeps (c : Cell) (s : State) :
    SameBut [.straps, .lines, .tx, .ring, .station, .call, .toll, .plates, .signs, .brightness, .responses, .weather, .ports, .rx, .portCounts, .centre] s (deliver c s) := by
  unfold deliver
  try dsimp only
  repeat' (first
    | with_reducible apply SameBut.refl
    | (apply SameBut.step
       case h => first
         | with_reducible apply toCentre_keeps
         | with_reducible apply handCell_keeps
       case c => decide)
    | with_reducible refine SameBut.of_pair (by assumption) ?_
    | split)

theorem strip_keeps (c : Cell) (s : State) :
    SameBut [.tx, .ring, .call, .signs, .responses, .ports, .portCounts] s (strip c s) := by
  unfold strip
  try dsimp only
  repeat' (first
    | with_reducible apply SameBut.refl
    | (apply SameBut.step
       case h => first
         | with_reducible apply modRing_keeps
         | with_reducible apply settle_keeps
         | with_reducible apply claimReturned_keeps
       case c => decide)
    | split)

theorem enqueueTransit_keeps (l : Line) (c : Cell) (s : State) :
    SameBut [.tx, .ring] s (enqueueTransit l c s) := by
  unfold enqueueTransit
  try dsimp only
  repeat' (first
    | with_reducible apply SameBut.refl
    | (apply SameBut.step
       case h => first
         | with_reducible apply modTx_keeps
         | with_reducible apply modRing_keeps
       case c => decide)
    | split)

theorem forward_keeps (l : Line) (c : Cell) (s : State) :
    SameBut [.tx, .ring] s (forward l c s) := by
  unfold forward
  try dsimp only
  repeat' (first
    | with_reducible apply SameBut.refl
    | (apply SameBut.step
       case h => first
         | with_reducible apply enqueueTransit_keeps
       case c => decide)
    | split)

theorem copyForward_keeps (l : Line) (c : Cell) (s : State) :
    SameBut [.straps, .lines, .tx, .ring, .station, .call, .toll, .plates, .signs, .brightness, .responses, .weather, .ports, .rx, .portCounts, .centre] s (copyForward l c s) := by
  unfold copyForward
  try dsimp only
  repeat' (first
    | with_reducible apply SameBut.refl
    | (apply SameBut.step
       case h => first
         | with_reducible apply handCell_keeps
         | with_reducible apply forward_keeps
         | with_reducible apply toCentre_keeps
       case c => decide)
    | with_reducible refine SameBut.of_pair (by assumption) ?_
    | split)

theorem routeCell_keeps (l : Line) (c : Cell) (s : State) :
    SameBut [.straps, .lines, .tx, .ring, .station, .call, .toll, .plates, .signs, .brightness, .responses, .weather, .ports, .rx, .portCounts, .centre] s (routeCell l c s) := by
  unfold routeCell
  try dsimp only
  repeat' (first
    | with_reducible apply SameBut.refl
    | (apply SameBut.step
       case h => first
         | with_reducible apply deliver_keeps
         | with_reducible apply strip_keeps
         | with_reducible apply copyForward_keeps
       case c => decide)
    | split)

theorem showOwnHello_keeps (c : Cell) (s : State) :
    SameBut [.tx, .ring, .station, .call, .toll, .signs, .responses, .weather, .ports, .portCounts, .centre] s (showOwnHello c s) := by
  unfold showOwnHello
  try dsimp only
  repeat' (first
    | with_reducible apply SameBut.refl
    | (apply SameBut.step
       case h => first
         | with_reducible apply ownHelloShown_keeps
       case c => decide)
    | split)

theorem judgeCell_keeps (l : Line) (c : Cell) (s : State) :
    SameBut [.straps, .lines, .tx, .ring, .station, .call, .toll, .plates, .signs, .brightness, .responses, .weather, .ports, .rx, .portCounts, .centre] s (judgeCell l c s) := by
  unfold judgeCell
  try dsimp only
  repeat' (first
    | with_reducible apply SameBut.refl
    | (apply SameBut.step
       case h => first
         | with_reducible apply modRing_keeps
         | with_reducible apply routeCell_keeps
         | with_reducible apply showOwnHello_keeps
       case c => decide)
    | split)

theorem cellArrivesOn_keeps (l : Line) (c : Cell) (s : State) :
    SameBut [.straps, .lines, .tx, .ring, .station, .call, .toll, .plates, .signs, .brightness, .responses, .weather, .ports, .rx, .portCounts, .centre] s (cellArrivesOn l c s) := by
  unfold cellArrivesOn
  try dsimp only
  repeat' (first
    | with_reducible apply SameBut.refl
    | (apply SameBut.step
       case h => first
         | with_reducible apply modRing_keeps
         | with_reducible apply validWord_keeps
         | with_reducible apply judgeCell_keeps
         | with_reducible apply badCell_keeps
       case c => decide)
    | split)

end Sys2Proof.Machine
end

