-- ==== Sys2Proof/Laws/Memory.lean ====
section
/-! SUPPORT. The plate store's memory (R107): what a byte reads after a write, and that every write keeps the canonical
form. -/

namespace Sys2Proof.Machine

/-- A byte read back from a list whose addresses all lie above it is an unlisted one. -/
theorem memRead_below {m : List Host.Cell} {lo a : Nat} (h : memSorted lo m = true) (ha : a < lo) :
    memRead m a = 0 := by
  induction m generalizing lo with
  | nil => rfl
  | cons x rest ih =>
    obtain ⟨k, b⟩ := x
    simp only [memSorted, Bool.and_eq_true, decide_eq_true_eq] at h
    have hk : k ≠ a := by omega
    simp only [memRead, hk, if_false]
    exact ih h.2 (by omega)

/-- The canonical form from an address on holds from every lower address on. -/
theorem memSorted_mono {m : List Host.Cell} {lo lo' : Nat} (h : memSorted lo m = true) (hl : lo' ≤ lo) :
    memSorted lo' m = true := by
  cases m with
  | nil => rfl
  | cons x rest =>
    obtain ⟨k, b⟩ := x
    simp only [memSorted, Bool.and_eq_true, decide_eq_true_eq] at h ⊢
    exact ⟨⟨by omega, h.1.2⟩, h.2⟩

/-- A write at or above an address keeps the canonical form from that address on. -/
theorem memSorted_memWrite {m : List Host.Cell} {lo a : Nat} {b : Byte} (h : memSorted lo m = true) (ha : lo ≤ a) :
    memSorted lo (memWrite m a b) = true := by
  induction m generalizing lo with
  | nil =>
    unfold memWrite
    split <;> simp_all [memSorted]
  | cons x rest ih =>
    obtain ⟨k, y⟩ := x
    simp only [memSorted, Bool.and_eq_true, decide_eq_true_eq] at h
    obtain ⟨⟨hk, hy⟩, hr⟩ := h
    simp only [memWrite]
    split
    · split
      · simp_all [memSorted]
      · rename_i h1 h2
        simp only [memSorted, Bool.and_eq_true, decide_eq_true_eq]
        exact ⟨⟨ha, h2⟩, ⟨by omega, hy⟩, hr⟩
    · split
      · split
        · exact memSorted_mono hr (by omega)
        · rename_i h1 h2 h3
          simp only [memSorted, Bool.and_eq_true, decide_eq_true_eq]
          exact ⟨⟨ha, h3⟩, h2 ▸ hr⟩
      · simp only [memSorted, Bool.and_eq_true, decide_eq_true_eq]
        exact ⟨⟨hk, hy⟩, ih hr (by omega)⟩

/-- Every write of a byte keeps the canonical form. -/
theorem memWf_memWrite {m : List Host.Cell} {a : Nat} {b : Byte} (h : memWf m = true) : memWf (memWrite m a b) = true :=
  memSorted_memWrite h (Nat.zero_le a)

/-- Every write of bytes keeps the canonical form. -/
theorem memWf_memWriteAll {bytes : List Byte} {m : List Host.Cell} {a : Nat} (h : memWf m = true) :
    memWf (memWriteAll m a bytes) = true := by
  induction bytes generalizing m a with
  | nil => exact h
  | cons b rest ih => exact ih (memWf_memWrite h)

/-- The canonical form holds after reset. -/
theorem memWf_reset : memWf State.reset.plates.mem = true := rfl

theorem memRead_memWrite_aux {m : List Host.Cell} {lo a : Nat} {b : Byte} (h : memSorted lo m = true) (c : Nat) :
    memRead (memWrite m a b) c = if c = a then b else memRead m c := by
  induction m generalizing lo with
  | nil =>
    unfold memWrite
    split
    · simp_all [memRead]
    · simp only [memRead]
      split <;> split <;> simp_all
  | cons x rest ih =>
    obtain ⟨k, y⟩ := x
    simp only [memSorted, Bool.and_eq_true, decide_eq_true_eq] at h
    obtain ⟨⟨hk, hy⟩, hr⟩ := h
    simp only [memWrite]
    split
    · rename_i h1
      have below : memRead rest a = 0 := memRead_below hr (by omega)
      split
      · by_cases hc : c = a
        · have hka : k ≠ a := by omega
          simp_all [memRead]
        · simp [hc]
      · by_cases hc : c = a
        · simp [memRead, hc]
        · have : a ≠ c := fun e => hc e.symm
          simp [memRead, hc, this]
    · rename_i h1
      split
      · rename_i h2
        subst h2
        have below : memRead rest a = 0 := memRead_below hr (by omega)
        split
        · by_cases hc : c = a
          · simp_all
          · have : a ≠ c := fun e => hc e.symm
            simp [memRead, hc, this]
        · by_cases hc : c = a
          · simp [memRead, hc]
          · have : a ≠ c := fun e => hc e.symm
            simp [memRead, hc, this]
      · rename_i h2
        by_cases hkc : k = c
        · have : c ≠ a := by omega
          simp [memRead, hkc, this]
        · simp [memRead, hkc, ih hr]

/-- What a byte reads after a write: the byte written at its address, and the byte from before at every other. -/
theorem memRead_memWrite {m : List Host.Cell} {a : Nat} {b : Byte} (h : memWf m = true) (c : Nat) :
    memRead (memWrite m a b) c = if c = a then b else memRead m c := memRead_memWrite_aux h c

/-- What a byte reads after bytes are written from `a` on: the byte written there inside their range, and the byte
from before outside it. -/
theorem memRead_memWriteAll {bytes : List Byte} {m : List Host.Cell} {a : Nat} (h : memWf m = true) (c : Nat) :
    memRead (memWriteAll m a bytes) c =
      if a ≤ c ∧ c < a + bytes.length then bytes.getD (c - a) 0 else memRead m c := by
  induction bytes generalizing m a with
  | nil =>
    simp only [memWriteAll, List.length_nil, Nat.add_zero]
    split
    · omega
    · rfl
  | cons b rest ih =>
    simp only [memWriteAll, ih (memWf_memWrite h), memRead_memWrite h, List.length_cons]
    by_cases h1 : c = a
    · subst h1
      have h2 : ¬(c + 1 ≤ c ∧ c < c + 1 + rest.length) := by omega
      have h3 : c ≤ c ∧ c < c + (rest.length + 1) := by omega
      simp [h2]
    · by_cases h2 : a + 1 ≤ c ∧ c < a + 1 + rest.length
      · have h3 : a ≤ c ∧ c < a + (rest.length + 1) := by omega
        have h4 : c - a = c - (a + 1) + 1 := by omega
        simp only [h2, h3, and_self, if_true, h4, List.getD_cons_succ]
      · have h3 : ¬(a ≤ c ∧ c < a + (rest.length + 1)) := by omega
        simp only [h2, h3, h1, if_false]

end Sys2Proof.Machine
end

