-- ==== Sys2Proof/WellFormed.lean ====
section
/-! DEFINITION. Well-formed commands: the shapes that the spec gives a cell, a frame and a command's operands. The
receive filter, the port units and the station table judge every value; these checks name only what no line, no link
and no table could carry at all. -/

namespace Sys2Proof

/-- The checks a command can fail, by name. -/
inductive Violation where
  /-- A cell's payload is not 56 bytes (chapter 1, "The cell"). -/
  | payloadSize
  /-- A SAMPLES frame does not carry 40 samples (R82). -/
  | sampleCount
  /-- A SHOWN frame carries more row checks than 255 payload bytes hold (chapter 10, the envelope). -/
  | checkCount
  /-- A frame's payload is longer than 255 bytes (chapter 10, the envelope). -/
  | frameSize
  /-- A table entry is named by a number that is no station number, 1 to 60 (R48, R172). -/
  | stationNumber
  /-- A command's source is no station number, 1 to 60 (R13). -/
  | sourceNumber
  /-- A PAGE-SET carries another number of records than n says, or more than 7 (R120). -/
  | recordCount
  deriving DecidableEq, Repr

/-- The violation, where a check fails. -/
def require (ok : Bool) (v : Violation) : List Violation := if ok then [] else [v]

/-- 1 to 60. -/
def stationNumber (n : Nat) : Bool := decide (1 ≤ n ∧ n ≤ 60)

/-- The checks of how a COMMAND reached the station table. -/
def viaViolations (via : Via) : List Violation := require (stationNumber via.source.toNat) .sourceNumber

/-- The checks of a PAGE-SET's parameters. -/
def pageViolations (q : PageParams) : List Violation :=
  require (decide (q.records.length = min q.n.toNat 7)) .recordCount

/-- The checks that a command fails. -/
def violations : Instr → List Violation
  | .reset _ => []
  | .wordEnd _ => []
  | .fillWordArrives _ _ _ => []
  | .wordCutShort _ => []
  | .cellArrives _ c => require (decide (c.payload.length = 56)) .payloadSize
  | .silenceTimerExpires _ => []
  | .errorWindowEnds _ => []
  | .deafTimerExpires _ => []
  | .provingTimerExpires _ => []
  | .listeningTimerExpires => []
  | .helloPeriod => []
  | .heardEntryExpires station => require (stationNumber station) .stationNumber
  | .groupSet via _ _ => viaViolations via
  | .callFloor via _ => viaViolations via
  | .callPhone via _ _ => viaViolations via
  | .plateDrop via _ => viaViolations via
  | .plateDropAll via => viaViolations via
  | .pageSet via _ params => viaViolations via ++ pageViolations params
  | .showPage via _ _ _ => viaViolations via
  | .signRestore via _ => viaViolations via
  | .responseSet via _ => viaViolations via
  | .responseClear via _ => viaViolations via
  | .wxRate via _ _ => viaViolations via
  | .wxLimits via _ _ => viaViolations via
  | .passOpen via _ _ => viaViolations via
  | .passClose via _ => viaViolations via
  | .restart via => viaViolations via
  | .offHook _ _ => []
  | .onHook _ => []
  | .answer _ => []
  | .samples _ voice => require (decide (voice.length = 40)) .sampleCount
  | .attemptTimerExpires => []
  | .backoffTimerExpires _ => []
  | .holdPeriod => []
  | .remoteEntryExpires _ => []
  | .ringingTimerExpires _ => []
  | .playoutTimer _ => []
  | .record _ body => require (decide (body.length ≤ 255)) .frameSize
  | .syncTimerExpires => []
  | .retransmitDeadline => []
  | .partTimerExpires _ => []
  | .layerApply _ => []
  | .ready _ => []
  | .signBusy _ => []
  | .rowsTaken _ _ => []
  | .shown _ _ checks => require (decide (checks.length ≤ 127)) .checkCount
  | .retryTimerExpires _ => []
  | .answerTimerExpires _ => []
  | .lingerTimerExpires _ => []
  | .pollTime => []
  | .reading _ _ => []
  | .replyTimerExpires => []
  | .alarmTimerExpires => []
  | .wxViewEntryExpires station => require (stationNumber station) .stationNumber
  | .ident _ _ _ _ => []
  | .alive _ => []
  | .badFrame _ frame _ => require (decide (frame.payload.length ≤ 255)) .frameSize
  | .frameByteTimeout _ => []
  | .portSilenceTimerExpires _ => []
  | .aliveTimer _ => []
  | .portFrameSent _ => []
  | .passByte _ _ => []
  | .gatherTimerExpires _ => []
  | .passIdleTimerExpires _ => []
  | .portLineSignal _ _ => []
  | .lineLossTimerExpires _ => []
  | .cellFrame _ bytes => require (decide (bytes.length ≤ 255)) .frameSize
  | .intakeAdvance => []
  | .deliveryFrameSent => []
  | .statusPeriod => []

/-- A command that fails no check. -/
def wellFormed (i : Instr) : Bool := (violations i).isEmpty

end Sys2Proof
end

