-- ==== Sys2Proof/Laws/PerInstr.lean ====
section
/-! SUPPORT. A statement about every command as syntax: a command that is not well-formed fails a check that has a
name. One lemma for each constructor. -/

namespace Sys2Proof.Laws.RefusedByName

/-- The command is refused exactly when some named check fails. -/
def Statement (i : Instr) : Prop := wellFormed i = false ↔ ∃ v, v ∈ violations i

/-- The test of a list of violations says whether there is one. -/
theorem of_isEmpty (i : Instr) : Statement i := by
  unfold Statement wellFormed
  cases violations i with
  | nil => simp
  | cons v rest => exact ⟨fun _ => ⟨v, List.mem_cons_self⟩, fun _ => rfl⟩

theorem reset (pins : Straps) : Statement (.reset pins) := of_isEmpty _
theorem wordEnd (l : Line) : Statement (.wordEnd l) := of_isEmpty _
theorem fillWordArrives (l : Line) (w : FillWord) (good : Bool) : Statement (.fillWordArrives l w good) := of_isEmpty _
theorem wordCutShort (l : Line) : Statement (.wordCutShort l) := of_isEmpty _
theorem cellArrives (l : Line) (c : Cell) : Statement (.cellArrives l c) := of_isEmpty _
theorem silenceTimerExpires (l : Line) : Statement (.silenceTimerExpires l) := of_isEmpty _
theorem errorWindowEnds (l : Line) : Statement (.errorWindowEnds l) := of_isEmpty _
theorem deafTimerExpires (l : Line) : Statement (.deafTimerExpires l) := of_isEmpty _
theorem provingTimerExpires (l : Line) : Statement (.provingTimerExpires l) := of_isEmpty _
theorem listeningTimerExpires : Statement (.listeningTimerExpires) := of_isEmpty _
theorem helloPeriod : Statement (.helloPeriod) := of_isEmpty _
theorem heardEntryExpires (station : Nat) : Statement (.heardEntryExpires station) := of_isEmpty _
theorem groupSet (via : Via) (group mask : Byte) : Statement (.groupSet via group mask) := of_isEmpty _
theorem callFloor (via : Via) (floor : Byte) : Statement (.callFloor via floor) := of_isEmpty _
theorem callPhone (via : Via) (target priority : Byte) : Statement (.callPhone via target priority) := of_isEmpty _
theorem plateDrop (via : Via) (plate : Byte) : Statement (.plateDrop via plate) := of_isEmpty _
theorem plateDropAll (via : Via) : Statement (.plateDropAll via) := of_isEmpty _
theorem pageSet (via : Via) (target : Byte) (params : PageParams) : Statement (.pageSet via target params) := of_isEmpty _
theorem showPage (via : Via) (target page priority : Byte) : Statement (.showPage via target page priority) := of_isEmpty _
theorem signRestore (via : Via) (target : Byte) : Statement (.signRestore via target) := of_isEmpty _
theorem responseSet (via : Via) (params : ResponseParams) : Statement (.responseSet via params) := of_isEmpty _
theorem responseClear (via : Via) (index : Byte) : Statement (.responseClear via index) := of_isEmpty _
theorem wxRate (via : Via) (target interval : Byte) : Statement (.wxRate via target interval) := of_isEmpty _
theorem wxLimits (via : Via) (target : Byte) (params : LimitParams) : Statement (.wxLimits via target params) := of_isEmpty _
theorem passOpen (via : Via) (target idle : Byte) : Statement (.passOpen via target idle) := of_isEmpty _
theorem passClose (via : Via) (target : Byte) : Statement (.passClose via target) := of_isEmpty _
theorem restart (via : Via) : Statement (.restart via) := of_isEmpty _
theorem offHook (p : Port) (key : Key) : Statement (.offHook p key) := of_isEmpty _
theorem onHook (p : Port) : Statement (.onHook p) := of_isEmpty _
theorem answer (p : Port) : Statement (.answer p) := of_isEmpty _
theorem samples (p : Port) (voice : List Byte) : Statement (.samples p voice) := of_isEmpty _
theorem attemptTimerExpires : Statement (.attemptTimerExpires) := of_isEmpty _
theorem backoffTimerExpires (p : Port) : Statement (.backoffTimerExpires p) := of_isEmpty _
theorem holdPeriod : Statement (.holdPeriod) := of_isEmpty _
theorem remoteEntryExpires (circuit : Fin 16) : Statement (.remoteEntryExpires circuit) := of_isEmpty _
theorem ringingTimerExpires (p : Port) : Statement (.ringingTimerExpires p) := of_isEmpty _
theorem playoutTimer (p : Port) : Statement (.playoutTimer p) := of_isEmpty _
theorem record (p : Port) (body : List Byte) : Statement (.record p body) := of_isEmpty _
theorem syncTimerExpires : Statement (.syncTimerExpires) := of_isEmpty _
theorem retransmitDeadline : Statement (.retransmitDeadline) := of_isEmpty _
theorem partTimerExpires (slot : Fin 2) : Statement (.partTimerExpires slot) := of_isEmpty _
theorem layerApply (p : Port) : Statement (.layerApply p) := of_isEmpty _
theorem ready (p : Port) : Statement (.ready p) := of_isEmpty _
theorem signBusy (p : Port) : Statement (.signBusy p) := of_isEmpty _
theorem rowsTaken (p : Port) (pic : Pic) : Statement (.rowsTaken p pic) := of_isEmpty _
theorem shown (p : Port) (pic : Pic) (checks : List (BitVec 16)) : Statement (.shown p pic checks) := of_isEmpty _
theorem retryTimerExpires (p : Port) : Statement (.retryTimerExpires p) := of_isEmpty _
theorem answerTimerExpires (p : Port) : Statement (.answerTimerExpires p) := of_isEmpty _
theorem lingerTimerExpires (entry : Fin 16) : Statement (.lingerTimerExpires entry) := of_isEmpty _
theorem pollTime : Statement (.pollTime) := of_isEmpty _
theorem reading (p : Port) (values : Reading) : Statement (.reading p values) := of_isEmpty _
theorem replyTimerExpires : Statement (.replyTimerExpires) := of_isEmpty _
theorem alarmTimerExpires : Statement (.alarmTimerExpires) := of_isEmpty _
theorem wxViewEntryExpires (station : Nat) : Statement (.wxViewEntryExpires station) := of_isEmpty _
theorem ident (p : Port) (kind width height : Byte) : Statement (.ident p kind width height) := of_isEmpty _
theorem alive (p : Port) : Statement (.alive p) := of_isEmpty _
theorem badFrame (p : Port) (frame : Frame) (check : BitVec 16) : Statement (.badFrame p frame check) := of_isEmpty _
theorem frameByteTimeout (p : Port) : Statement (.frameByteTimeout p) := of_isEmpty _
theorem portSilenceTimerExpires (p : Port) : Statement (.portSilenceTimerExpires p) := of_isEmpty _
theorem aliveTimer (p : Port) : Statement (.aliveTimer p) := of_isEmpty _
theorem portFrameSent (p : Port) : Statement (.portFrameSent p) := of_isEmpty _
theorem passByte (p : Port) (byte : Byte) : Statement (.passByte p byte) := of_isEmpty _
theorem gatherTimerExpires (p : Port) : Statement (.gatherTimerExpires p) := of_isEmpty _
theorem passIdleTimerExpires (p : Port) : Statement (.passIdleTimerExpires p) := of_isEmpty _
theorem portLineSignal (p : Port) (present : Bool) : Statement (.portLineSignal p present) := of_isEmpty _
theorem lineLossTimerExpires (p : Port) : Statement (.lineLossTimerExpires p) := of_isEmpty _
theorem cellFrame (p : Port) (bytes : List Byte) : Statement (.cellFrame p bytes) := of_isEmpty _
theorem intakeAdvance : Statement (.intakeAdvance) := of_isEmpty _
theorem deliveryFrameSent : Statement (.deliveryFrameSent) := of_isEmpty _
theorem statusPeriod : Statement (.statusPeriod) := of_isEmpty _

end Sys2Proof.Laws.RefusedByName
end

