-- ==== Sys2Proof/Laws/Values.lean ====
section
/-! SUPPORT. What the shared operations give, once for each case: vectors indexed by a port or an entry, frames on a port,
offers to an insert queue, the payload bytes sent as 0, admitted commands, unicast port commands, what an acknowledgement
removes, the send mark, and the frame reader. -/

namespace Sys2Proof.Machine

/-! ### Vectors indexed by a `Fin` -/

theorem vector_get_set {α : Type} {n : Nat} (v : Vector α n) (p : Fin n) (x : α) : (v.set p x)[p] = x := by simp

theorem vector_get_set_ne {α : Type} {n : Nat} (v : Vector α n) (p q : Fin n) (x : α) (h : q ≠ p) :
    (v.set p x)[q] = v[q] := by
  have : (p : Nat) ≠ q := fun e => h (Fin.ext e.symm)
  simp [this]

theorem vector_set_self {α : Type} {n : Nat} (v : Vector α n) (p : Fin n) : v.set p v[p] = v := by simp

theorem vector_set_set {α : Type} {n : Nat} (v : Vector α n) (p : Fin n) (x y : α) :
    (v.set p x).set p y = v.set p y := by simp

/-! ### Frames (R176) -/

/-- A frame offered while another is being sent joins a queue that has room. -/
theorem sendFrame_waits {p : Port} {f : Frame} {s : State} (h : s.ports[p].sending ≠ none)
    (room : s.ports[p].queue.length < 128) :
    sendFrame p f s = s.setPorts (s.ports.set p { s.ports[p] with queue := s.ports[p].queue ++ [f] }) := by
  have : s.ports[p].sending.isNone = false := by cases e : s.ports[p].sending <;> simp_all
  simp [-Fin.getElem_fin, sendFrame, this, Config.portQueueSize, room, modPort]

/-- A frame offered while nothing is being sent starts at once. -/
theorem sendFrame_starts {p : Port} {f : Frame} {s : State} (h : s.ports[p].sending = none) :
    sendFrame p f s = s.setPorts (s.ports.set p { s.ports[p] with
      sending := some ⟨f, false⟩
      lastSent := s.now }) := by
  simp [-Fin.getElem_fin, sendFrame, h, modPort]

/-- A frame offered to a full queue is dropped and counted. -/
theorem sendFrame_drops {p : Port} {f : Frame} {s : State} (h : s.ports[p].sending ≠ none)
    (full : 128 ≤ s.ports[p].queue.length) :
    sendFrame p f s = s.setPortCounts { s.portCounts with frameDrops := bump s.portCounts.frameDrops } := by
  have : s.ports[p].sending.isNone = false := by cases e : s.ports[p].sending <;> simp_all
  have : ¬s.ports[p].queue.length < 128 := by omega
  simp [-Fin.getElem_fin, sendFrame, *, Config.portQueueSize, modPortCounts]

/-- A service's frame is offered while the port's link is UP. -/
theorem sendService_up {p : Port} {f : Frame} {s : State} (up : s.ports[p].link = .up) :
    sendService p f s = sendFrame p f s := by
  simp [-Fin.getElem_fin, sendService, State.inService, up]

/-- A service's frame is not offered while the port's link is not UP. -/
theorem sendService_off {p : Port} {f : Frame} {s : State} (off : s.ports[p].link ≠ .up) : sendService p f s = s := by
  simp [-Fin.getElem_fin, sendService, State.inService, off]

/-- A service's frame joins the queue of a port that is UP and sending. -/
theorem sendService_waits {p : Port} {f : Frame} {s : State} (h : s.ports[p].sending ≠ none) (up : s.ports[p].link = .up)
    (room : s.ports[p].queue.length < 128) :
    sendService p f s = s.setPorts (s.ports.set p { s.ports[p] with queue := s.ports[p].queue ++ [f] }) := by
  rw [sendService_up up, sendFrame_waits h room]

/-- Frames of a service join the queue of a port that is UP and sending, in order. -/
theorem sendServices_wait {p : Port} (fs : List Frame) : ∀ {s : State}, s.ports[p].sending ≠ none →
    s.ports[p].link = .up → s.ports[p].queue.length + fs.length ≤ 128 →
    sendServices p fs s = s.setPorts (s.ports.set p { s.ports[p] with queue := s.ports[p].queue ++ fs }) := by
  induction fs with
  | nil =>
    intro s _ _ _
    have e : ({ s.ports[p] with queue := s.ports[p].queue ++ [] } : PortUnit) = s.ports[p] := by
      cases s.ports[p]; simp
    rw [e, vector_set_self]; rfl
  | cons f rest ih =>
    intro s h up room
    rw [List.length_cons] at room
    rw [sendServices, sendService_waits h up (by omega), ih]
    · simp [-Fin.getElem_fin, State.setPorts, vector_get_set]
    · simpa [-Fin.getElem_fin, State.setPorts, vector_get_set] using h
    · simpa [-Fin.getElem_fin, State.setPorts, vector_get_set] using up
    · simp [-Fin.getElem_fin, State.setPorts, vector_get_set]; omega

/-! ### Offers to an insert queue (R7) -/

/-- A cell that has room joins the insert queue of its class. -/
theorem offerCounted_joins {kind dest : Byte} {bytes : List Byte} {s : State}
    (room : (s.insertQueue (classOf kind)).length < insertCapacity (classOf kind)) :
    offerCounted kind dest bytes s = s.setTx (s.tx.set (insertLine s.fold) { s.tx.get (insertLine s.fold) with
      insert := (s.tx.get (insertLine s.fold)).insert.set (classOf kind)
        (s.insertQueue (classOf kind) ++ [originate kind dest bytes s]) }) := by
  have e : s.insertRoom (classOf kind) = true := by simpa [State.insertRoom] using room
  simp only [offerCounted, offer, e, if_true, enqueueInsert, modTx]
  rfl

/-- A cell that a full insert queue refuses is an insert drop. -/
theorem offerCounted_drops {kind dest : Byte} {bytes : List Byte} {s : State}
    (full : insertCapacity (classOf kind) ≤ (s.insertQueue (classOf kind)).length) :
    offerCounted kind dest bytes s = s.setRing { s.ring with insertDrops := bump s.ring.insertDrops } := by
  have : ¬(s.insertQueue (classOf kind)).length < insertCapacity (classOf kind) := by omega
  simp [offerCounted, offer, State.insertRoom, this, insertDrop, modRing]

/-! ### The payload bytes sent as 0 (R4) -/

/-- A byte that its kind uses is sent as it came, another as 0. -/
theorem byteAt_clearUnused (kind : Byte) (b : List Byte) (i : Nat) :
    byteAt (clearUnused kind b) i = if usesByte kind b i then byteAt b i else 0 := by
  simp only [byteAt, clearUnused, List.getD_eq_getElem?_getD, List.getElem?_mapIdx]
  cases b[i]? <;> simp

@[simp] theorem clearUnused_length (kind : Byte) (b : List Byte) : (clearUnused kind b).length = b.length := by
  simp [clearUnused]

/-! ### Commands (R50, R52, R53) -/

/-- An admitted command other than RESTART and an unknown code takes its effect. -/
theorem commandArrives_admitted {via : Via} {c : Command} {s : State} (h : Admitted via s) (restart : c.isRestart = false)
    (known : c.isUnknown = false) : commandArrives via c s = commandEffect via c s := by
  obtain ⟨active, centre, concerns⟩ := h
  have addr : addressed via.addressing s = true := by
    unfold addressed
    split
    · next g e => simpa using concerns g e
    · rfl
    · rfl
  have from' : fromCentre via s = true := by
    rcases centre with h | ⟨h1, h2⟩
    · simp [fromCentre, h]
    · simp [fromCentre, State.centreHeard, h1, h2]
  simp [commandArrives, active, addr, commandRefused, from', restart, known]

/-- A port command by unicast to one port of a fitting profile acts on that port. -/
theorem portCommand_one {fit : List Profile} {act : Port → State → State} {p : Port} {s : State}
    (h : s.profile p ∈ fit) : portCommand .unicast fit (natByte p.val) act s = act p s := by
  have e : (natByte p.val).toNat = p.val := by
    have := p.isLt
    simp [natByte]; omega
  simp [portCommand, resolve, e, resolveOne, concerned, fits, h, actOnPorts]

/-! ### What an acknowledgement removes (R93) -/

/-- The records through the acknowledged number and those behind them are the journal. -/
theorem recordsThrough_append_recordsBehind (o n : BitVec 16) (j : List TollRecord) :
    recordsThrough o n j ++ recordsBehind o n j = j := List.takeWhile_append_dropWhile

/-- An acknowledgement that is progress removes at least the oldest record, so a newest one gives the delivered mark. -/
theorem recordsThrough_newest (n : BitVec 16) (r : TollRecord) (j : List TollRecord) :
    ∃ newest, (recordsThrough r.number n (r :: j)).getLast? = some newest := by
  simp [recordsThrough, isThrough, List.getLast?_cons]

/-! ### The send mark (R88) -/

/-- A record sent again at or before the mark leaves the mark; any other one gives it. -/
theorem newestSent_cases (mark : Option (BitVec 16)) (n : BitVec 16) :
    (∃ m, mark = some m ∧ atOrBefore n m = true ∧ newestSent mark n = m) ∨
      ((∀ m, mark = some m → atOrBefore n m = false) ∧ newestSent mark n = n) := by
  cases mark with
  | none => simp [newestSent]
  | some m => cases h : atOrBefore n m <;> simp [newestSent, h]

/-! ### The frame reader (R176) -/

/-- The bytes behind a whole frame are fewer than the bytes read. -/
theorem frameAt_length {bytes behind : List Byte} {f : Frame} {x : BitVec 16} (h : frameAt bytes = some (f, x, behind)) :
    behind.length ≤ bytes.length := by
  unfold frameAt at h
  split at h
  · split at h
    · cases h; simp; omega
    · cases h
  · cases h

/-- The reader's fuel does not matter once there is a step for each byte. -/
theorem readBytes_fuel (p : Port) (stopped : Bool) (k m : Nat) (bytes : List Byte) (s : State) (hk : bytes.length ≤ k)
    (hm : bytes.length ≤ m) : readBytes p stopped k bytes s = readBytes p stopped m bytes s := by
  induction k generalizing m bytes s with
  | zero =>
    cases bytes with
    | nil => cases m <;> rfl
    | cons b rest => simp at hk
  | succ k ih =>
    cases bytes with
    | nil => cases m <;> rfl
    | cons b rest =>
      cases m with
      | zero => simp at hm
      | succ m =>
        simp only [List.length_cons, Nat.add_le_add_iff_right] at hk hm
        simp only [readBytes]
        split
        · exact ih m rest s hk hm
        · split
          · next e =>
            have := frameAt_length e
            split
            · exact ih m _ _ (by omega) (by omega)
            · exact ih m rest _ hk hm
          · split
            · exact ih m rest _ hk hm
            · rfl

end Sys2Proof.Machine
end

