-- ==== Sys2Proof/Tests/Slice0.lean ====
section
/-! SUPPORT. Tests: ill-formed commands that the checks refuse, one step of a command on a small state with the result
that spec/ gives, and for each obligation with hypotheses a state and operands that meet them. -/

namespace Sys2Proof.Tests

set_option Elab.async false

open Sys2Proof Sys2Proof.Machine

/-! ### Ill-formed commands -/

/-- A command of the centre at station 2, addressed to one station. -/
def fromTwo : Via := ⟨false, 2, .unicast⟩

def noReading : Reading := ⟨Vector.replicate 7 none, none, none⟩

theorem test_refuses_short_cell : violations (.cellArrives .u ⟨5, 1, 255, 127, [0], 0⟩) = [.payloadSize] := by decide
theorem test_refuses_39_samples : violations (.samples 0 (List.replicate 39 0)) = [.sampleCount] := by decide
theorem test_refuses_128_checks : violations (.shown 0 .a (List.replicate 128 0)) = [.checkCount] := by decide +kernel
theorem test_refuses_long_frame : violations (.badFrame 0 ⟨2, List.replicate 256 0⟩ 0) = [.frameSize] := by
  decide +kernel
theorem test_refuses_long_record : violations (.record 0 (List.replicate 256 0)) = [.frameSize] := by decide +kernel
theorem test_refuses_long_cell_frame : violations (.cellFrame 0 (List.replicate 256 0)) = [.frameSize] := by
  decide +kernel
theorem test_refuses_station_0 : violations (.heardEntryExpires 0) = [.stationNumber] := by decide
theorem test_refuses_station_61 : violations (.wxViewEntryExpires 61) = [.stationNumber] := by decide
theorem test_refuses_source_61 : violations (.callFloor ⟨false, 61, .all⟩ 0) = [.sourceNumber] := by decide
theorem test_refuses_record_count : violations (.pageSet fromTwo 0 ⟨0, true, true, 0, 1, []⟩) = [.recordCount] := by
  decide
theorem test_accepts_the_bounds :
    wellFormed (.heardEntryExpires 60) = true ∧ wellFormed (.samples 0 (List.replicate 40 0)) = true ∧
      wellFormed (.cellArrives .u ⟨5, 1, 255, 127, List.replicate 56 0, 0⟩) = true := by decide

/-! ### Small states -/

/-- What a command leaves, for a command that completes. -/
def after (s : State) (i : Instr) : State :=
  match exec i s with
  | .next t => t
  | _ => s

/-- A present heard entry of a station with the centre role; `toll` is its toll-receive flag. -/
def centreEntry (toll : Bool) : HeardEntry := ⟨true, 0, some 5, .normal, true, toll⟩

def lineUp : LineUnit := { resetLine 0 with state := .up, silence := some 2000000, farHeard := true }

/-- Station 10, ACTIVE in NORMAL, with these profile codes and every link UP and sending an ALIVE frame; it hears the
centre at station 2. -/
def node (codes : Vector (BitVec 3) 4) : State :=
  let s := resetWith [] ⟨0, 0⟩ ⟨10, codes⟩
  { s with
    lines := ⟨lineUp, lineUp⟩
    station := { s.station with
      phase := .active, listening := none, stamp := 7, helloAt := some 1000000000, statusAt := some 5000000000
      heard := s.station.heard.set 2 (centreEntry false) }
    call := { s.call with holdAt := some 1000000000 }
    weather := { s.weather with alarmTimer := some 10000000000 }
    ports := Vector.replicate 4 { resetPort 0 with
      link := .up, silence := some 1000000000, sending := some ⟨⟨2, []⟩, false⟩ } }

/-- Ports PHONE, SIGN, WEATHER and TOLL. -/
def gantry : State := node #v[1, 2, 3, 4]

/-- Ports CENTRE, PHONE, PHONE and SIGN. -/
def office : State := node #v[5, 1, 1, 2]

/-- A cell with a good check and 100 hops. -/
def cellOf (kind source dest : Byte) (bytes : List Byte) : Cell := sealCell ⟨kind, source, dest, 100, padded bytes, 0⟩

theorem checkGood_sealCell (c : Cell) : checkGood (sealCell c) = true := by simp [checkGood, sealCell, cellBytes]

/-- What a test reads of a cell: all but its hops and its check. -/
def contents (c : Cell) : Byte × Byte × Byte × List Byte := (c.kind, c.source, c.dest, c.payload)

def withSign (g : Sign) (s : State) : State := s.setSigns (s.signs.set 1 g)
def withPort (p : Port) (u : PortUnit) (s : State) : State := s.setPorts (s.ports.set p u)
def withPhone (p : Port) (h : Phone) (s : State) : State :=
  s.setCall { s.call with phones := s.call.phones.set p h }
def withTx (l : Line) (x : Transmitter) (s : State) : State := s.setTx (s.tx.set l x)

/-! ### One step of a command -/

/-- A cell with a good check on Line U goes straight to the tests that follow the check. -/
theorem after_cell (s : State) (kind source dest : Byte) (bytes : List Byte) :
    after s (.cellArrives .u (cellOf kind source dest bytes)) =
      if malformed (cellOf kind source dest bytes) then modRing (fun r => { r with malformed := bump r.malformed })
          (validWord .u s)
      else judgeCell .u (cellOf kind source dest bytes) (validWord .u s) := by
  simp [after, exec, execCellArrives, cellArrivesOn, cellOf, checkGood_sealCell]

theorem test_own_number : gantry.own = some 10 := by decide +kernel
theorem test_selected_centre : gantry.selectedCentre = some 2 ∧ gantry.tollCentre = none := by decide +kernel

/-- R41: 60 is the last station number. -/
theorem test_reset_numbers :
    (after gantry (.reset ⟨60, #v[1, 2, 3, 4]⟩)).phase = .starting ∧
      (after gantry (.reset ⟨61, #v[1, 2, 3, 4]⟩)).phase = .strapFault := by decide +kernel

/-- R175: a third PHONE strap is a conflict, and so is a third SIGN strap, in R175's own example. -/
theorem test_reset_straps :
    (after gantry (.reset ⟨1, #v[1, 1, 1, 6]⟩)).straps.profiles = #v[.phone, .phone, .none, .none] ∧
      (after gantry (.reset ⟨1, #v[1, 1, 1, 6]⟩)).straps.conflicts = #v[false, false, true, true] ∧
      (readStraps #v[2, 2, 2, 7]) = #v[(.sign, false), (.sign, false), (.none, true), (.none, true)] := by decide +kernel

/-- The transmitter of chapter 1's worked example. -/
def mixedLoad : State :=
  withTx .d { resetTransmitter 10 0 with
    transit := ⟨[], [cellOf 4 9 255 []], List.replicate 6 (cellOf 13 9 2 [])⟩
    insert := ⟨[], [], [cellOf 8 10 2 [], cellOf 13 10 2 []]⟩
    fairness := 4 } gantry

/-- Chapter 1, "one transmitter under mixed load": starts 1 and 2. -/
theorem test_word_end_mixed_load :
    let s := after mixedLoad (.wordEnd .d)
    let t := after s (.wordEnd .d)
    let kind := fun (w : Word) => match w with | .cell c => some c.kind | .fill _ _ => none
    kind s.tx.d.onLine = some 4 ∧ s.tx.d.fairness = 4 ∧ kind t.tx.d.onLine = some 8 ∧ t.tx.d.fairness = 0 ∧
      t.tx.d.insert.b.length = 1 := by decide +kernel

/-- R1, R2: a cell takes 5.12 µs and a fill word 0.64 µs. -/
theorem test_word_end_times :
    (after mixedLoad (.wordEnd .d)).tx.d.endsAt = 640 + 5120 ∧ (after mixedLoad (.wordEnd .u)).tx.u.endsAt = 640 + 640 := by
  decide +kernel

theorem test_fill_word_starts_proving :
    (after (resetWith [] ⟨5, 0⟩ ⟨10, #v[0, 0, 0, 0]⟩) (.fillWordArrives .u ⟨3, .normal, true⟩ true)).lines.u.proving
      = some 500000005 := by decide +kernel

theorem test_cut_word_changes_nothing : (after gantry (.wordCutShort .u)).lines = gantry.lines := by decide +kernel

/-- R17, R9: a passing cell leaves on the other line with one hop less. -/
theorem test_cell_is_forwarded :
    (after gantry (.cellArrives .u (cellOf 4 30 40 [1]))).tx.d.transit.c.map (fun c => (contents c, c.hops))
      = [((4, 30, 40, padded [1]), 99)] := by
  simp only [after_cell]
  decide +kernel

/-- R48: a HELLO enters its source in the heard table. -/
theorem test_hello_is_heard :
    let h : Hello := ⟨9, .foldU, false, true, false, false, #v[1, 0, 0, 0]⟩
    ((after gantry (.cellArrives .u (cellOf 5 33 255 (helloBytes h)))).heardOf 33) =
      ⟨true, 0, some 9, .foldU, true, false⟩ := by
  simp only [after_cell]
  decide +kernel

/-- R26, R33: a silent Line D folds a NORMAL station into FOLD-D. -/
theorem test_silence_folds :
    (after gantry (.silenceTimerExpires .d)).fold = .foldD ∧
      (after gantry (.silenceTimerExpires .d)).lines.d.cause = .silence := by decide +kernel

theorem test_error_window :
    (after (gantry.setLines ⟨lineUp, { lineUp with windowBad := 7 }⟩) (.errorWindowEnds .d)).lines.d.windowBad = 0 := by
  decide +kernel

theorem test_far_deaf :
    (after (gantry.setLines ⟨{ lineUp with deaf := some 9 }, lineUp⟩) (.deafTimerExpires .u)).lines.u.cause = .farDeaf := by
  decide +kernel

theorem test_proving_ends :
    (after (gantry.setLines ⟨{ lineUp with state := .proving, proving := some 9 }, lineUp⟩)
      (.provingTimerExpires .u)).fold = .normal := by decide +kernel

/-- R41, R42: a reset station listens, then takes the start counter as its stamp. -/
theorem test_listening :
    let s := after (resetWith [] ⟨0, 100⟩ ⟨10, #v[1, 2, 3, 4]⟩) .listeningTimerExpires
    s.phase = .active ∧ s.station.stamp = BitVec.ofNat 16 (100 + 3000000) := by decide +kernel

theorem test_hello_period : (after gantry .helloPeriod).station.helloAt = some 2000000000 := by decide +kernel

theorem test_heard_entry_expires : (after gantry (.heardEntryExpires 2)).selectedCentre = none := by decide +kernel

/-- R51: a GROUP-SET of all four ports keeps those in use. -/
theorem test_group_set :
    (after (node #v[1, 0, 2, 0]) (.groupSet fromTwo 31 15)).station.groups[31] = 5 := by decide +kernel

theorem test_floor_limits :
    (after gantry (.callFloor fromTwo 3)).call.floor = 3 ∧
      (after gantry (.callFloor fromTwo 4)).station.lastReject = .range := by decide +kernel

/-- R61, R62: the lowest FREE circuit is claimed. -/
theorem test_off_hook_claims :
    (after gantry (.offHook 0 .sos)).call.circuits[(0 : Fin 16)] = .ownClaiming 0 2 1 := by decide +kernel

theorem test_call_phone : (after gantry (.callPhone fromTwo 0 3)).call.phones[(0 : Port)].ringFlag = true := by
  decide +kernel

def connected : Phone :=
  { resetPhone with state := .connected, circuit := some 5, target := some 2, priority := 2, playTimer := some 5000000 }

/-- Station 10 with a call of port 0 on circuit 5. -/
def calling : State :=
  let s := withPhone 0 connected gantry
  s.setCall { s.call with circuits := s.call.circuits.set 5 (.ownHeld 0 2) }

theorem test_on_hook_releases :
    (after calling (.onHook 0)).call.circuits[(5 : Fin 16)] = .free ∧
      (after calling (.onHook 0)).tx.d.insert.c.map contents = [(3, 10, 255, padded [5, 0])] := by decide +kernel

theorem test_answer :
    (after (withPhone 0 { connected with state := .ringing, ringing := some 60000000000 } gantry)
      (.answer 0)).call.phones[(0 : Port)].state = .connected := by decide +kernel

theorem test_samples :
    (after calling (.samples 0 (List.replicate 40 3))).tx.d.insert.v.map contents = [(1, 10, 2, padded (5 :: 0 :: List.replicate 40 3))] := by decide +kernel

/-- Station 10 with a claim of port 0 in flight for circuit 3, its fourth attempt in a row. -/
def claiming : State :=
  let s := withPhone 0 { resetPhone with state := .claiming, failed := 3, priority := 2 } gantry
  s.setCall { s.call with
    requests := [⟨0, 2, 0⟩]
    circuits := s.call.circuits.set 3 (.ownClaiming 0 2 1)
    attempt := some ⟨0, 3, 2, 1, false, 2, 200000000⟩ }

theorem test_fourth_failure :
    (after claiming .attemptTimerExpires).call.phones[(0 : Port)].backoff = some 1200000000 ∧
      (after claiming .attemptTimerExpires).call.circuits[(3 : Fin 16)] = .free := by decide +kernel

theorem test_backoff_ends :
    let s := after claiming .attemptTimerExpires
    (after s (.backoffTimerExpires 0)).call.phones[(0 : Port)].failed = 0 := by decide +kernel

/-- R71: the HOLD of a station that holds circuit 5 at priority 2 for port 0. -/
theorem test_hold_period :
    (after calling .holdPeriod).tx.d.insert.c.map contents = [(4, 10, 255, padded [1, 5, 2, 0])] := by decide +kernel

/-- Circuit 4 held elsewhere. -/
def remoteFour : State :=
  gantry.setCall { gantry.call with circuits := gantry.call.circuits.set 4 (.remote 30 1 2 7 1) }

theorem test_remote_entry_expires :
    (after remoteFour (.remoteEntryExpires 4)).call.circuits[(4 : Fin 16)] = .free ∧
      (after remoteFour (.remoteEntryExpires 4)).clock.now = 3500000007 := by decide +kernel

/-- Chapter 4, "two SOS claims for one circuit": station 11's claim passes station 10, whose entry 3 is REMOTE(14). -/
theorem test_claim_beats_a_later_station :
    let s := gantry.setCall { gantry.call with circuits := gantry.call.circuits.set 3 (.remote 14 1 2 0 1) }
    (after s (.cellArrives .u (cellOf 2 11 255 (claimBytes ⟨3, 2, 0, false, false, 20, 5, false⟩)))).call.circuits[
      (3 : Fin 16)] = .remote 11 0 2 0 1 := by
  simp only [after_cell]
  decide +kernel

theorem test_ringing_ends :
    (after (withPhone 0 { connected with state := .ringing, ringing := some 60000000000 } calling)
      (.ringingTimerExpires 0)).call.phones[(0 : Port)].state = .idle := by decide +kernel

/-- A VOICE cell of the centre on circuit 5. -/
def voiceOf (seq : BitVec 8) : Cell := cellOf 1 2 10 (voiceBytes 5 seq (List.replicate 40 3))

/-- R68, R69: a return with the attempt's number for another circuit, whose entry is FREE, is a failure. -/
theorem test_return_for_another_circuit :
    let t := after claiming (.cellArrives .u (cellOf 2 10 255 (claimBytes ⟨4, 2, 0, false, false, 2, 1, false⟩)))
    t.call.circuits[(3 : Fin 16)] = .free ∧ t.call.circuits[(4 : Fin 16)] = .free ∧
      t.call.phones[(0 : Port)].state = .backoff := by
  simp only [after_cell]
  decide +kernel

/-- Chapter 4, "one port's playout queue": VOICE 40, the timer, VOICE 41, the timer. -/
theorem test_playout_primes :
    let s := after (after calling (.cellArrives .u (voiceOf 40))) (.playoutTimer 0)
    let t := after (after s (.cellArrives .u (voiceOf 41))) (.playoutTimer 0)
    s.call.phones[(0 : Port)].playout.map (fun v => v.seq) = [40] ∧
      t.call.phones[(0 : Port)].playout.map (fun v => v.seq) = [41] ∧
      t.call.phones[(0 : Port)].playing = true := by
  simp only [after_cell, voiceOf]
  decide +kernel

/-- Chapter 4, the same example: VOICE 42 after 43 is late. -/
theorem test_late_voice :
    (after (withPhone 0 { connected with recvSeq := some 43 } calling) (.cellArrives .u (voiceOf 42))).call.phones[
      (0 : Port)].late = 1 := by
  simp only [after_cell, voiceOf]
  decide +kernel

theorem test_record_taken :
    (after gantry (.record 3 [1])).ports[(3 : Port)].queue = [⟨65, [0, 0]⟩] := by decide +kernel

/-- An OPEN channel toward station 2 with records 2 to 4 SENT, as in chapter 5's worked example. -/
def sentRecords : State :=
  gantry.setToll { gantry.toll with
    journal := [⟨2, [1], some 0⟩, ⟨3, [1], some 0⟩, ⟨4, [1], some 0⟩]
    next := 5, chan := .opened, bound := some 2, progress := some 100, sendMark := some 4, delivered := some 1 }

/-- Chapter 5, "a lost record and the go-back": 400 ms after the last progress records 2 to 4 are sent again. -/
theorem test_go_back :
    let s := after sentRecords .retransmitDeadline
    s.clock.now = 400000100 ∧ s.toll.expiries = 1 ∧
      s.tx.d.insert.b.map contents = [(8, 10, 2, padded [0, 2, 1, 1]), (8, 10, 2, padded [0, 3, 1, 1]),
        (8, 10, 2, padded [0, 4, 1, 1])] := by decide +kernel

/-- Chapter 5, the same example: PLAIN 1 is no progress, PLAIN 4 empties the journal. -/
theorem test_acks :
    let s := after sentRecords (.cellArrives .u (cellOf 9 2 10 (ackBytes 1 1)))
    let t := after s (.cellArrives .u (cellOf 9 2 10 (ackBytes 1 4)))
    s.toll.journal.length = 3 ∧ t.toll.journal = [] ∧ t.toll.delivered = some 4 ∧
      t.ports[(3 : Port)].queue = [⟨68, [0, 4]⟩] := by
  simp only [after_cell]
  decide +kernel

/-- R93: the send mark is 4, and 32772, which lies 32768 from it, is after it by the modular comparison. -/
theorem test_ack_beyond_send_mark :
    let s := after sentRecords (.cellArrives .u (cellOf 9 2 10 (ackBytes 1 32772)))
    s.toll.chan = .syncing ∧ s.toll.counters.outOfStep = 1 ∧ s.toll.journal.length = 3 := by
  simp only [after_cell]
  decide +kernel

/-- The go-back of `sentRecords` with one place left in the B insert queue: record 2 alone is sent again. -/
def partlyResent : State :=
  after (withTx .d { resetTransmitter 10 0 with insert := ⟨[], [], List.replicate 31 (cellOf 13 10 2 [])⟩ } sentRecords)
    .retransmitDeadline

/-- R88, R93: the mark stays at 4, so that a late PLAIN 4 removes the records it names. -/
theorem test_late_ack_after_go_back :
    let t := after partlyResent (.cellArrives .u (cellOf 9 2 10 (ackBytes 1 4)))
    sentCount partlyResent.toll.journal = 1 ∧ partlyResent.toll.sendMark = some 4 ∧ t.toll.chan = .opened ∧
      t.toll.journal = [] ∧ t.toll.delivered = some 4 := by
  simp only [after_cell]
  decide +kernel

/-- R93: with 2 the oldest record, nothing sent since a go-back past it, and 32770 acknowledged: every record from 2
through 32770 leaves. -/
theorem test_ack_half_the_range_on :
    let s := sentRecords.setToll { sentRecords.toll with
      journal := [⟨2, [1], none⟩, ⟨3, [1], none⟩, ⟨4, [1], none⟩], sendMark := some 1 }
    let t := after s (.cellArrives .u (cellOf 9 2 10 (ackBytes 1 32770)))
    t.toll.journal = [] ∧ t.toll.delivered = some 4 := by
  simp only [after_cell]
  decide +kernel

theorem test_sync_again :
    (after (sentRecords.setToll { sentRecords.toll with chan := .syncing, syncTimer := some 0 })
      .syncTimerExpires).tx.d.insert.c.map contents = [(10, 10, 2, padded [0, 0])] := by decide +kernel

/-- Chapter 5, "downstream counters": 104 where 102 is expected. -/
theorem test_downstream_gap :
    let s := gantry.setToll { gantry.toll with down := gantry.toll.down.set 0 (some ⟨2, 102⟩) }
    let t := after s (.cellArrives .u (cellOf 11 2 10 [0, 104, 1, 9]))
    t.ports[(3 : Port)].queue = [⟨70, [2, 0, 102, 0, 103]⟩, ⟨69, [2, 0, 104, 9]⟩] ∧ t.toll.counters.downMissing = 2 := by
  simp only [after_cell]
  decide +kernel

/-- Part 0 of a 8 × 2 plate of depth 1 in one part. -/
def smallPart : List Byte := [4, 0, 1, 8, 2, 1, 2, 0x70, 0x0F]

theorem test_plate_commits :
    let s := after gantry (.cellArrives .u (cellOf 12 2 10 smallPart))
    plateOf s.plates 4 = some ⟨8, 2, 1, 0, 1⟩ ∧ memRead s.plates.mem 0 = 0x70 ∧ memRead s.plates.mem 1 = 0x0F := by
  simp only [after_cell]
  decide +kernel

/-- Chapter 6, "filling a fragmented store": plate 12 takes blocks 250 to 255, the first run of six. -/
theorem test_fragmented_store :
    let st := { resetPlates with blocks := Vector.ofFn (fun (i : Fin 256) =>
      if i.val < 4 then .plate 3 else if i.val < 6 then .free else if i.val < 14 then .plate 7
      else if i.val < 18 then .free else if i.val < 250 then .plate 20 else .free) }
    ((platePart ⟨12, 0, 32, 96, 32, 3, 48, List.replicate 48 1⟩ 0 st).1.slots[(0 : Fin 2)]).map (fun x => (x.first, x.count))
      = some (250, 6) := by decide +kernel

theorem test_part_timer :
    let s := after gantry (.cellArrives .u (cellOf 12 2 10 ([5, 0, 2, 64, 8, 1, 48] ++ List.replicate 48 1)))
    (s.plates.slots[(0 : Fin 2)]).isSome = true ∧ (after s (.partTimerExpires 0)).plates.loadBroken = 1 ∧
      (after s (.partTimerExpires 0)).plates.blocks[(0 : Fin 256)] = .free := by
  simp only [after_cell]
  decide +kernel

theorem test_plate_drop :
    let s := after gantry (.cellArrives .u (cellOf 12 2 10 smallPart))
    plateOf (after s (.plateDrop fromTwo 4)).plates 4 = none ∧
      plateOf (after s (.plateDropAll fromTwo)).plates 4 = none := by
  simp only [after_cell]
  decide +kernel

def layer (plate x y colours combine modes clear : Byte) : LayerRec := ⟨plate, x, y, colours, combine, modes, clear⟩

theorem test_page_set :
    (after gantry (.pageSet fromTwo 1 ⟨7, true, true, 0, 1, [layer 4 0 0 0 0 0 0]⟩)).signs[(1 : Port)].pages[7]
      = [layer 4 0 0 0 0 0 0] := by decide +kernel

theorem test_show :
    (after gantry (.showPage fromTwo 1 7 7)).signs[(1 : Port)].target = 7 ∧
      (after gantry (.showPage fromTwo 1 8 7)).station.lastReject = .range := by decide +kernel

theorem test_sign_restore :
    (after (withSign { resetSign with dark := true, stage := 2 } gantry) (.signRestore fromTwo 1)).signs[
      (1 : Port)].dark = false := by decide +kernel

/-- A LATCH entry on NO-CENTRE. -/
def latchEntry : ResponseParams := ⟨15, true, 1, 3, 0, 0, 0, 0, 15, 7, 7, 255⟩

theorem test_response_set :
    (after gantry (.responseSet fromTwo latchEntry)).responses[(15 : Fin 16)].mask = 2 ∧
      (after gantry (.responseSet fromTwo { latchEntry with index := 16 })).station.lastReject = .range := by
  decide +kernel

/-- R145 to R148: the entry latches when the centre is no longer heard, and RESPONSE-CLEAR ends its claim. -/
theorem test_response_latches :
    let s := after (after gantry (.responseSet fromTwo latchEntry)) (.heardEntryExpires 2)
    let t := after (after s (.cellArrives .u (cellOf 5 2 255
      (helloBytes ⟨6, .normal, false, true, false, false, #v[5, 0, 0, 0]⟩)))) (.responseClear fromTwo 255)
    s.responses[(15 : Fin 16)].claim = .latched ∧ s.signs[(1 : Port)].target = 7 ∧
      t.responses[(15 : Fin 16)].claim = .idle ∧ t.signs[(1 : Port)].target = 0 := by
  simp only [after_cell]
  decide +kernel

theorem test_linger_ends :
    let s := gantry.setResponses (gantry.responses.set 3 { resetResponse with
      enable := true, claim := .lingering, timer := some 9, value := false })
    (after s (.lingerTimerExpires 3)).responses[(3 : Fin 16)].claim = .idle := by decide +kernel

/-! Chapter 7, worked cases 1 and 2: the plates, with plate 4 in block 0, plate 9 in block 1 and plate 11 in block 2. -/

def workedStore : PlateStore :=
  { resetPlates with
    mem := [⟨0, 0x66⟩, ⟨256, 0x70⟩, ⟨512, 0x12⟩, ⟨513, 0x34⟩, ⟨514, 0x55⟩, ⟨515, 0x55⟩, ⟨516, 0x60⟩, ⟨517, 0x71⟩,
      ⟨518, 0x22⟩, ⟨519, 0x22⟩, ⟨768, 0xA0⟩, ⟨769, 0x40⟩] }

def dark (w h : Nat) : Picture := List.replicate h (List.replicate w 0)

/-- Worked case 1: checks 37 and 30 of row 0. -/
theorem test_worked_case_1 :
    let both := layerPicture workedStore (layer 4 1 0 0 (0xA0 ||| 7) 0 0) ⟨2, 1, 3, 0, 1⟩ (dark 8 2)
    let a := layerPicture workedStore (layer 9 0 0 0x60 0x63 0x14 0) ⟨8, 1, 1, 1, 1⟩ both
    rowChecks a = [37, 0] ∧ rowChecks both = [30, 0] := by decide +kernel

/-- Worked case 2: HALF, DOUBLE and SKIP-FORE with clear colour 5. -/
theorem test_worked_case_2 :
    let half := layerPicture workedStore (layer 11 0 0 0 0xA7 0x80 0) ⟨4, 4, 3, 2, 1⟩ (dark 8 4)
    let a := layerPicture workedStore (layer 5 6 1 0x44 0xA7 0x40 0) ⟨3, 2, 1, 3, 1⟩ half
    let b := layerPicture workedStore (layer 11 1 0 0 0x07 0x20 5) ⟨4, 4, 3, 2, 1⟩ a
    rowChecks a = [7, 50, 30, 15] ∧ rowChecks b = [7, 36, 30, 15] := by decide +kernel

/-- Worked case 3: the check of a full row. -/
theorem test_worked_case_3 : rowCheck (List.replicate 192 7) = 64160 := by decide +kernel

/-- Sign 1 with this transfer step. -/
def transferring (w : Await) (flashing : Bool) : State :=
  withSign { resetSign with
    geometry := some (8, 2), answerTimer := some 500000000
    transfer := some ⟨⟨0, 8, 2, dark 8 2, dark 8 2, [0, 0], if flashing then [1, 0] else [0, 0], flashing, 0⟩, w, []⟩ } gantry

theorem test_ready_sends_rows :
    (after (transferring (.ready .a) false) (.ready 1)).ports[(1 : Port)].queue
      = [⟨33, 0 :: 0 :: List.replicate 8 0⟩, ⟨33, 0 :: 1 :: List.replicate 8 0⟩] := by decide +kernel

theorem test_busy_retries :
    let s := after (transferring (.ready .a) false) (.signBusy 1)
    s.signs[(1 : Port)].retryTimer = some 100000000 ∧
      (after s (.retryTimerExpires 1)).ports[(1 : Port)].queue = [⟨32, [0, 8, 2]⟩] := by decide +kernel

theorem test_rows_taken :
    (after (transferring (.rows .a) false) (.rowsTaken 1 .a)).ports[(1 : Port)].queue = [⟨34, [0]⟩] ∧
      (after (transferring (.rows .a) true) (.rowsTaken 1 .a)).ports[(1 : Port)].queue = [⟨32, [1, 8, 2]⟩] := by
  decide +kernel

theorem test_shown :
    (after (transferring (.shown .a) false) (.shown 1 .a [0, 0])).signs[(1 : Port)].transfer = none ∧
      (after (transferring (.shown .a) false) (.shown 1 .a [0, 1])).signs[(1 : Port)].stage = 1 := by decide +kernel

theorem test_missed_answer :
    (after (transferring (.shown .b) true) (.answerTimerExpires 1)).ports[(1 : Port)].queue = [⟨34, [1]⟩] := by
  decide +kernel

/-- A composer of a 1 × 1 picture with one layer to come, whose plate is absent. -/
def composing : State :=
  withSign { resetSign with
    geometry := some (1, 1), awaiting := true
    pages := resetSign.pages.set 0 [layer 70 0 0 0 0xA7 0 0]
    compose := some ⟨0, [layer 70 0 0 0 0xA7 0 0], 0, 0, dark 1 1, dark 1 1, 1, 1⟩ } gantry

theorem test_layer_apply :
    let g := (after composing (.layerApply 1)).signs[(1 : Port)]
    g.faultCount = 1 ∧ g.compose = none ∧ (g.transfer.map (fun x => x.await)) = some (.ready .a) := by decide +kernel

/-- Chapter 8, "dusk at a portal sign". -/
theorem test_dusk :
    brightnessStep 5 1300 = 5 ∧ brightnessStep 5 1100 = 4 ∧ brightnessStep 4 1200 = 4 ∧ brightnessStep 4 300 = 3 ∧
      brightnessStep 3 20 = 2 ∧ brightnessStep 2 20 = 1 := by decide +kernel

/-- A numeric quantity with these samples, all taken at moment 0. -/
def quantity (xs : List Int) : Quantity := ⟨xs.map (fun x => ⟨x, 0⟩), some 0, xs.getLast?⟩

/-- Chapter 9, "Two averages worked out" and the fog example's averages. -/
theorem test_averages :
    (quantity [-12, -10, -11, -13, -12, -10]).average = some (-11) ∧ (quantity [180, 181, 181]).average = some 181 ∧
      (quantity [600, 600, 600, 600, 600, 400]).average = some 567 ∧
      (quantity [600, 600, 600, 600, 400, 250]).average = some 508 ∧
      (quantity [400, 250, 180, 120, 100, 90]).average = some 190 := by decide +kernel

def fogOf (xs : List Int) (before : Level) : Weather :=
  { gantry.weather with fog := before, quantities := gantry.weather.quantities.set 3 (quantity xs) }

/-- Chapter 9, the fog example at 31, 41, 61, 110 and 130. -/
theorem test_fog :
    (judge 0 (fogOf [600, 600, 400, 250, 180, 120] .zero)).fog = .zero ∧
      (judge 0 (fogOf [600, 400, 250, 180, 120, 100] .zero)).fog = .one ∧
      (judge 0 (fogOf [250, 180, 120, 100, 90, 80] .one)).fog = .two ∧
      (judge 49000000000 (fogOf [90, 80] .two)).fog = .two ∧
      (judge 69000000000 (fogOf [] .two)).fog = .unknown := by decide +kernel

theorem test_poll :
    (after gantry .pollTime).ports[(2 : Port)].queue = [⟨48, []⟩] ∧ (after gantry .pollTime).weather.pollNumber = 1 := by
  decide +kernel

/-- R162: a READING in AWAITING; the value above the range is held to it. -/
theorem test_reading :
    let s := after (after gantry .pollTime) (.reading 2 { noReading with numeric := noReading.numeric.set 0 (some 9999) })
    (s.weather.quantities[0].window.map (fun x => x.value)) = [800] := by decide +kernel

theorem test_missed_poll :
    (after (after gantry .pollTime) .replyTimerExpires).weather.missedPolls = 1 := by decide +kernel

theorem test_alarm_timer :
    (after gantry .alarmTimerExpires).tx.d.insert.c.map contents = [(14, 10, 255, padded [3, 3, 3])] := by decide +kernel

theorem test_view_entry_expires :
    let s := gantry.setWeather { gantry.weather with view := gantry.weather.view.set 30 (some ⟨.one, .zero, .two, 7⟩) }
    (after s (.wxViewEntryExpires 30)).viewOf 30 = none := by decide +kernel

theorem test_wx_rate :
    (after gantry (.wxRate fromTwo 2 3)).weather.interval = 5 ∧ (after gantry (.wxRate fromTwo 2 61)).weather.interval = 60 := by
  decide +kernel

theorem test_wx_limits :
    (after gantry (.wxLimits fromTwo 2 ⟨2, 200, 100, 0, 0⟩)).weather.thresholds.fog2 = 100 ∧
      (after gantry (.wxLimits fromTwo 2 ⟨2, 100, 100, 0, 0⟩)).station.lastReject = .range := by decide +kernel

theorem test_ident :
    let s := withPort 1 (resetPort 0) gantry
    (after s (.ident 1 2 8 64)).ports[(1 : Port)].link = .up ∧ (after s (.ident 1 2 7 64)).ports[(1 : Port)].link = .mismatch
      ∧ (after s (.ident 1 2 8 64)).signs[(1 : Port)].geometry = some (8, 64) := by decide +kernel

theorem test_alive :
    (after (gantry.setClock ⟨500, 0⟩) (.alive 1)).ports[(1 : Port)].silence = some 1000000500 := by decide +kernel

theorem test_bad_frame :
    (after gantry (.badFrame 1 ⟨2, []⟩ 0)).portCounts.badFrames = 1 ∧
      (after gantry (.badFrame 1 ⟨2, []⟩ 0)).rx = gantry.rx := by decide +kernel

/-- R176: a stray 7E before an ALIVE takes its bytes for a frame of type 7E; when they stop, the ALIVE is found. -/
theorem test_byte_timeout :
    let s := after (after gantry (.passByte 1 0x7E)) (.alive 1)
    let t := after s (.frameByteTimeout 1)
    s.portCounts.badFrames = 0 ∧ s.ports[(1 : Port)].silence = some 1000000000 ∧ t.portCounts.badFrames = 1 ∧
      t.ports[(1 : Port)].silence = some 1010000000 ∧ t.rx[(1 : Port)] = none := by decide +kernel

/-- R176: a bad frame whose payload is a good ALIVE: the search goes on behind its flag. -/
theorem test_frame_inside_a_bad_frame :
    let s := after (gantry.setClock ⟨500, 0⟩) (.badFrame 1 ⟨99, frameBytes ⟨2, []⟩⟩ 0)
    s.portCounts.badFrames = 1 ∧ s.ports[(1 : Port)].silence = some 1000000500 := by decide +kernel

/-- R176: an OFF-HOOK with a key that no rule names is no bad frame; it restarts the silence timer and no more. -/
theorem test_unnamed_key :
    let s := after (gantry.setClock ⟨500, 0⟩) (.badFrame 0 ⟨16, [9]⟩ (frameCheck ⟨16, [9]⟩))
    s.portCounts.badFrames = 0 ∧ s.ports[(0 : Port)].silence = some 1000000500 ∧ s.call = gantry.call := by decide +kernel

/-- R177: the IDENT of a phone carries its kind only. -/
theorem test_ident_of_a_phone :
    (after (withPort 0 (resetPort 0) gantry) (.badFrame 0 ⟨1, [1]⟩ (frameCheck ⟨1, [1]⟩))).ports[(0 : Port)].link = .up := by
  decide +kernel

theorem test_port_silence : (after gantry (.portSilenceTimerExpires 2)).ports[(2 : Port)].link = .down := by
  decide +kernel

theorem test_alive_timer : (after gantry (.aliveTimer 1)).ports[(1 : Port)].queue = [⟨2, []⟩] := by decide +kernel

theorem test_frame_sent : (after gantry (.portFrameSent 1)).ports[(1 : Port)].sending = none := by decide +kernel

theorem test_pass_open :
    let s := after gantry (.passOpen fromTwo 2 3)
    s.ports[(2 : Port)].link = .pass ∧ s.ports[(2 : Port)].opening = some 2 ∧ s.ports[(2 : Port)].idleTimer = none := by
  decide +kernel

/-- R181: a pass session that ends leaves the port DOWN. -/
theorem test_pass_ends :
    let s := after gantry (.passOpen fromTwo 2 0)
    (after s (.passClose fromTwo 2)).ports[(2 : Port)].link = .down ∧
      (after s (.passIdleTimerExpires 2)).clock.now = 2000000000 ∧
      (after (after s (.portLineSignal 2 false)) (.lineLossTimerExpires 2)).ports[(2 : Port)].link = .down := by
  decide +kernel

theorem test_pass_bytes :
    let s := after (after gantry (.passOpen fromTwo 2 0)) (.passByte 2 77)
    (after s (.gatherTimerExpires 2)).tx.d.insert.b.map contents = [(15, 10, 2, padded [2, 1, 77])] := by decide +kernel

/-- R182: a kind 7 cell for another station joins the intake and moves on. -/
theorem test_centre_cell :
    let s := after office (.cellFrame 0 ([7, 0, 30, 0] ++ List.replicate 56 0))
    s.centre.intake.length = 1 ∧ (after s .intakeAdvance).tx.d.insert.c.map contents = [(7, 10, 30, padded [])] := by decide +kernel

theorem test_delivery :
    let s := withPort 0 { office.ports[(0 : Port)] with sending := some ⟨⟨81, []⟩, true⟩ } office
    (after (s.setCentre ⟨[], false, [⟨81, [1]⟩]⟩) .deliveryFrameSent).ports[(0 : Port)].sending
      = some ⟨⟨81, [1]⟩, true⟩ := by decide +kernel

theorem test_restart : (after gantry (.restart fromTwo)).phase = .starting := by decide +kernel

/-- R184: the bytes of section 1 at their places, for ports PHONE, SIGN, WEATHER and TOLL: the second PHONE port and the
second SIGN port are absent. -/
theorem test_status_bytes :
    let b := statusSection1 (calling.setPlates { calling.plates with displaced := 0x1234 })
    b.length = 54 ∧ (b.drop 3).take 18 = [4, 2, 5, 0, 0, 0, 0, 0, 0] ++ List.replicate 9 0 ∧
      (b.drop 31).take 10 = List.replicate 10 0 ∧ (b.drop 41).take 3 = [1, 0, 0] ∧ (b.drop 50).take 2 = [0x12, 0x34] := by
  decide +kernel

theorem test_status :
    ((after gantry .statusPeriod).tx.d.insert.b.map (fun c => (c.kind, c.dest))) = [(6, 2), (6, 2), (6, 2)] := by
  decide +kernel

/-- The front command runs, and an idle step lets 1 µs pass (notes/assumptions/1.md). -/
theorem test_step :
    step (State.reset.setPending [.wordCutShort .u]) = .next State.reset ∧
      (match step State.reset with | .next t => t.clock.now | _ => 0) = 1000 := by
  exact ⟨rfl, by decide +kernel⟩

/-- No word spells a command (the table gives no bits). -/
theorem test_no_word_is_a_command : decodeTableWord 8 0 = none := by decide

/-! ### For each statement with hypotheses, a state and operands that meet them -/

/-- A cell of station 2 for this station, once its check is out of the way. -/
theorem delivered_unicast (kind : Byte) (bytes : List Byte) (s : State)
    (h : malformed (cellOf kind 2 10 bytes) = false ∧ s.lines.u.state = .up ∧ s.own = some 10) :
    Delivered .u (cellOf kind 2 10 bytes) s :=
  ⟨⟨checkGood_sealCell _, h.1, h.2.1, by simp [cellOf, sealCell]⟩,
    by rw [h.2.2]; rfl, by rw [h.2.2]; simp [cellOf, sealCell]⟩

theorem copied_broadcast (kind : Byte) (bytes : List Byte) (s : State)
    (h : malformed (cellOf kind 11 255 bytes) = false ∧ s.lines.u.state = .up ∧ s.own = some 10 ∧ s.fold = .normal) :
    Copied .u (cellOf kind 11 255 bytes) s :=
  ⟨⟨checkGood_sealCell _, h.1, h.2.1, by simp [cellOf, sealCell]⟩, by simp [cellOf, sealCell],
    by rw [h.2.2.1]; simp [cellOf, sealCell], Or.inl ⟨rfl, Or.inl h.2.2.2⟩⟩

theorem admitted_gantry : Admitted fromTwo gantry :=
  ⟨by decide +kernel, Or.inr (by decide +kernel), fun g h => by simp [fromTwo] at h⟩

theorem admitted_of (s : State) (h : s.phase = .active ∧ (s.heardOf 2).present = true ∧ (s.heardOf 2).centre = true) :
    Admitted fromTwo s :=
  ⟨h.1, Or.inr h.2, fun g h => by simp [fromTwo] at h⟩

/-- A cell whose check is wrong in every bit. -/
def spoilt (c : Cell) : Cell := { sealCell c with check := ~~~(sealCell c).check }

theorem checkGood_spoilt (c : Cell) : checkGood (spoilt c) = false := by
  simp only [checkGood, spoilt, sealCell, cellBytes]
  refine decide_eq_false (fun h => ?_)
  have := congrArg (fun x => x.getLsbD 0) h
  simp at this

theorem witness_idle : State.reset.pending = [] := rfl

theorem witness_fill_word :
    ((gantry.setLines ⟨resetLine 0, lineUp⟩).lines.get .u).state ≠ .up ∧
      ((withTx .u { resetTransmitter 10 0 with consecutive := 16 } gantry).tx.get .u).consecutive = 16 ∧
      (gantry.tx.get .u).transit = ⟨[], [], []⟩ ∧ (gantry.tx.get .u).insert = ⟨[], [], []⟩ ∧
      (gantry.lines.get .d).silence = some 2000000 ∧ max gantry.clock.now (gantry.tx.get .d).endsAt ≤ 2000000 := by
  decide +kernel

/-- One cell at the head of each queue in turn; the B queues also at fairness 4. -/
theorem witness_word_end :
    let c := cellOf 13 10 2 []
    let at' := fun (x : Transmitter) (s : State) => s = withTx .u x gantry → x = s.tx.get .u ∧
      (s.lines.get .u).state = .up ∧ x.consecutive < 16
    let x := { resetTransmitter 10 0 with consecutive := 15 }
    at' { x with transit := ⟨[c], [], []⟩ } (withTx .u { x with transit := ⟨[c], [], []⟩ } gantry) ∧
      at' { x with insert := ⟨[c], [], []⟩ } (withTx .u { x with insert := ⟨[c], [], []⟩ } gantry) ∧
      at' { x with transit := ⟨[], [c], []⟩ } (withTx .u { x with transit := ⟨[], [c], []⟩ } gantry) ∧
      at' { x with insert := ⟨[], [c], []⟩ } (withTx .u { x with insert := ⟨[], [c], []⟩ } gantry) ∧
      at' { x with transit := ⟨[], [], [c]⟩, fairness := 4 }
        (withTx .u { x with transit := ⟨[], [], [c]⟩, fairness := 4 } gantry) ∧
      at' { x with insert := ⟨[], [], [c]⟩, fairness := 3 }
        (withTx .u { x with insert := ⟨[], [], [c]⟩, fairness := 3 } gantry) ∧
      tollWants gantry = false := by
  refine ⟨fun _ => ⟨rfl, rfl, ?_⟩, fun _ => ⟨rfl, rfl, ?_⟩, fun _ => ⟨rfl, rfl, ?_⟩, fun _ => ⟨rfl, rfl, ?_⟩,
    fun _ => ⟨rfl, rfl, ?_⟩, fun _ => ⟨rfl, rfl, ?_⟩, ?_⟩ <;> decide +kernel

/-- A centre station whose B insert queue is full, with a NEW record and a waiting PASS cell. -/
def crowded (last : Option PlaceTaker) : State :=
  let s := withTx .d { resetTransmitter 10 0 with insert := ⟨[], [], List.replicate 32 (cellOf 13 10 2 [])⟩ } office
  (s.setToll { s.toll with journal := [⟨0, [1], none⟩], next := 1, chan := .opened, bound := some 2, lastPlace := last }).setCentre
    { s.centre with intake := [cellOf 15 0 30 []] }

theorem witness_freed_place :
    let s := crowded (some .toll)
    Line.d = insertLine s.fold ∧ (s.lines.get .d).state = .up ∧ (s.tx.get .d).consecutive < 16 ∧
      (s.tx.get .d).transit = ⟨[], [], []⟩ ∧
      (s.tx.get .d).insert = ⟨[], [], cellOf 13 10 2 [] :: List.replicate 31 (cellOf 13 10 2 [])⟩ ∧
      s.phase = .active ∧ s.toll.chan = .opened ∧ s.toll.bound = some 2 ∧ s.toll.journal = [⟨0, [1], none⟩] ∧
      sentCount [] < 16 ∧ s.centre.intake = [cellOf 15 0 30 []] ∧ s.own ≠ some 30 ∧
      (crowded none).toll.lastPlace ≠ some .toll ∧ s.own = some 10 := by
  refine ⟨?_, ?_, ?_, rfl, rfl, rfl, rfl, rfl, rfl, ?_, rfl, ?_, ?_, ?_⟩ <;> decide +kernel

/-- R7, R182: on the intake's turn a PASS cell for this station leaves the place to the toll unit. -/
theorem test_head_that_stays_here :
    let s := (crowded (some .toll)).setCentre { (crowded (some .toll)).centre with intake := [cellOf 15 0 10 []] }
    let t := after s (.wordEnd .d)
    t.centre.intake = [] ∧ (t.tx.d.insert.b.getLast?.map (fun c => c.kind)) = some 8 ∧
      t.toll.lastPlace = some .toll := by decide +kernel

/-- R4: a PASS cell of two data bytes leaves the centre equipment with the bytes behind them as 0. -/
theorem test_unused_bytes_are_cleared :
    let s := office.setCentre { office.centre with intake := [cellOf 15 0 30 [1, 2, 8, 9, 7, 7]] }
    (after s .intakeAdvance).tx.d.insert.b.map contents = [(15, 10, 30, padded [1, 2, 8, 9])] ∧
      clearUnused 7 [9, 0, 1, 1, 0, 3, 5, 5, 5, 5, 2, 4, 3, 9, 6] = [9, 0, 1, 1, 0, 3, 0, 0, 0, 0, 2, 4, 3, 9, 0] := by
  decide +kernel

theorem witness_fill_word_arrives :
    (gantry.lines.get .u).deaf = none ∧ ((State.reset).lines.get .u).state = .down ∧
      ((gantry.setLines ⟨{ lineUp with deaf := some 9 }, lineUp⟩).lines.get .u).deaf = some 9 := by decide +kernel

/-- The header values on both sides of each limit of R13. -/
theorem witness_receive_filter :
    checkGood (spoilt (cellOf 4 30 40 [])) = false ∧ checkGood (cellOf 0 30 40 []) = true ∧
      (gantry.lines.get .u).windowBad ≠ 7 ∧ ((State.reset).lines.get .u).state ≠ .up ∧
      malformed (cellOf 0 30 40 []) = true ∧ malformed (cellOf 15 1 60 []) = false ∧
      malformed (cellOf 16 1 60 []) = true ∧ malformed (cellOf 1 61 60 []) = true ∧
      malformed (cellOf 1 60 64 []) = false ∧ malformed (cellOf 1 60 95 []) = false ∧
      malformed (cellOf 1 60 96 []) = true ∧ malformed (cellOf 1 60 63 []) = true ∧
      malformed (cellOf 1 60 255 []) = false := by
  refine ⟨checkGood_spoilt _, checkGood_sealCell _, ?_⟩
  decide +kernel

def downLine : LineUnit := resetLine 0

/-- Both ways through a NORMAL station, and one segment of each folded one. -/
theorem witness_forwarding :
    Passes .u (cellOf 4 30 40 []) gantry ∧ Passes .d (cellOf 4 30 255 []) gantry ∧ gantry.fold = .normal ∧
      gantry.own ≠ some 40 ∧ gantry.own ≠ some 30 ∧
      Passes .u (cellOf 4 30 40 []) (gantry.setLines ⟨lineUp, downLine⟩) ∧
      (gantry.setLines ⟨lineUp, downLine⟩).fold = .foldD ∧
      Passes .d (cellOf 4 30 40 []) (gantry.setLines ⟨downLine, lineUp⟩) ∧
      (gantry.setLines ⟨downLine, lineUp⟩).fold = .foldU ∧
      Passes .u (cellOf 4 10 40 []) gantry ∧ gantry.own = some 10 ∧ Passes .d (cellOf 4 10 40 []) gantry := by
  refine ⟨⟨checkGood_sealCell _, ?_⟩, ⟨checkGood_sealCell _, ?_⟩, ?_, ?_, ?_, ⟨checkGood_sealCell _, ?_⟩, ?_,
    ⟨checkGood_sealCell _, ?_⟩, ?_, ⟨checkGood_sealCell _, ?_⟩, ?_, ⟨checkGood_sealCell _, ?_⟩⟩ <;> decide +kernel

/-- A group cell and an all-stations cell on the copying receive of a NORMAL station and of each folded one. -/
theorem witness_copied_forwarding :
    Passes .u (cellOf 12 30 64 []) gantry ∧ gantry.own ≠ some 30 ∧ 64 ≤ (64 : Byte).toNat ∧
      Passes .u (cellOf 4 30 255 []) (gantry.setLines ⟨lineUp, downLine⟩) ∧
      Passes .d (cellOf 4 30 95 []) (gantry.setLines ⟨downLine, lineUp⟩) ∧
      (gantry.tx.get .d).transit.b.length < transitCapacity (classOf 12) := by
  refine ⟨⟨checkGood_sealCell _, ?_⟩, ?_, ?_, ⟨checkGood_sealCell _, ?_⟩, ⟨checkGood_sealCell _, ?_⟩, ?_⟩ <;> decide +kernel

/-- Each change of the fold state is reached by one of the commands. -/
theorem witness_fold_changes :
    let foldD := gantry.setLines ⟨lineUp, downLine⟩
    let proving := { downLine with state := .proving, proving := some 9 }
    (after gantry (.silenceTimerExpires .d)).fold = .foldD ∧ (after gantry (.silenceTimerExpires .u)).fold = .foldU ∧
      (after (gantry.setLines ⟨lineUp, proving⟩) (.provingTimerExpires .d)).fold = .normal ∧
      (after foldD (.silenceTimerExpires .u)).fold = .isolated ∧
      (after (gantry.setLines ⟨proving, downLine⟩) (.provingTimerExpires .u)).fold = .foldD := by decide +kernel

theorem witness_down_conditions :
    let s := gantry.setLines ⟨{ lineUp with deaf := some 9, windowBad := 7 }, { lineUp with state := .proving }⟩
    (s.lines.get .u).state ≠ .down ∧ (s.lines.get .u).silence ≠ none ∧ (s.lines.get .u).deaf ≠ none ∧
      (s.lines.get .u).windowBad = 7 ∧ checkGood (spoilt (cellOf 4 30 40 [])) = false ∧
      (s.lines.get .d).state = .proving := by
  refine ⟨?_, ?_, ?_, ?_, checkGood_spoilt _, ?_⟩ <;> decide +kernel

theorem witness_line_timers :
    let s := gantry.setLines ⟨{ downLine with silence := some 8, deaf := some 9, proving := some 7 },
      { downLine with state := .proving, proving := some 9 }⟩
    (s.lines.get .u).state = .down ∧ (s.lines.get .u).silence = some 8 ∧ (s.lines.get .u).deaf = some 9 ∧
      (s.lines.get .u).proving = some 7 ∧ (s.lines.get .d).proving = some 9 ∧ (s.lines.get .d).state = .proving := by
  decide +kernel

/-- Station 10 listening after a reset. -/
def listening : State := resetWith [] ⟨0, 0⟩ ⟨10, #v[1, 2, 3, 4]⟩

theorem witness_listening :
    listening.phase = .starting ∧ listening.station.listening = some 3000000000 ∧
      (listening.insertQueue .c).length < 32 ∧ gantry.phase = .active ∧ gantry.station.helloAt = some 1000000000 := by
  decide +kernel

theorem witness_heard_table :
    (gantry.heardOf 2).present = true ∧ gantry.phase ≠ .strapFault ∧ Copied .u (cellOf 5 11 255 (helloBytes
        ⟨6, .normal, false, true, false, true, #v[5, 0, 0, 0]⟩)) gantry ∧
      (readHello (padded (helloBytes ⟨6, .normal, false, true, false, true, #v[5, 0, 0, 0]⟩))).duplicate = true ∧
      (gantry.heardOf 11).present = false := by
  refine ⟨?_, ?_, copied_broadcast _ _ _ ?_, ?_, ?_⟩ <;> decide +kernel

/-- Station 11 becomes the toll centre, restarts while it is, and is lost. -/
theorem witness_toll_centre :
    let c := cellOf 5 11 255 (helloBytes ⟨6, .normal, true, true, true, false, #v[5, 0, 0, 0]⟩)
    let heard := after gantry (.cellArrives .u c)
    Copied .u c gantry ∧ (readHello (padded (helloBytes ⟨6, .normal, true, true, true, false, #v[5, 0, 0, 0]⟩))).restart = true ∧
      gantry.phase = .active ∧ gantry.portOf .toll ≠ none ∧ gantry.tollCentre = none ∧ heard.tollCentre = some 11 ∧
      heard.toll.chan = .syncing ∧ heard.toll.bound = some 11 ∧ (gantry.insertQueue .c).length ≤ 12 ∧
      (heard.heardOf 11).present = true ∧ (after heard (.heardEntryExpires 11)).tollCentre = none := by
  refine ⟨copied_broadcast _ _ _ ?_, ?_⟩
  · decide +kernel
  · simp only [after_cell]
    decide +kernel

/-- An own-source HELLO with stamp 8 at a station whose stamp is 7. -/
theorem witness_own_hello :
    let c := cellOf 5 10 255 (helloBytes ⟨8, .normal, false, false, false, false, #v[1, 2, 3, 4]⟩)
    gantry.phase = .active ∧ gantry.own = some c.source.toNat ∧ Passes .u c gantry ∧ c.kind = 5 ∧ c.dest = 255 ∧
      (readHello c.payload).stamp ≠ gantry.station.stamp := by
  refine ⟨?_, ?_, ⟨checkGood_sealCell _, ?_⟩, ?_, ?_, ?_⟩ <;> decide +kernel

/-- The own HELLO with the own stamp in ACTIVE, and another stamp in STARTING. -/
theorem witness_own_hello_comes_home :
    let c := cellOf 5 10 255 (helloBytes ⟨7, .normal, false, false, false, false, #v[1, 2, 3, 4]⟩)
    let starting := gantry.setStation { gantry.station with phase := .starting, stamp := 0 }
    gantry.own = some c.source.toNat ∧ Passes .u c gantry ∧ c.kind = 5 ∧ c.dest = 255 ∧ gantry.fold = .normal ∧
      (readHello c.payload).stamp = gantry.station.stamp ∧ Passes .u c starting ∧ starting.phase ≠ .active := by
  refine ⟨?_, ⟨checkGood_sealCell _, ?_⟩, ?_, ?_, ?_, ?_, ⟨checkGood_sealCell _, ?_⟩, ?_⟩ <;> decide +kernel

/-- A COMMAND of station 3, which is no centre, and one to a group without this station; RESTART of station 2. -/
theorem witness_admission :
    gantry.phase ≠ .strapFault ∧ State.reset.phase = .strapFault ∧ Concerns fromTwo gantry ∧ FromCentre fromTwo gantry ∧
      ¬FromCentre ⟨false, 3, .unicast⟩ gantry ∧ ¬Concerns ⟨false, 2, .group 31⟩ gantry ∧ listening.phase ≠ .active ∧
      FromCentre ⟨true, 10, .all⟩ listening ∧ Concerns ⟨true, 10, .all⟩ listening ∧
      Delivered .u (cellOf 7 2 10 [16]) gantry ∧ Copied .u (cellOf 7 11 255 [0]) gantry ∧
      gantry.centreHeard 2 = true ∧ gantry.centreHeard 11 = false ∧ 15 < (byteAt (padded [16]) 0).toNat ∧
      (byteAt (padded [0]) 0).toNat = 0 := by
  refine ⟨by decide +kernel, by decide +kernel, admitted_gantry.2.2, admitted_gantry.2.1, ?_, ?_, by decide +kernel,
    Or.inl rfl, fun g h => by simp at h, delivered_unicast _ _ _ (by decide +kernel),
    copied_broadcast _ _ _ (by decide +kernel), by decide +kernel, by decide +kernel, by decide +kernel,
    by decide +kernel⟩
  · intro h
    exact absurd h (by unfold FromCentre; decide +kernel)
  · intro h
    exact h 31 rfl (by decide +kernel)

/-- PLATE-DROP of plate 3 in a COMMAND cell: delivered, copied, and at the head of the intake FIFO for this station and for
all stations. -/
theorem witness_command_cells :
    let s := fun (dest : Byte) => gantry.setCentre { gantry.centre with intake := [cellOf 7 0 dest [4, 0, 3]] }
    Delivered .u (cellOf 7 2 10 [4, 0, 3]) gantry ∧ Copied .u (cellOf 7 11 255 [4, 0, 3]) gantry ∧
      .u = copyingLine gantry.fold ∧ 64 ≤ (255 : Byte).toNat ∧
      commandOf (.plateDrop fromTwo 3) = some (⟨false, 2, addressingOf 10⟩, readCommand (padded [4, 0, 3])) ∧
      commandOf (.plateDrop ⟨false, 11, .all⟩ 3) = some (⟨false, 11, addressingOf 255⟩, readCommand (padded [4, 0, 3])) ∧
      commandOf (.plateDrop ⟨true, 10, .all⟩ 3) =
        some (⟨true, (s 255).ownByte, addressingOf 255⟩, readCommand (padded [4, 0, 3])) ∧
      commandOf (.plateDrop ⟨true, 10, .unicast⟩ 3) =
        some (⟨true, (s 10).ownByte, addressingOf 10⟩, readCommand (padded [4, 0, 3])) ∧
      (s 10).phase = .active ∧ (s 10).centre.paused = false ∧ (s 10).own = some (10 : Byte).toNat ∧
      ((s 10).insertQueue .c).length < 32 ∧ addressingOf 255 ≠ .unicast := by
  refine ⟨delivered_unicast _ _ _ ?_, copied_broadcast _ _ _ ?_, ?_⟩ <;> decide +kernel

/-- Target 0 is a PHONE port, 1 a SIGN port; 3 and 4 stand on both sides of the range. -/
theorem witness_port_commands :
    Admitted fromTwo gantry ∧ gantry.profile 0 = .phone ∧ gantry.profile 1 ≠ .phone ∧
      resolve .unicast [.phone] 4 gantry = .refused .range ∧ resolve .unicast [.phone] 254 gantry = .refused .range ∧
      resolve .unicast [.phone] 3 gantry = .refused .port ∧ resolve .unicast [.phone] 255 gantry = .ports [0] ∧
      resolve .unicast [.centre] 255 gantry = .refused .port ∧
      (gantry.groupMask 1).getLsbD 0 = true ∧ (gantry.groupMask 1).getLsbD 1 = false := by
  refine ⟨admitted_gantry, ?_⟩
  decide +kernel

theorem witness_groups_and_floor :
    Admitted fromTwo gantry ∧ (31 : Byte).toNat ≤ 31 ∧ (15 : Byte).toNat ≤ 15 ∧ ¬(32 : Byte).toNat ≤ 31 ∧
      3 < (4 : Byte).toNat ∧ gantry.call.requests = [] := by
  refine ⟨admitted_gantry, ?_⟩
  decide +kernel

theorem witness_phases :
    (after gantry (.callFloor fromTwo 1)).phase = .active ∧ (after listening .listeningTimerExpires).phase = .active ∧
      (after gantry (.restart fromTwo)).phase = .starting ∧
      (after gantry (.cellArrives .u (cellOf 7 2 10 [15]))).phase = .starting := by
  simp only [after_cell]
  decide +kernel

theorem witness_new_requests :
    Serving .phone 0 gantry ∧ gantry.call.phones[(0 : Port)].state = .idle ∧ gantry.rx[(0 : Port)] = none ∧
      gantry.phase = .active ∧ Admitted fromTwo gantry ∧ gantry.call.requests = [] ∧ gantry.call.attempt = none ∧ gantry.call.floor ≤ 1 ∧
      gantry.selectedCentre = some 2 ∧ gantry.call.phones[(0 : Port)].avoided = none ∧
      gantry.call.circuits[(0 : Fin 16)] = .free ∧ (gantry.insertQueue .c).length < 32 ∧
      Serving .phone 0 (withPort 0 { resetPort 0 with link := .up } listening) := by
  refine ⟨⟨?_, ?_⟩, ?_, ?_, ?_, admitted_gantry, ?_, ?_, ?_, ?_, ?_, ?_, ?_, ⟨?_, ?_⟩⟩ <;> decide +kernel

/-- All circuits FREE, where the lowest is taken, and all held elsewhere at priority 1. -/
theorem witness_circuit_choice :
    (∀ (k : Fin 16) st p x a o, (Vector.replicate 16 Circuit.free)[k] = .remote st p x a o →
      (o - (0 : BitVec 16)).toNat < 32768) ∧
    (∀ (k : Fin 16) st p x a o, (Vector.replicate 16 (Circuit.remote 30 0 1 0 7))[k] = .remote st p x a o →
      (o - (0 : BitVec 16)).toNat < 32768) ∧
    chooseCircuit (Vector.replicate 16 .free) 1 (some 0) = some (1, false) ∧
    (chooseCircuit (Vector.replicate 16 (.remote 30 0 1 0 7)) 2 none).map (fun x => x.2) = some true ∧
    chooseCircuit (Vector.replicate 16 (.remote 30 0 1 0 7)) 1 none = none := by
  refine ⟨fun k st p x a o h => ?_, fun k st p x a o h => ?_, ?_⟩
  · simp at h
  · simp at h
    obtain ⟨-, -, -, -, rfl⟩ := h
    decide
  · decide +kernel

/-- Station 11's claim of priority 2 for circuit 3, against each kind of entry. -/
theorem witness_passing_claims :
    let c := cellOf 2 11 255 (claimBytes ⟨3, 2, 0, false, false, 20, 5, false⟩)
    let cl := readClaim (padded (claimBytes ⟨3, 2, 0, false, false, 20, 5, false⟩))
    Copied .u c claiming ∧ c.kind = 2 ∧ cl.circuit = 3 ∧ cl.priority = 2 ∧ cl.beaten = false ∧ claiming.phase = .active ∧
      (∀ r ∈ claiming.call.requests, r.priority ≤ cl.priority) ∧
      (∀ p : Port, claiming.call.phones[p].priority ≤ cl.priority) ∧
      ((claiming.tx.get (forwardLine claiming.fold .u)).transit.c).length < 32 ∧
      claiming.call.circuits[(3 : Fin 16)] = .ownClaiming 0 2 1 ∧ gantry.call.circuits[(3 : Fin 16)] = .free ∧
      calling.call.circuits[(5 : Fin 16)] = .ownHeld 0 2 ∧ remoteFour.call.circuits[(4 : Fin 16)] = .remote 30 1 2 7 1 := by
  refine ⟨copied_broadcast _ _ _ ?_, ?_⟩ <;> decide +kernel

theorem witness_claim_comes_home :
    let c := cellOf 2 10 255 (claimBytes ⟨3, 2, 0, false, false, 2, 1, false⟩)
    Passes .u c claiming ∧ c.kind = 2 ∧ c.dest = 255 ∧ claiming.own = some 10 ∧ Line.u = copyingLine claiming.fold ∧
      claiming.phase = .active ∧ claiming.call.attempt = some ⟨0, 3, 2, 1, false, 2, 200000000⟩ ∧
      (readClaim (padded (claimBytes ⟨3, 2, 0, false, false, 2, 1, false⟩))).number = 1 ∧
      (readClaim (padded (claimBytes ⟨3, 2, 0, false, false, 2, 1, false⟩))).beaten = false ∧
      (readClaim (padded (claimBytes ⟨3, 2, 0, false, false, 2, 1, false⟩))).circuit = 3 ∧
      (readClaim (padded (claimBytes ⟨4, 2, 0, false, false, 2, 1, true⟩))).beaten = true ∧
      claiming.call.circuits[(3 : Fin 16)] = .ownClaiming 0 2 1 ∧ (claiming.heardOf 2).present = true ∧
      (∀ r ∈ claiming.call.requests, r.port = 0) ∧ claiming.call.phones[(0 : Port)].ringFlag = false := by
  refine ⟨⟨checkGood_sealCell _, ?_⟩, ?_⟩ <;> decide +kernel

/-- A return with another number than the attempt's, and one without an attempt. -/
theorem witness_return_ignored :
    let c := cellOf 2 10 255 (claimBytes ⟨3, 2, 0, false, false, 2, 9, false⟩)
    Passes .u c claiming ∧ (readClaim c.payload).number ≠ 1 ∧ Passes .u c gantry ∧ gantry.call.attempt = none := by
  refine ⟨⟨checkGood_sealCell _, ?_⟩, ?_, ⟨checkGood_sealCell _, ?_⟩, ?_⟩ <;> decide +kernel

/-- Station 10 when it hears no centre. -/
def unheard : State := gantry.setStation { gantry.station with heard := Vector.replicate 61 absentEntry }

/-- A claim in flight at a station that hears no centre; its first attempt. -/
def lonely : State :=
  withPhone 0 { resetPhone with state := .claiming, priority := 2 } (claiming.setStation unheard.station)

theorem witness_failed_return :
    lonely.call.attempt = some ⟨0, 3, 2, 1, false, 2, 200000000⟩ ∧ lonely.call.phones[(0 : Port)].failed < 3 ∧
      lonely.selectedCentre = none ∧ lonely.phase = .active ∧ lonely.call.circuits[(4 : Fin 16)] = .free := by
  decide +kernel

/-- Port 0 in BACKOFF at a station that hears no centre. -/
def backingOff : State := withPhone 0 { resetPhone with state := .backoff, failed := 4, backoff := some 9 } unheard

theorem witness_attempt_and_backoff :
    claiming.call.attempt = some ⟨0, 3, 2, 1, false, 2, 200000000⟩ ∧ (∀ r ∈ claiming.call.requests, r.port = 0) ∧
      claiming.call.phones[(0 : Port)].failed = 3 ∧ backingOff.call.phones[(0 : Port)].backoff = some 9 ∧
      backingOff.call.phones[(0 : Port)].state = .backoff ∧ backingOff.selectedCentre = none := by decide +kernel

theorem witness_ended_calls :
    Serving .phone 0 calling ∧ calling.phase = .active ∧ calling.call.phones[(0 : Port)].state = .connected ∧
      calling.rx[(0 : Port)] = none ∧ calling.call.phones[(0 : Port)].circuit = some 5 ∧ calling.call.requests = [] ∧
      (withPhone 0 { connected with state := .ringing, ringing := some 9 } calling).call.phones[(0 : Port)].ringing
        = some 9 := by
  refine ⟨⟨?_, ?_⟩, ?_, ?_, ?_, ?_, ?_, ?_⟩ <;> decide +kernel

theorem witness_phones :
    Serving .phone 0 calling ∧ calling.phase = .active ∧ (List.replicate 40 (0 : Byte)).length = 40 ∧
      calling.call.phones[(0 : Port)].state = .connected ∧ calling.call.phones[(0 : Port)].circuit = some 5 ∧
      calling.call.phones[(0 : Port)].target = some 2 ∧ calling.rx[(0 : Port)] = none := by
  refine ⟨⟨?_, ?_⟩, ?_⟩ <;> decide +kernel

/-- Receive sequence 43: the sequences 44 and 170 are newer, 43 and 171 late; a queue of eight is full. -/
theorem witness_voice :
    let seq := fun (n : BitVec 8) => 1 ≤ (n - (43 : BitVec 8)).toNat ∧ (n - (43 : BitVec 8)).toNat ≤ 127
    Delivered .u (cellOf 1 2 10 (voiceBytes 5 44 [])) calling ∧ calling.phase = .active ∧ calling.isCentre = false ∧
      calling.profile 0 = .phone ∧ connected.state = .connected ∧
      connected.circuit = some (circuitAt (padded (voiceBytes 5 44 [])) 0) ∧ connected.target = some 2 ∧
      connected.playTimer = some 5000000 ∧ seq 44 ∧ seq 170 ∧ ¬seq 43 ∧ ¬seq 171 := by
  refine ⟨delivered_unicast _ _ _ ?_, ?_⟩ <;> decide +kernel

theorem witness_hold :
    calling.phase = .active ∧ calling.call.holdAt = some 1000000000 ∧
      [((5 : Fin 16), 2, (0 : Port))].Pairwise (fun a b => a.1 < b.1) ∧
      (∀ (c : Fin 16) x p, (c, x, p) ∈ [((5 : Fin 16), 2, (0 : Port))] ↔ calling.call.circuits[c] = .ownHeld p x) ∧
      remoteFour.call.circuits[(4 : Fin 16)] = .remote 30 1 2 7 1 ∧ remoteFour.call.requests = [] := by
  refine ⟨by decide +kernel, by decide +kernel, by decide +kernel, fun c x p => ?_, by decide +kernel, by decide +kernel⟩
  by_cases hc : c = 5
  · subst hc
    have h : calling.call.circuits[(5 : Fin 16)] = .ownHeld 0 2 := rfl
    rw [h]
    simp [eq_comm, and_comm]
  · have h : calling.call.circuits = (Vector.replicate 16 Circuit.free).set 5 (.ownHeld 0 2) := rfl
    rw [h]
    have : (5 : Nat) ≠ c.val := fun e => hc (Fin.ext e.symm)
    simp [Vector.getElem_set_ne, this, hc]

/-- Station 11's HOLD of circuits 3, 4 and 5 at priorities 3, 1 and 2 meets entries of each form; its RELEASE frees what
it holds. -/
theorem witness_holds_and_releases :
    let bytes := holdBytes [(3, 3, 1), (4, 1, 0), (5, 2, 0)]
    let s := calling.setCall { calling.call with
      circuits := calling.call.circuits.set 4 (.remote 11 2 1 0 1) }
    Copied .u (cellOf 4 11 255 bytes) calling ∧ calling.phase = .active ∧
      readHold (padded bytes) = [(3, 3, 1), (4, 1, 0), (5, 2, 0)] ∧ ((readHold (padded bytes)).map (fun h => h.1)).Nodup ∧
      s.call.circuits[(3 : Fin 16)] = .free ∧ s.call.circuits[(4 : Fin 16)] = .remote 11 2 1 0 1 ∧
      s.call.circuits[(5 : Fin 16)] = .ownHeld 0 2 ∧ ¬(2 < 2 ∨ (2 = 2 ∧ 11 < s.own.getD 0)) ∧
      calling.call.phones[(0 : Port)].ringFlag = false ∧ Copied .u (cellOf 3 11 255 [4, 2]) s ∧
      circuitAt (padded [4, 2]) 0 = 4 ∧ portAt (padded [4, 2]) 1 = 2 := by
  refine ⟨copied_broadcast _ _ _ ?_, ?_, ?_, ?_, ?_, ?_, ?_, ?_, ?_, copied_broadcast _ _ _ ?_, ?_⟩ <;> decide +kernel

theorem witness_records :
    let s := withPort 3 { resetPort 0 with link := .up } gantry
    Serving .toll 3 s ∧ s.rx[(3 : Port)] = none ∧ (∀ q : Port, q < 3 → s.profile q ≠ .toll) ∧
      s.ports[(3 : Port)].sending = none ∧ s.phase = .active ∧ s.toll.journal.length < 128 ∧ s.toll.chan ≠ .opened ∧
      gantry.ports[(3 : Port)].sending ≠ none ∧ gantry.ports[(3 : Port)].queue.length < 128 := by
  refine ⟨⟨?_, ?_⟩, ?_, ?_⟩ <;> decide +kernel

/-- An OPEN channel whose records are all SENT, with room for one more. -/
theorem witness_record_is_sent :
    Serving .toll 3 sentRecords ∧ sentRecords.toll.chan = .opened ∧ sentRecords.toll.bound = some 2 ∧
      (∀ r ∈ sentRecords.toll.journal, r.sent ≠ none) ∧ sentRecords.toll.journal.length < 16 ∧
      (sentRecords.insertQueue .b).length < 32 ∧ sentRecords.toll.sendMark = some 4 ∧
      atOrBefore sentRecords.toll.next 4 = false := by
  refine ⟨⟨?_, ?_⟩, ?_⟩ <;> decide +kernel

theorem witness_sync_and_retransmit :
    let syncing := sentRecords.setToll { sentRecords.toll with chan := .syncing, syncTimer := some 9 }
    sentRecords.toll.bound = some 2 ∧ syncing.toll.bound = some 2 ∧ syncing.toll.syncTimer = some 9 ∧
      sentRecords.toll.chan = .opened ∧
      sentRecords.toll.journal.find? (fun r => r.sent.isSome) = some ⟨2, [1], some 0⟩ ∧
      sentRecords.toll.progress = some 100 ∧ sentRecords.toll.expiries < 7 ∧ sentRecords.toll.sendMark = some 4 ∧
      (∀ r ∈ sentRecords.toll.journal.take 16, atOrBefore r.number 4 = true) := by decide +kernel

/-- Records 2 to 4 SENT: an answer through 1 is before the oldest, 2 and 4 are progress, 5 is beyond the send mark. -/
theorem witness_acks :
    Delivered .u (cellOf 9 2 10 (ackBytes 1 4)) sentRecords ∧ sentRecords.phase = .active ∧
      sentRecords.toll.bound = some 2 ∧ sentRecords.toll.chan = .opened ∧
      sentRecords.toll.sendMark = some 4 ∧ atOrBefore 5 4 = false ∧ atOrBefore 4 4 = true ∧ isBefore 1 2 = true ∧
      isBefore 2 2 = false ∧ (sentRecords.toll.journal.head?.map (fun r => r.number)) = some 2 ∧
      sentRecords.portOf .toll = some 3 ∧ sentRecords.ports[(3 : Port)].link = .up ∧
      sentRecords.ports[(3 : Port)].link ≠ .pass ∧ sentRecords.rx[(3 : Port)] = none := by
  refine ⟨delivered_unicast _ _ _ ?_, ?_⟩ <;> decide +kernel

theorem witness_receive_table :
    let s := office.setToll { office.toll with receive := office.toll.receive.set 2 (some 5) }
    Delivered .u (cellOf 8 2 10 (tollBodyBytes 5 [1])) s ∧ s.phase = .active ∧ s.portOf .centre = some 0 ∧
      s.ports[(0 : Port)].sending ≠ none ∧ (padded (tollBodyBytes 5 [1])).length = 56 ∧
      (s.insertQueue .c).length < 32 ∧ s.expected 2 = some 5 ∧ office.expected 2 = none ∧
      s.ports[(0 : Port)].link = .up ∧ s.centre.delivery.length < 128 ∧ isBefore 4 5 = true ∧ (6 : BitVec 16) ≠ 5 ∧
      isBefore 6 5 = false := by
  refine ⟨delivered_unicast _ _ _ ?_, ?_⟩ <;> decide +kernel

/-- Downstream entry 0 bound to station 2, expecting 102: 101 is a repeat, 102 expected, 104 beyond. -/
theorem witness_downstream :
    let s := gantry.setToll { gantry.toll with down := gantry.toll.down.set 0 (some ⟨2, 102⟩) }
    Delivered .u (cellOf 11 2 10 [0, 104, 48, 9]) s ∧ s.phase = .active ∧ s.portOf .toll = some 3 ∧
      s.centreHeard 2 = true ∧ 1 ≤ (byteAt [0, 104, 48, 9] 2).toNat ∧ (byteAt [0, 104, 48, 9] 2).toNat ≤ 48 ∧
      s.toll.down[(0 : Fin 2)] = some ⟨2, 102⟩ ∧ s.toll.down[(1 : Fin 2)] = none ∧ s.ports[(3 : Port)].link = .up ∧
      s.ports[(3 : Port)].sending ≠ none ∧ s.ports[(3 : Port)].queue.length < 127 ∧ isBefore 101 102 = true ∧
      isBefore 102 102 = false ∧ isBefore 104 102 = false := by
  refine ⟨delivered_unicast _ _ _ ?_, ?_⟩ <;> decide +kernel

/-- A part 0 of plate 63: 255 × 64 of depth 1 in 43 parts of 48 bytes, 8 blocks. -/
theorem witness_part_zero :
    let size := 64 * ((255 + 7) / 8)
    (size + 47) / 48 = 43 ∧ (size + 255) / 256 = 8 ∧
      (∀ k : Fin 2, resetPlates.slots[k] = none) ∧ (∀ j, j < 8 → resetPlates.blocks[0 + j]? = some .free) ∧
      (∀ i : Fin 256, resetPlates.blocks[i] ≠ .slot 0) ∧ memWf resetPlates.mem = true := by
  decide +kernel

/-- A slot for plate 5, 64 × 8 of depth 1, that expects its second and last part, of 16 bytes. -/
def openSlot : Slot := ⟨5, 64, 8, 1, 2, 1, 0, 1, 0, 0, 2000000000⟩

theorem witness_later_parts :
    let st := { resetPlates with slots := resetPlates.slots.set 0 (some openSlot) }
    st.slots[(0 : Fin 2)] = some openSlot ∧ openSlot.height * ((openSlot.width + 7) / 8) - 48 * (openSlot.parts - 1) = 16 ∧
      openSlot.expected + 1 = openSlot.parts ∧ (gantry.setPlates st).plates.slots[(0 : Fin 2)] = some openSlot ∧
      memWf st.mem = true := by decide +kernel

/-- Station 10 with plate 63 present in block 0. -/
def withPlate : State :=
  gantry.setPlates { gantry.plates with
    dir := gantry.plates.dir.set 63 (some ⟨8, 1, 1, 0, 1⟩), blocks := gantry.plates.blocks.set 0 (.plate 63) }

theorem witness_plate_commands :
    Admitted fromTwo withPlate ∧ plateOf withPlate.plates 63 ≠ none ∧ plateOf withPlate.plates 62 = none ∧
      63 < (64 : Byte).toNat ∧ Delivered .u (cellOf 12 2 10 smallPart) withPlate ∧ withPlate.phase = .active ∧
      withPlate.profile 1 = .sign ∧ withPlate.centreHeard 2 = true ∧
      unheard.centreHeard 2 = false := by
  refine ⟨admitted_of _ ?_, ?_, ?_, ?_, delivered_unicast _ _ _ ?_, ?_⟩ <;> decide +kernel

theorem witness_page_set :
    let q : PageParams := ⟨7, true, true, 15, 1, [layer 4 0 0 0 0 0 0]⟩
    Admitted fromTwo gantry ∧ fromTwo.addressing = .unicast ∧ gantry.profile 1 = .sign ∧ q.records.length = q.n.toNat ∧
      q.page.toNat ≤ 7 ∧ q.first.toNat + q.n.toNat ≤ 16 ∧ ¬(15 + 2 ≤ 16) ∧
      (∀ r ∈ q.records, r.modes.extractLsb' 6 2 ≠ 3 ∧ r.modes.extractLsb' 4 2 ≠ 3 ∧ r.modes.extractLsb' 2 2 ≠ 3) := by
  refine ⟨admitted_gantry, ?_⟩
  decide +kernel

/-- Pixel (2, 0) of a plate at (1, 0): inside, painted; depth 1 and depth 3. -/
theorem witness_pixels :
    (1 : Byte).toNat ≤ 2 ∧ 2 < (1 : Byte).toNat + 2 ∧ (⟨2, 1, 3, 0, 1⟩ : Plate).depth = 3 ∧
      (⟨8, 1, 1, 1, 1⟩ : Plate).depth = 1 ∧ (dark 8 2)[0]? = some (List.replicate 8 0) ∧
      (List.replicate 8 (0 : BitVec 3))[2]? = some 0 := by decide +kernel

/-- A last layer with an absent plate, at each boundary test. -/
theorem witness_layer_apply :
    let r := layer 70 0 0 0 0xA7 0 0
    let c : Compose := ⟨0, [r], 0, 0, dark 1 1, dark 1 1, 1, 1⟩
    composing.signs[(1 : Port)].compose = some c ∧ c.layers[c.next]? = some r ∧ ¬r.plate.toNat ≤ 63 ∧
      composing.phase ≠ .mute ∧ composing.signs[(1 : Port)].slot = none ∧
      composing.signs[(1 : Port)].geometry = some (c.width, c.height) ∧ c.next + 1 = c.layers.length ∧
      composing.ports[(1 : Port)].link = .up ∧ composing.signs[(1 : Port)].dark = false ∧
      c.page = composing.signs[(1 : Port)].target ∧ composing.signs[(1 : Port)].transfer = none ∧
      composing.ports[(1 : Port)].sending ≠ none ∧ composing.ports[(1 : Port)].queue.length < 128 ∧
      composing.signs[(1 : Port)].pages[0] ≠ [] := by decide +kernel

theorem witness_sign_answers :
    let s := transferring (.ready .a) true
    s.profile 1 = .sign ∧ s.rx[(1 : Port)] = none ∧ s.ports[(1 : Port)].link = .up ∧ s.ports[(1 : Port)].sending ≠ none ∧
      (s.signs[(1 : Port)].transfer.map (fun x => x.await)) = some (.ready .a) ∧ s.ports[(1 : Port)].queue.length + 2 ≤ 128 ∧
      ((transferring (.rows .a) true).signs[(1 : Port)].transfer.map (fun x => x.await)) = some (.rows .a) ∧
      ((transferring (.shown .a) true).signs[(1 : Port)].transfer.map (fun x => x.result.flashing)) = some true ∧
      ((transferring (.rows .b) true).signs[(1 : Port)].transfer.map (fun x => x.await)) = some (.rows .b) := by
  decide +kernel

theorem witness_missed_answers :
    let s := transferring (.ready .a) true
    let late := withSign { s.signs[(1 : Port)] with missed := 2 } s
    s.profile 1 = .sign ∧ s.ports[(1 : Port)].link = .up ∧ s.ports[(1 : Port)].sending ≠ none ∧
      s.signs[(1 : Port)].answerTimer = some 500000000 ∧ s.signs[(1 : Port)].missed < 2 ∧
      2 ≤ late.signs[(1 : Port)].missed ∧ s.signs[(1 : Port)].transfer ≠ none := by decide +kernel

/-- A transfer of page 0 whose picture A is awaited: agreeing and differing checks, at stage 0 and 2. -/
theorem witness_verification :
    let s := transferring (.shown .a) false
    let third := withSign { s.signs[(1 : Port)] with stage := 2 } s
    s.profile 1 = .sign ∧ s.rx[(1 : Port)] = none ∧ s.ports[(1 : Port)].link = .up ∧ s.ports[(1 : Port)].sending ≠ none ∧
      s.ports[(1 : Port)].queue.length < 128 ∧
      (s.signs[(1 : Port)].transfer.map (fun x => (x.await, x.result.flashing, x.result.checksA, x.result.page)))
        = some (.shown .a, false, [0, 0], 0) ∧
      s.signs[(1 : Port)].stage = 0 ∧ third.signs[(1 : Port)].stage = 2 ∧ s.signs[(1 : Port)].pendingResult = none := by
  decide +kernel

/-- An order just under half the range behind the count, and one that reaches it with the next claim. -/
theorem witness_selection :
    (∀ c ∈ [restClaim, ⟨.centre, 3, 7, 32767⟩], (c.order - (0 : BitVec 16)).toNat < 32768) ∧
      Admitted fromTwo composing ∧ composing.profile 1 = .sign ∧ (7 : Byte).toNat ≤ 7 ∧ ¬(8 : Byte).toNat ≤ 7 ∧
      (∀ c ∈ composing.signs[(1 : Port)].claims, composing.signs[(1 : Port)].claimCount + 1 - c.order ≠ 32768) ∧
      ((32767 : BitVec 16) + 1 - restClaim.order = 32768) ∧ composing.ports[(1 : Port)].link = .up ∧
      composing.signs[(1 : Port)].compose ≠ none ∧ composing.signs[(1 : Port)].geometry = some (1, 1) ∧
      composing.signs[(1 : Port)].pages[selectedPage composing.signs[(1 : Port)]] ≠ [] := by
  refine ⟨?_, admitted_of _ ?_, ?_⟩ <;> decide +kernel

/-- Entry 15 with page 7, priority 7 and mode 1, the last of each range, and the values beyond. -/
theorem witness_responses :
    let lingering := gantry.setResponses (gantry.responses.set 3 { resetResponse with
      enable := true, claim := .lingering, timer := some 9, value := false })
    Admitted fromTwo gantry ∧ latchEntry.index.toNat = 15 ∧ latchEntry.page.toNat ≤ 7 ∧ 1 ≤ latchEntry.priority.toNat ∧
      latchEntry.priority.toNat ≤ 7 ∧ latchEntry.mode.toNat ≤ 1 ∧ readCondition latchEntry = some .noCentre ∧
      readCondition { latchEntry with kind := 4 } = none ∧ Admitted fromTwo lingering ∧
      lingering.responses[(3 : Fin 16)].timer = some 9 ∧ lingering.responses[(3 : Fin 16)].claim = .lingering := by
  refine ⟨admitted_gantry, ?_, ?_, ?_, ?_, ?_, ?_, ?_, admitted_of _ ?_, ?_, ?_⟩ <;> decide +kernel

/-- An enabled entry on NO-CENTRE whose value stands at true while a centre is heard. -/
theorem witness_response_condition :
    let e : Response := { resetResponse with enable := true, claim := .active, linger := 5 }
    let s := gantry.setResponses (gantry.responses.set 3 e)
    s.responses[(3 : Fin 16)] = e ∧ conditionValue s e.condition = false ∧ e.value = true ∧ e.linger ≠ 0 := by
  decide +kernel

def awaiting : State := gantry.setWeather { gantry.weather with reply := some 2000000000 }

theorem witness_polls :
    gantry.portOf .weather = some 2 ∧ gantry.phase = .active ∧ gantry.weather.pollTimer = some 10000000000 ∧
      gantry.ports[(2 : Port)].link = .up ∧ gantry.ports[(2 : Port)].sending ≠ none ∧
      gantry.ports[(2 : Port)].queue.length < 128 ∧ gantry.weather.reply = none ∧
      awaiting.weather.reply = some 2000000000 ∧ awaiting.selectedCentre = some 2 ∧ awaiting.tollCentre = none ∧
      (awaiting.insertQueue .b).length < 31 ∧ 5 ≤ awaiting.weather.interval ∧ awaiting.rx[(2 : Port)] = none ∧
      (withPort 2 (resetPort 0) gantry).ports[(2 : Port)].link ≠ .up := by decide +kernel

/-- A missed poll at a station that hears a toll centre and no centre. -/
def tollOnly : State :=
  awaiting.setStation { awaiting.station with
    heard := unheard.station.heard.set 3 { absentEntry with present := true, tollReceive := true } }

/-- R169: when no centre is selected, no report is sent. -/
theorem test_no_report_without_a_centre :
    (after tollOnly .replyTimerExpires).tx.d.insert.b = [] ∧
      ((after awaiting .replyTimerExpires).tx.d.insert.b.map contents).length = 1 := by decide +kernel

theorem witness_no_centre :
    tollOnly.portOf .weather = some 2 ∧ tollOnly.phase = .active ∧ tollOnly.weather.reply = some 2000000000 ∧
      tollOnly.selectedCentre = none ∧ tollOnly.tollCentre = some 3 ∧ tollOnly.ports[(2 : Port)].link = .up ∧
      tollOnly.rx[(2 : Port)] = none := by decide +kernel

/-- Three visibilities below the fog thresholds and three light samples: the levels change and the light is not stale. -/
theorem witness_evaluation :
    let q : Fin 7 → Quantity := fun i => if i = 3 ∨ i = 6 then ⟨List.replicate 3 ⟨10, 0⟩, some 0, some 10⟩ else ⟨[], none, none⟩
    let w := { awaiting.weather with quantities := Vector.ofFn q }
    let j := judge 0 w
    j.fog = .two ∧ w.fog = .unknown ∧ j.quantities[(6 : Fin 7)].window.length = 3 ∧ awaiting.phase = .active ∧
      (awaiting.insertQueue .c).length < 32 ∧ brightnessStep 8 10 = 7 := by decide +kernel

/-- Three fresh samples, and an empty window last fed 60 s ago. -/
theorem witness_alarms :
    ¬(judge 0 (fogOf [180, 181, 181] .zero)).quantities[(3 : Fin 7)].window.length < 3 ∧
      (judge 60000000000 (fogOf [] .two)).quantities[(3 : Fin 7)].window.length < 3 ∧
      (fogOf [] .two).quantities[(3 : Fin 7)].last = some 0 ∧
      ¬((0 : Nat) + 60000000000 ≤ 59999999999) := by decide +kernel

theorem witness_weather_commands :
    let s := gantry.setWeather { gantry.weather with view := gantry.weather.view.set 30 (some ⟨.one, .zero, .two, 7⟩) }
    Admitted fromTwo gantry ∧ gantry.profile 2 = .weather ∧ gantry.phase = .active ∧
      gantry.weather.alarmTimer = some 10000000000 ∧ (gantry.insertQueue .c).length < 32 ∧
      s.viewOf 30 = some ⟨.one, .zero, .two, 7⟩ ∧ Copied .u (cellOf 14 11 255 [3, 0, 2]) gantry ∧
      (padded [3, 0, 2]).take 3 = [levelByte .unknown, levelByte .zero, levelByte .two] ∧ gantry.viewOf 11 = none ∧
      3 < (byteAt (padded [4, 0, 2]) 0).toNat := by
  refine ⟨admitted_gantry, ?_, ?_, ?_, ?_, ?_, copied_broadcast _ _ _ ?_, ?_⟩ <;> decide +kernel

/-- A sign of 192 × 64 is the largest, 8 × 8 the smallest; 193 and 7 lie outside. -/
theorem witness_links :
    let s := withPort 1 (resetPort 0) gantry
    s.profile 1 ≠ .none ∧ s.rx[(1 : Port)] = none ∧ s.ports[(1 : Port)].link = .down ∧
      s.ports[(1 : Port)].sending = none ∧ profileByte .sign = 2 ∧ (192 : Byte).toNat ≤ 192 ∧ (64 : Byte).toNat ≤ 64 ∧ ¬(193 : Byte).toNat ≤ 192 ∧
      gantry.ports[(1 : Port)].link = .up ∧ gantry.ports[(1 : Port)].silence = some 1000000000 ∧
      (withPort 1 { resetPort 0 with link := .mismatch, silence := some 9 } gantry).ports[(1 : Port)].silence = some 9 ∧
      (node #v[0, 0, 0, 0]).profile 1 = .none := by decide +kernel

theorem witness_frames :
    let s := withPort 0 { office.ports[(0 : Port)] with sending := some ⟨⟨81, []⟩, true⟩ } office
    gantry.profile 1 ≠ .none ∧ gantry.ports[(1 : Port)].link ≠ .pass ∧ readFrame ⟨255, []⟩ = none ∧
      gantry.rx[(1 : Port)] = none ∧ readFrame ⟨2, []⟩ = some .alive ∧ rxProfile .alive = none ∧
      (gantry.setRx (gantry.rx.set 1 (some ⟨[0x7E, 2], 9⟩))).rx[(1 : Port)] = some ⟨[0x7E, 2], 9⟩ ∧
      frameOf (.alive 1) = some (1, .alive) ∧
      gantry.ports[(1 : Port)].sending = some ⟨⟨2, []⟩, false⟩ ∧ gantry.ports[(1 : Port)].queue = [] ∧
      office.profile 0 = .centre ∧ office.ports[(0 : Port)].link = .up ∧
      (s.setCentre ⟨[], false, [⟨81, [1]⟩]⟩).centre.delivery = [⟨81, [1]⟩] ∧ s.portOf .centre = some 0 ∧
      s.ports[(0 : Port)].sending = some ⟨⟨81, []⟩, true⟩ := by decide +kernel

/-- A HELLO copied and a VOICE cell delivered at a centre station; a delivery queue full of TOLL-RECORDs but one. -/
theorem witness_delivery_queue :
    let full := office.setCentre { office.centre with
      delivery := List.replicate 127 ⟨81, []⟩ ++ [⟨80, []⟩] }
    Copied .u (cellOf 5 11 255 []) office ∧ Delivered .u (cellOf 1 2 10 []) office ∧ office.portOf .centre = some 0 ∧
      office.ports[(0 : Port)].sending ≠ none ∧ classOf (cellOf 5 11 255 []).kind = .c ∧
      128 ≤ full.centre.delivery.length ∧ (∀ g ∈ List.replicate 127 (⟨81, []⟩ : Frame), g.type = 81) := by
  refine ⟨copied_broadcast _ _ _ ?_, delivered_unicast _ _ _ ?_, ?_⟩ <;> decide +kernel

/-- The WEATHER port in PASS toward station 2, with one byte gathered. -/
def passing : State :=
  withPort 2 { resetPort 0 with
    link := .pass, opening := some 2, idleTimer := some 9, gather := [7], gatherTimer := some 8, lineLoss := some 6 } gantry

theorem witness_pass_mode :
    gantry.profile 2 ∈ [Profile.sign, .weather, .toll] ∧ Admitted fromTwo gantry ∧ Admitted fromTwo passing ∧
      (3 : Byte).toNat ≤ 3 ∧ ¬(4 : Byte).toNat ≤ 3 ∧ gantry.ports[(2 : Port)].link ≠ .pass ∧
      passing.ports[(2 : Port)].link = .pass ∧ passing.ports[(2 : Port)].idleTimer = some 9 ∧
      passing.ports[(2 : Port)].lineLoss = some 6 ∧ gantry.ports[(2 : Port)].lineLoss = none := by
  refine ⟨?_, admitted_gantry, admitted_of _ ?_, ?_⟩ <;> decide +kernel

theorem witness_pass_bytes :
    let full := withPort 2 { passing.ports[(2 : Port)] with gather := List.replicate 47 7 } passing
    passing.profile 2 ∈ [Profile.sign, .weather, .toll] ∧ passing.ports[(2 : Port)].link = .pass ∧
      passing.ports[(2 : Port)].opening = some 2 ∧ passing.ports[(2 : Port)].gather.length < 47 ∧ full.ports[(2 : Port)].gather.length = 47 ∧
      passing.ports[(2 : Port)].gatherTimer = some 8 ∧ passing.phase = .active ∧ passing.isCentre = false ∧
      Delivered .u (cellOf 15 2 10 [2, 48]) passing ∧ (byteAt (padded [2, 48]) 0).toNat = 2 ∧
      (byteAt (padded [2, 48]) 1).toNat ≤ 48 ∧ 3 < (4 : Byte).toNat := by
  refine ⟨?_, ?_, ?_, ?_, ?_, ?_, ?_, ?_, delivered_unicast _ _ _ ?_, ?_⟩ <;> decide +kernel

theorem witness_intake :
    let s := office.setCentre { office.centre with intake := List.replicate 32 (cellOf 7 0 30 []), paused := true }
    office.portOf .centre = some 0 ∧ office.ports[(0 : Port)].link = .up ∧ office.ports[(0 : Port)].sending ≠ none ∧
      office.ports[(0 : Port)].queue.length < 128 ∧ office.phase = .active ∧ office.rx[(0 : Port)] = none ∧
      ([7, 0, 30, 0] ++ List.replicate 56 (0 : Byte)).length = 60 ∧ office.centre.intake.length < 63 ∧
      s.centre.intake = cellOf 7 0 30 [] :: List.replicate 31 (cellOf 7 0 30 []) ∧
      (s.insertQueue (classOf 7)).length < insertCapacity (classOf 7) ∧ s.own ≠ some 30 ∧ s.centre.paused = true := by
  refine ⟨?_, ?_, ?_, ?_, ?_, ?_, ?_, ?_, rfl, ?_⟩ <;> decide +kernel

/-- A station that is no centre with one selected centre and with another toll centre, one that hears none, and a centre
station whose port is busy, idle, or faces a full queue of TOLL-RECORDs. -/
theorem witness_status :
    let two := gantry.setStation { gantry.station with heard := gantry.station.heard.set 3 (centreEntry true) }
    let idle := withPort 0 { resetPort 0 with link := .up } office
    let full := office.setCentre { office.centre with delivery := List.replicate 128 ⟨81, []⟩ }
    gantry.phase = .active ∧ gantry.station.statusAt = some 5000000000 ∧ gantry.isCentre = false ∧
      gantry.selectedCentre = some 2 ∧ gantry.tollCentre = none ∧ unheard.selectedCentre = none ∧
      two.selectedCentre = some 2 ∧ two.tollCentre = some 3 ∧ office.portOf .centre = some 0 ∧
      office.ports[(0 : Port)].sending ≠ none ∧ office.centre.delivery.length ≤ 125 ∧
      office.station.statusAt = some 5000000000 ∧ office.phase = .active ∧ idle.ports[(0 : Port)].sending = none ∧
      idle.ports[(0 : Port)].link = .up ∧ idle.ports[(0 : Port)].queue = [] ∧ idle.centre.delivery = [] ∧
      128 ≤ full.centre.delivery.length ∧ ∀ f ∈ full.centre.delivery, f.type = 81 := by decide +kernel

end Sys2Proof.Tests
end

section
/-! PROOFS. Obligation O10: the fold state of the two line states (R30), and the transit cells that its changes move and discard
(R31 to R34, R40). Everything the moves read or write is a `TransitView` of the state, and `FoldMoved` says what a change
of fold does to it. Each line command is a change of one line unit (`changeLine`) on a state with the same view, or leaves
the view as it is. -/

namespace Sys2Proof.Machine

/-! ### The part of the state that the fold moves read and write -/

/-- The fold state, the transit queues of the two transmitters and the flushed count. -/
structure TransitView where
  fold : Fold
  u : Queues
  d : Queues
  flushed : Count

/-- What the fold moves read and write in a state. -/
def State.transits (s : State) : TransitView := ⟨s.fold, s.tx.u.transit, s.tx.d.transit, s.ring.flushed⟩

/-! ### Operations that leave the view as it is -/

@[simp] theorem reach_transits (t : Time) (s : State) : (reach t s).transits = s.transits := rfl

@[simp] theorem setToll_transits (u : TollUnit) (s : State) : (s.setToll u).transits = s.transits := rfl

theorem modRing_transits {f : RingCounters → RingCounters} (s : State) (h : (f s.ring).flushed = s.ring.flushed) :
    (modRing f s).transits = s.transits := by
  simp [State.transits, modRing, h]

/-- A change of one line unit touches no queue; what it can change of the view is the fold state. -/
theorem modLine_transits (l : Line) (f : LineUnit → LineUnit) (s : State) :
    (modLine l f s).transits = { s.transits with fold := (modLine l f s).fold } := rfl

theorem modLine_fold {l : Line} {f : LineUnit → LineUnit} (s : State)
    (h : (f (s.lines.get l)).state = (s.lines.get l).state) : (modLine l f s).fold = s.fold := by
  cases l with
  | u => exact congrArg (foldOf · s.lines.d.state) h
  | d => exact congrArg (foldOf s.lines.u.state) h

/-- A change of one line unit that keeps the line state keeps the view. -/
theorem modLine_transits_of_state {l : Line} {f : LineUnit → LineUnit} (s : State)
    (h : (f (s.lines.get l)).state = (s.lines.get l).state) : (modLine l f s).transits = s.transits := by
  rw [modLine_transits, modLine_fold s h]; rfl

@[simp] theorem enqueueInsert_transits (l : Line) (c : Cell) (s : State) :
    (enqueueInsert l c s).transits = s.transits := by
  cases l <;> rfl

@[simp] theorem offer_transits (kind dest : Byte) (payload : List Byte) (s : State) :
    (offer kind dest payload s).1.transits = s.transits := by
  unfold offer
  split
  · exact enqueueInsert_transits ..
  · rfl

@[simp] theorem sendRecord_transits (s : State) : (sendRecord s).transits = s.transits := by
  unfold sendRecord
  split
  · exact (setToll_transits ..).trans (offer_transits ..)
  · rfl

@[simp] theorem sendRecords_transits (n : Nat) (s : State) : (sendRecords n s).transits = s.transits := by
  induction n generalizing s with
  | zero => rfl
  | succ n ih =>
    unfold sendRecords
    split
    · exact (ih _).trans (sendRecord_transits s)
    · rfl

/-- R92: the sending test fills an insert queue only. -/
@[simp] theorem testSend_transits (s : State) : (testSend s).transits = s.transits := sendRecords_transits ..

/-! ### Flushes and moves (R31 to R34, R40) -/

@[simp] theorem bumpBy_toNat (c : Count) (n : Nat) : (bumpBy c n).toNat = min (c.toNat + n) 65535 := by
  simp only [bumpBy, BitVec.toNat_ofNat]
  omega

@[simp] theorem Queues.total_none : Queues.none.total = 0 := rfl

/-- R31: class by class, the moved cells that fit stand behind those already waiting. -/
theorem mergeQueues_get (kept moved : Queues) (k : CellClass) :
    (mergeQueues kept moved).get k =
      kept.get k ++ (moved.get k).take (transitCapacity k - (kept.get k).length) := by
  cases k <;> rfl

theorem flushTransit_u_transits (s : State) :
    (flushTransit .u s).transits =
      { s.transits with u := .none, flushed := bumpBy s.ring.flushed s.tx.u.transit.total } := rfl

theorem flushTransit_both_transits (s : State) :
    (flushTransit .d (flushTransit .u s)).transits =
      { s.transits with
        u := .none, d := .none
        flushed := bumpBy (bumpBy s.ring.flushed s.tx.u.transit.total) s.tx.d.transit.total } := rfl

theorem moveTransit_d_u_transits (s : State) :
    (moveTransit .d .u s).transits =
      { s.transits with
        u := mergeQueues s.tx.u.transit s.tx.d.transit, d := .none
        flushed := bumpBy s.ring.flushed (s.tx.u.transit.total + s.tx.d.transit.total -
          (mergeQueues s.tx.u.transit s.tx.d.transit).total) } := rfl

theorem moveTransit_u_d_transits (s : State) :
    (moveTransit .u .d s).transits =
      { s.transits with
        u := .none, d := mergeQueues s.tx.d.transit s.tx.u.transit
        flushed := bumpBy s.ring.flushed (s.tx.d.transit.total + s.tx.u.transit.total -
          (mergeQueues s.tx.d.transit s.tx.u.transit).total) } := rfl

/-! ### What a change of the fold state does to the view -/

/-- R31 to R34, R40: the transit queues and the flushed count after a step that takes the view `v` to `w`. -/
structure FoldMoved (v w : TransitView) : Prop where
  normal_foldD : v.fold = .normal → w.fold = .foldD → w.d = .none ∧
    ∀ k, w.u.get k = v.u.get k ++ (v.d.get k).take (transitCapacity k - (v.u.get k).length)
  normal_foldU : v.fold = .normal → w.fold = .foldU → w.u = .none ∧
    ∀ k, w.d.get k = v.d.get k ++ (v.u.get k).take (transitCapacity k - (v.d.get k).length)
  foldD_normal : v.fold = .foldD → w.fold = .normal → w.u = .none ∧ w.d = v.d
  isolated : v.fold ≠ .isolated → w.fold = .isolated → w.u = .none ∧ w.d = .none
  kept : (v.fold = .foldU ∧ w.fold = .normal) ∨ (v.fold = .isolated ∧ w.fold ≠ .isolated) ∨ w.fold = v.fold →
    w.u = v.u ∧ w.d = v.d
  flushed : w.flushed.toNat = min (v.flushed.toNat + (v.u.total + v.d.total - (w.u.total + w.d.total))) 65535

/-- A flushed count to which nothing is added is at most 65535. -/
theorem flushed_of_nothing (c : Count) (n : Nat) : c.toNat = min (c.toNat + (n - n)) 65535 := by
  omega

theorem FoldMoved.refl (v : TransitView) : FoldMoved v v where
  normal_foldD h k := by simp [h] at k
  normal_foldU h k := by simp [h] at k
  foldD_normal h k := by simp [h] at k
  isolated h k := absurd k h
  kept _ := ⟨rfl, rfl⟩
  flushed := flushed_of_nothing ..

/-- A first change that keeps the view may be left out. -/
theorem FoldMoved.of_transits {s s' t : State} (same : s'.transits = s.transits)
    (h : FoldMoved s'.transits t.transits) : FoldMoved s.transits t.transits := same ▸ h

/-- The moves of a changed fold state, on a state that still has the queues of the old one. -/
theorem foldMoves_foldMoved {s s' : State} (same : s'.transits = { s.transits with fold := s'.fold })
    (changed : s'.fold ≠ s.fold) : FoldMoved s.transits (foldMoves s.fold s'.fold s').transits := by
  have hu : s'.tx.u.transit = s.tx.u.transit := congrArg TransitView.u same
  have hd : s'.tx.d.transit = s.tx.d.transit := congrArg TransitView.d same
  have hf : s'.ring.flushed = s.ring.flushed := congrArg TransitView.flushed same
  unfold foldMoves
  split
  case isTrue after =>
    have before : Fold.isolated ≠ s.fold := after ▸ changed
    rw [flushTransit_both_transits, hu, hd, hf]
    constructor
    case flushed => simp [State.transits]; omega
    all_goals simp [State.transits, after, before]
  case isFalse notIsolated =>
    split
    case isTrue h =>
      obtain ⟨before, after⟩ := h
      rw [moveTransit_d_u_transits, hu, hd, hf]
      constructor
      all_goals simp [State.transits, before, after, mergeQueues_get]
    case isFalse notFoldD =>
      split
      case isTrue h =>
        obtain ⟨before, after⟩ := h
        rw [moveTransit_u_d_transits, hu, hd, hf, Nat.add_comm s.tx.d.transit.total]
        constructor
        all_goals simp [State.transits, before, after, mergeQueues_get]
      case isFalse notFoldU =>
        split
        case isTrue h =>
          obtain ⟨before, after⟩ := h
          rw [flushTransit_u_transits, same, hu, hf]
          constructor
          all_goals simp [State.transits, before, after]
        case isFalse notNormal =>
          rw [same]
          exact {
            normal_foldD := fun before after => absurd ⟨before, after⟩ notFoldD
            normal_foldU := fun before after => absurd ⟨before, after⟩ notFoldU
            foldD_normal := fun before after => absurd ⟨before, after⟩ notNormal
            isolated := fun _ after => absurd after notIsolated
            kept := fun _ => ⟨rfl, rfl⟩
            flushed := flushed_of_nothing .. }

/-- R30: every change of a line unit makes the moves of the fold change that comes with it. -/
theorem changeLine_foldMoved (l : Line) (f : LineUnit → LineUnit) (s : State) :
    FoldMoved s.transits (changeLine l f s).transits := by
  have same := modLine_transits l f s
  unfold changeLine
  dsimp only
  split
  case isTrue kept =>
    rw [same, kept]
    exact .refl _
  case isFalse changed =>
    rw [testSend_transits]
    exact foldMoves_foldMoved same changed

/-! ### The line commands -/

theorem lineDown_foldMoved (l : Line) (cause : DownCause) (s : State) :
    FoldMoved s.transits (lineDown l cause s).transits := by
  unfold lineDown
  split
  · exact .refl _
  · exact changeLine_foldMoved ..

theorem silenceExpired_foldMoved (l : Line) (s : State) :
    FoldMoved s.transits (silenceExpired l s).transits := by
  unfold silenceExpired
  split
  case h_1 d _ =>
    have stopped : (modLine l (fun u => { u with silence := none }) (reach d s)).transits = s.transits :=
      modLine_transits_of_state _ rfl
    exact .of_transits stopped (lineDown_foldMoved ..)
  case h_2 => exact .refl _

theorem deafExpired_foldMoved (l : Line) (s : State) :
    FoldMoved s.transits (deafExpired l s).transits := by
  unfold deafExpired
  split
  case h_1 d _ =>
    have stopped : (modLine l (fun u => { u with deaf := none }) (reach d s)).transits = s.transits :=
      modLine_transits_of_state _ rfl
    exact .of_transits stopped (lineDown_foldMoved ..)
  case h_2 => exact .refl _

theorem provingExpired_foldMoved (l : Line) (s : State) :
    FoldMoved s.transits (provingExpired l s).transits := by
  unfold provingExpired
  split
  case h_1 d _ =>
    split
    · exact .of_transits (reach_transits d s) (changeLine_foldMoved ..)
    · exact .refl _
  case h_2 => exact .refl _

theorem badCellReported_foldMoved (l : Line) (s : State) :
    FoldMoved s.transits (badCellReported l s).transits := by
  have counted : (modLine l (fun u => { u with windowBad := u.windowBad + 1 }) s).transits = s.transits :=
    modLine_transits_of_state _ rfl
  unfold badCellReported
  dsimp only
  split
  · exact .of_transits counted (lineDown_foldMoved ..)
  · exact .of_transits counted (.refl _)

/-- R13: the count of a bad cell is no flushed count. -/
theorem badCell_foldMoved (l : Line) (s : State) : FoldMoved s.transits (badCell l s).transits := by
  unfold badCell
  exact .of_transits (modRing_transits s (by cases l <;> rfl)) (badCellReported_foldMoved ..)

/-- R30: the four fold states are the four answers to which lines are UP. -/
theorem fold_iff (s : State) :
    (s.fold = .normal ↔ s.lines.u.state = .up ∧ s.lines.d.state = .up) ∧
    (s.fold = .foldU ↔ s.lines.u.state ≠ .up ∧ s.lines.d.state = .up) ∧
    (s.fold = .foldD ↔ s.lines.u.state = .up ∧ s.lines.d.state ≠ .up) ∧
    (s.fold = .isolated ↔ s.lines.u.state ≠ .up ∧ s.lines.d.state ≠ .up) := by
  by_cases hu : s.lines.u.state = .up <;> by_cases hd : s.lines.d.state = .up <;>
    simp [State.fold, foldOf, hu, hd]

/-- The commands that can change the fold state make its moves. -/
theorem exec_foldMoved {l : Line} {s t : State} {e : Instr}
    (he : e = .silenceTimerExpires l ∨ e = .deafTimerExpires l ∨ e = .provingTimerExpires l ∨
      (∃ c, e = .cellArrives l c ∧ checkGood c = false)) (h : exec e s = .next t) :
    FoldMoved s.transits t.transits := by
  obtain rfl | rfl | rfl | ⟨c, rfl, bad⟩ := he <;> cases h
  case inl => exact silenceExpired_foldMoved l s
  case inr.inl => exact deafExpired_foldMoved l s
  case inr.inr.inl => exact provingExpired_foldMoved l s
  case inr.inr.inr =>
    simp only [cellArrivesOn, bad]
    exact badCell_foldMoved l s

/-- Settles O10: the fold state is read off the line states, and each command that can change it makes its moves. -/
theorem foldStatesAndTheirQueueMoves : Obligations.FoldStatesAndTheirQueueMoves := by
  unfold Obligations.FoldStatesAndTheirQueueMoves
  refine ⟨fold_iff, fun l s t e he h => ?_⟩
  obtain ⟨toFoldD, toFoldU, toNormal, toIsolated, kept, flushed⟩ := exec_foldMoved he h
  exact ⟨toFoldD, toFoldU, toNormal, toIsolated, kept, flushed⟩

end Sys2Proof.Machine
end

section
/-! PROOFS. Obligation O38: what a layer makes of a pixel (R132 to R138), the row checks (R139) and the flashing mark
(R140). The pixel is taken bit by bit: `combine_getLsbD` and `masked_getLsbD` give one bit of the combination and of the
plane mask, and `layerPixel_changesBits` joins them for any plate, whatever its depth; the two depths differ only in when
a plate pixel is skipped and in its source colour. -/

namespace Sys2Proof.Machine

/-! ### The fields of a layer record, bit by bit -/

theorem recPlane_getLsbD (r : LayerRec) {i : Nat} (hi : i < 3) : (recPlane r).getLsbD i = r.combine.getLsbD i := by
  simp [recPlane, hi]

theorem recCode_getLsbD (r : LayerRec) {i : Nat} (hi : i < 4) : (recCode r).getLsbD i = r.combine.getLsbD (4 + i) := by
  simp [recCode, hi]

/-! ### The plane mask and the combine code, bit by bit -/

/-- R138: a bit that the plane mask sets is the result's, any other keeps its value. -/
theorem masked_getLsbD (mask d result : BitVec 3) {i : Nat} (hi : i < 3) :
    (masked mask d result).getLsbD i = if mask.getLsbD i then result.getLsbD i else d.getLsbD i := by
  simp only [masked, BitVec.getLsbD_or, BitVec.getLsbD_and, BitVec.getLsbD_not, hi]
  cases mask.getLsbD i <;> simp

/-- R137 on the bytes of a record: the combine code is the high nibble of byte 4. -/
theorem combineBit_recCode (r : LayerRec) (d c : Bool) :
    combineBit (recCode r) d c = r.combine.getLsbD (4 + 2 * d.toNat + c.toNat) := by
  have index : (if d then 2 else 0) + (if c then 1 else 0) = 2 * d.toNat + c.toNat := by cases d <;> cases c <;> rfl
  have small : 2 * d.toNat + c.toNat < 4 := by have := d.toNat_lt; have := c.toNat_lt; omega
  rw [combineBit, index, recCode_getLsbD r small, Nat.add_assoc]

/-- Three bits, highest first, read back by their numbers. -/
theorem ofBool_append_getLsbD (b : Nat → Bool) {i : Nat} (hi : i < 3) :
    (BitVec.ofBool (b 2) ++ BitVec.ofBool (b 1) ++ BitVec.ofBool (b 0)).getLsbD i = b i := by
  rw [BitVec.getLsbD_append, BitVec.getLsbD_append]
  obtain rfl | rfl | rfl : i = 0 ∨ i = 1 ∨ i = 2 := by omega
  all_goals simp

theorem combine_getLsbD (code : BitVec 4) (d c : BitVec 3) {i : Nat} (hi : i < 3) :
    (combine code d c).getLsbD i = combineBit code (d.getLsbD i) (c.getLsbD i) :=
  ofBool_append_getLsbD (fun k => combineBit code (d.getLsbD k) (c.getLsbD k)) hi

/-! ### The plate pixel and its source colour -/

/-- R109, R134: the bit of a depth-1 plate. -/
theorem plateBit_of_depth_one (st : PlateStore) {pl : Plate} (su sv : Nat) (h : pl.depth = 1) :
    plateBit st pl su sv = (plateByte st pl (sv * ((pl.width + 7) / 8) + su / 8)).getLsbD (7 - su % 8) := by
  simp [plateBit, rowBytes, h]

/-- R109, R134: the nibble of a depth-3 plate is the high one for even columns. -/
theorem plateColour_of_depth_three (st : PlateStore) {pl : Plate} (su sv : Nat) (h : pl.depth = 3) :
    plateColour st pl su sv = (plateByte st pl (sv * ((pl.width + 1) / 2) + su / 2) >>>
      (if su % 2 = 0 then 4 else 0)).extractLsb' 0 3 := by
  simp only [plateColour, rowBytes, h, if_neg (show ¬(3 : Nat) = 1 by decide)]
  split <;> ext <;> simp

/-- R135, R136 for a depth-1 plate. -/
theorem sourceColour_of_depth_one {st : PlateStore} {r : LayerRec} {pl : Plate} {su sv : Nat} {bit : Bool}
    (h : pl.depth = 1) (hbit : plateBit st pl su sv = bit) :
    sourceColour st r pl su sv =
      if (recTransparency r = 1 ∧ bit = false) ∨ (recTransparency r = 2 ∧ bit = true) then none
      else some (if bit then recFore r else recBack r) := by
  simp [sourceColour, skipBit, h, hbit]

/-- R135, R136 for a depth-3 plate. -/
theorem sourceColour_of_depth_three {st : PlateStore} {r : LayerRec} {pl : Plate} {su sv : Nat} {colour : BitVec 3}
    (h : pl.depth = 3) (hcolour : plateColour st pl su sv = colour) :
    sourceColour st r pl su sv =
      if (recTransparency r = 1 ∧ colour = recClearColour r) ∨ (recTransparency r = 2 ∧ colour ≠ recClearColour r)
      then none else some colour := by
  simp [sourceColour, skipColour, h, hcolour]

/-! ### One bit of a pixel after a layer -/

/-- R132: the columns and the rows of a layer's region. -/
def InRegion (r : LayerRec) (pl : Plate) (fx fy : Nat) : Prop :=
  r.x.toNat ≤ fx ∧ fx < r.x.toNat + regionSize (recScale r) pl.width ∧
    r.y.toNat ≤ fy ∧ fy < r.y.toNat + regionSize (recScale r) pl.height

theorem inRegion_iff (r : LayerRec) (pl : Plate) (fx fy : Nat) : inRegion r pl fx fy = true ↔ InRegion r pl fx fy :=
  decide_eq_true_iff

/-- R133: the source colour that a layer has for the picture pixel (fx, fy) of its region. -/
def sourceAt (st : PlateStore) (r : LayerRec) (pl : Plate) (fx fy : Nat) : Option (BitVec 3) :=
  sourceColour st r pl (sourceIndex (recScale r) (fx - r.x.toNat)) (sourceIndex (recScale r) (fy - r.y.toNat))

theorem layerPixel_of_outside {st : PlateStore} {r : LayerRec} {pl : Plate} {fx fy : Nat} (d : BitVec 3)
    (h : ¬InRegion r pl fx fy) : layerPixel st r pl fx fy d = d := by
  simp [layerPixel, inRegion_iff, h]

theorem layerPixel_of_skipped {st : PlateStore} {r : LayerRec} {pl : Plate} {fx fy : Nat} (d : BitVec 3)
    (h : sourceAt st r pl fx fy = none) : layerPixel st r pl fx fy d = d := by
  unfold sourceAt at h
  simp [layerPixel, h]

theorem layerPixel_of_source {st : PlateStore} {r : LayerRec} {pl : Plate} {fx fy : Nat} (d : BitVec 3)
    {source : BitVec 3} (inside : InRegion r pl fx fy) (h : sourceAt st r pl fx fy = some source) :
    layerPixel st r pl fx fy d = masked (recPlane r) d (combine (recCode r) d source) := by
  unfold sourceAt at h
  simp [layerPixel, inRegion_iff, inside, h]

/-- The bit of the combine code that bit `i` of the old value and of the source name (R137). -/
def codeBit (r : LayerRec) (d source : BitVec 3) (i : Nat) : Bool :=
  r.combine.getLsbD (4 + 2 * (d.getLsbD i).toNat + (source.getLsbD i).toNat)

/-- R137, R138: one bit of a pixel that a layer combines with a source colour. -/
theorem masked_combine_getLsbD (r : LayerRec) (d source : BitVec 3) {i : Nat} (hi : i < 3) :
    (masked (recPlane r) d (combine (recCode r) d source)).getLsbD i =
      if r.combine.getLsbD i then codeBit r d source i else d.getLsbD i := by
  rw [masked_getLsbD _ _ _ hi, recPlane_getLsbD r hi, combine_getLsbD _ _ _ hi, combineBit_recCode, codeBit]

/-- R132, R135 to R138: what a layer makes of a pixel `d` whose plate pixel is `skipped`, or has the colour `source`. -/
def ChangesBits (r : LayerRec) (inside skipped : Prop) (source d result : BitVec 3) : Prop :=
  ∀ i, i < 3 →
    ((inside ∧ ¬skipped ∧ r.combine.getLsbD i = true) → result.getLsbD i = codeBit r d source i) ∧
    (¬(inside ∧ ¬skipped ∧ r.combine.getLsbD i = true) → result.getLsbD i = d.getLsbD i)

/-- R127: a layer changes a bit of a pixel under three conditions together, for a plate of either depth. -/
theorem layerPixel_changesBits {st : PlateStore} {r : LayerRec} {pl : Plate} {fx fy : Nat} {skipped : Prop}
    [Decidable skipped] {source : BitVec 3} (d : BitVec 3)
    (hsource : sourceAt st r pl fx fy = if skipped then none else some source) :
    ChangesBits r (InRegion r pl fx fy) skipped source d (layerPixel st r pl fx fy d) := by
  intro i hi
  by_cases inside : InRegion r pl fx fy
  case neg => simp [layerPixel_of_outside d inside, inside]
  case pos =>
    by_cases hs : skipped
    case pos => simp [layerPixel_of_skipped d (hsource.trans (if_pos hs)), hs]
    case neg =>
      rw [layerPixel_of_source d inside (hsource.trans (if_neg hs)), masked_combine_getLsbD r d source hi]
      exact ⟨fun ⟨_, _, plane⟩ => if_pos plane, fun kept => if_neg fun plane => kept ⟨inside, hs, plane⟩⟩

/-! ### A layer over a picture -/

theorem layerPicture_length (st : PlateStore) (r : LayerRec) (pl : Plate) (pic : Picture) :
    (layerPicture st r pl pic).length = pic.length := List.length_mapIdx

theorem layerPicture_getElem? (st : PlateStore) (r : LayerRec) (pl : Plate) (pic : Picture) (fy : Nat) :
    (layerPicture st r pl pic)[fy]? = pic[fy]?.map (·.mapIdx (fun fx d => layerPixel st r pl fx fy d)) :=
  List.getElem?_mapIdx

/-- R127: each row keeps its length, and each pixel of it becomes what the layer makes of it. -/
theorem layerPicture_row {st : PlateStore} {r : LayerRec} {pl : Plate} {pic : Picture} {row : List (BitVec 3)} {fy : Nat}
    (h : pic[fy]? = some row) :
    ∃ row', (layerPicture st r pl pic)[fy]? = some row' ∧ row'.length = row.length ∧
      ∀ fx d, row[fx]? = some d → row'[fx]? = some (layerPixel st r pl fx fy d) := by
  refine ⟨_, by rw [layerPicture_getElem?, h]; rfl, List.length_mapIdx, fun fx d hd => ?_⟩
  rw [List.getElem?_mapIdx, hd]
  rfl

/-! ### Row checks and the flashing mark -/

/-- R139: a further pixel adds its column number, counted from 1, times its value. -/
theorem rowCheck_concat (row : List (BitVec 3)) (p : BitVec 3) :
    rowCheck (row ++ [p]) = rowCheck row + BitVec.ofNat 16 ((row.length + 1) * p.toNat) := by
  simp [rowCheck, List.mapIdx_concat, BitVec.ofNat_add]

/-- The row check of a row of one colour. -/
theorem rowCheck_replicate (n : Nat) (p : BitVec 3) :
    rowCheck (List.replicate n p) = BitVec.ofNat 16 (n * (n + 1) / 2 * p.toNat) := by
  induction n with
  | zero => simp [rowCheck]
  | succ n ih =>
    have triangle : (n + 1) * (n + 2) / 2 = n * (n + 1) / 2 + (n + 1) := by
      rw [Nat.mul_comm (n + 1), Nat.add_mul, Nat.add_mul_div_left _ _ Nat.two_pos]
    rw [List.replicate_succ', rowCheck_concat, ih, List.length_replicate, ← BitVec.ofNat_add, ← Nat.add_mul, ← triangle]

/-- R140: two pictures have the same row checks exactly when they have them row by row. -/
theorem rowChecks_ne_iff (a b : Picture) :
    rowChecks a ≠ rowChecks b ↔ ∃ i : Nat, (a[i]?).map rowCheck ≠ (b[i]?).map rowCheck := by
  simp only [rowChecks, ne_eq, List.ext_getElem?_iff, List.getElem?_map, Classical.not_forall]

theorem resultOf_flashing_iff (c : Compose) :
    (resultOf c).flashing = true ↔ ∃ i : Nat, (c.a[i]?).map rowCheck ≠ (c.b[i]?).map rowCheck :=
  decide_eq_true_iff.trans (rowChecks_ne_iff c.a c.b)

/-- Settles O38: the bits of a pixel by `layerPixel_changesBits` for either depth, the picture's shape by
`layerPicture_row`, then the row checks and the flashing mark. -/
theorem pixelsRowChecksAndFlashing : Obligations.PixelsRowChecksAndFlashing := by
  unfold Obligations.PixelsRowChecksAndFlashing
  refine ⟨fun st r pl fx fy d pic row => ⟨fun depth => ?_, fun depth => ?_, layerPicture_length st r pl pic,
    fun hrow => ?_⟩, rfl, rowCheck_concat, rowCheck_replicate 192 7, fun c => ⟨rfl, rfl, resultOf_flashing_iff c⟩⟩
  · exact layerPixel_changesBits d (sourceColour_of_depth_one depth (plateBit_of_depth_one st _ _ depth))
  · exact layerPixel_changesBits d (sourceColour_of_depth_three depth (plateColour_of_depth_three st _ _ depth))
  · obtain ⟨row', hrow', length, pixels⟩ := layerPicture_row (st := st) (r := r) (pl := pl) hrow
    exact ⟨row', hrow', length, pixels fx d⟩

end Sys2Proof.Machine
end

section
/-! PROOFS. Obligation O47: what an evaluation makes of the three alarm levels (R164 to R167). A level whose deciding input
is stale meets `HeldThenUnknown` (`staleLevel_heldThenUnknown`); any other meets `FollowsTable`, for the enter and leave
conditions of its alarm (`judged_followsTable`). What is left for each alarm is to read its conditions off the average, the
spread, the held surface state or the gust maximum. -/

namespace Sys2Proof.Machine

/-! ### The level after (R166, R167) -/

/-- R167: a level whose deciding input, last heard at `last`, is stale. -/
def HeldThenUnknown (now : Time) (last : Option Time) (before after : Level) : Prop :=
  (∀ t, last = some t → now < t + 60000000000 → after = before) ∧
  (∀ t, last = some t → t + 60000000000 ≤ now → after = .unknown) ∧
  (last = none → after = .unknown)

/-- R166: the table of levels, for the enter conditions `e1`, `e2` and the leave conditions `l1`, `l2`. -/
def FollowsTable (before after : Level) (e1 e2 l1 l2 : Prop) : Prop :=
  (e2 → before ≠ .two → after = .two) ∧
  (e1 → ¬e2 → before = .unknown ∨ before = .zero → after = .one) ∧
  (¬e1 → ¬e2 → before = .unknown ∨ before = .zero → after = .zero) ∧
  (¬e2 → before = .one → (l1 → after = .zero) ∧ (¬l1 → after = .one)) ∧
  (before = .two → (l2 → after = .one) ∧ (¬l2 → after = .two))

theorem staleLevel_heldThenUnknown (now : Time) (last : Option Time) (l : Level) :
    HeldThenUnknown now last l (staleLevel now last l) := by
  refine ⟨?_, ?_, ?_⟩
  · rintro t rfl early
    exact if_neg (Nat.not_le.mpr early)
  · rintro t rfl late
    exact if_pos late
  · rintro rfl
    rfl

theorem judged_followsTable (before : Level) {b1 b2 c1 c2 : Bool} {e1 e2 l1 l2 : Prop} (enter1 : b1 = true ↔ e1)
    (enter2 : b2 = true ↔ e2) (leave1 : c1 = true ↔ l1) (leave2 : c2 = true ↔ l2) :
    FollowsTable before (judged (enterLevel b1 b2) c1 c2 before) e1 e2 l1 l2 := by
  rw [FollowsTable, ← enter1, ← enter2, ← leave1, ← leave2]
  cases before with
  | unknown | zero => cases b2 <;> simp +contextual [judged, enterLevel]
  | one => cases b2 <;> cases b1 <;> simp +contextual [judged, enterLevel]
  | two => simp +contextual [judged]

/-! ### Windows, averages and the gust maximum (R164, R165) -/

theorem Quantity.stale_iff (q : Quantity) : q.stale = true ↔ q.window.length < 3 := decide_eq_true_iff

theorem Quantity.stale_eq_false_iff (q : Quantity) : q.stale = false ↔ ¬q.window.length < 3 := decide_eq_false_iff_not

/-- R165 step 2: the mean of a window, rounded to the nearest integer, halves upward. -/
def Quantity.roundedMean (q : Quantity) : Int := (2 * q.sum + q.window.length) / (2 * q.window.length)

/-- A quantity that is not stale has the rounded mean for its average. -/
theorem Quantity.average_of_not_stale {q : Quantity} (fresh : ¬q.window.length < 3) : q.average = some q.roundedMean := by
  have nonempty : ¬q.window.isEmpty = true := fun empty => fresh (by simp [List.isEmpty_iff.mp empty])
  exact if_neg nonempty

theorem Quantity.maximum_eq_some {q : Quantity} {m : Int} (mem : ∃ x ∈ q.window, x.value = m)
    (bound : ∀ x ∈ q.window, x.value ≤ m) : q.maximum = some m :=
  List.max?_eq_some_iff.mpr ⟨List.mem_map.mpr mem, List.forall_mem_map.mpr bound⟩

/-- R165 step 1: the last sample time is kept when samples age out. -/
theorem ageOut_last (now : Time) (w : Weather) (i : Fin 7) : (ageOut now w).quantities[i].last = w.quantities[i].last := by
  simp [ageOut]

theorem HeldThenUnknown.of_ageOut {now : Time} {w : Weather} {before after : Level} (i : Fin 7)
    (h : HeldThenUnknown now (ageOut now w).quantities[i].last before after) :
    HeldThenUnknown now w.quantities[i].last before after := ageOut_last now w i ▸ h

/-! ### The supporting inputs of ICE (R165 step 3, R166) -/

/-- R166: a spread term is false unless air temperature and dew point are both not stale. -/
theorem spreadAtMost_iff (w : Weather) (t : Int) : spreadAtMost w t = true ↔
    ¬w.quantities[1].window.length < 3 ∧ ¬w.quantities[2].window.length < 3 ∧
      w.quantities[1].roundedMean - w.quantities[2].roundedMean ≤ t := by
  by_cases air : w.quantities[1].window.length < 3
  · simp [spreadAtMost, Weather.spread, (Quantity.stale_iff _).mpr air, air]
  by_cases dew : w.quantities[2].window.length < 3
  · simp [spreadAtMost, Weather.spread, (Quantity.stale_iff _).mpr dew, dew]
  · simp [spreadAtMost, Weather.spread, (Quantity.stale_eq_false_iff _).mpr air, (Quantity.stale_eq_false_iff _).mpr dew,
      Quantity.average_of_not_stale air, Quantity.average_of_not_stale dew, air, dew]

/-- R166: a surface-state term is false when no surface state is held. -/
theorem heldIn_iff (w : Weather) (xs : List Surface) :
    heldIn w xs = true ↔ ∃ x taken, w.held = some (x, taken) ∧ x ∈ xs := by
  unfold heldIn
  cases w.held with
  | none => simp
  | some h => cases h; simp

/-! ### The three alarms (R166) -/

/-- R166: an ICE level is entered at its surface threshold, if the spread or the held surface state is as it asks. -/
theorem enterIce_iff (w : Weather) (a level spread : Int) (xs : List Surface) :
    (decide (a ≤ level) && (spreadAtMost w spread || heldIn w xs)) = true ↔
      a ≤ level ∧ ((¬w.quantities[1].window.length < 3 ∧ ¬w.quantities[2].window.length < 3 ∧
        w.quantities[1].roundedMean - w.quantities[2].roundedMean ≤ spread) ∨
          ∃ x taken, w.held = some (x, taken) ∧ x ∈ xs) := by
  rw [Bool.and_eq_true, Bool.or_eq_true, decide_eq_true_iff, spreadAtMost_iff, heldIn_iff]

theorem judgeIce_heldThenUnknown (now : Time) {w : Weather} (stale : w.quantities[0].window.length < 3) :
    HeldThenUnknown now w.quantities[0].last w.ice (judgeIce now w) := by
  rw [judgeIce, if_pos ((Quantity.stale_iff _).mpr stale)]
  exact staleLevel_heldThenUnknown ..

theorem judgeFog_heldThenUnknown (now : Time) {w : Weather} (stale : w.quantities[3].window.length < 3) :
    HeldThenUnknown now w.quantities[3].last w.fog (judgeFog now w) := by
  rw [judgeFog, if_pos ((Quantity.stale_iff _).mpr stale)]
  exact staleLevel_heldThenUnknown ..

theorem judgeWind_heldThenUnknown (now : Time) {w : Weather} (stale : w.quantities[4].window.length < 3) :
    HeldThenUnknown now w.quantities[4].last w.wind (judgeWind now w) := by
  rw [judgeWind, if_pos ((Quantity.stale_iff _).mpr stale)]
  exact staleLevel_heldThenUnknown ..

theorem judgeIce_followsTable (now : Time) {w : Weather} (fresh : ¬w.quantities[0].window.length < 3) :
    let th := w.thresholds
    let a := w.quantities[0].roundedMean
    let spread := fun (t : Int) => ¬w.quantities[1].window.length < 3 ∧ ¬w.quantities[2].window.length < 3 ∧
      w.quantities[1].roundedMean - w.quantities[2].roundedMean ≤ t
    let lying := fun (xs : List Surface) => ∃ x taken, w.held = some (x, taken) ∧ x ∈ xs
    FollowsTable w.ice (judgeIce now w) (a ≤ th.ice1 ∧ (spread th.spread1 ∨ lying [.damp, .wet, .ice]))
      (a ≤ th.ice2 ∧ (spread th.spread2 ∨ lying [.wet, .ice])) (th.ice1 + 10 < a) (th.ice2 + 10 < a) := by
  rw [judgeIce, if_neg (fresh ∘ (Quantity.stale_iff _).mp), Quantity.average_of_not_stale fresh]
  exact judged_followsTable w.ice (enterIce_iff ..) (enterIce_iff ..) decide_eq_true_iff decide_eq_true_iff

theorem judgeFog_followsTable (now : Time) {w : Weather} (fresh : ¬w.quantities[3].window.length < 3) :
    let th := w.thresholds
    let a := w.quantities[3].roundedMean
    FollowsTable w.fog (judgeFog now w) (a < th.fog1) (a < th.fog2) (5 * th.fog1 < 4 * a) (5 * th.fog2 < 4 * a) := by
  rw [judgeFog, if_neg (fresh ∘ (Quantity.stale_iff _).mp), Quantity.average_of_not_stale fresh]
  exact judged_followsTable w.fog decide_eq_true_iff decide_eq_true_iff decide_eq_true_iff decide_eq_true_iff

theorem judgeWind_followsTable (now : Time) {w : Weather} {m : Int} (fresh : ¬w.quantities[4].window.length < 3)
    (mem : ∃ x ∈ w.quantities[4].window, x.value = m) (bound : ∀ x ∈ w.quantities[4].window, x.value ≤ m) :
    let th := w.thresholds
    FollowsTable w.wind (judgeWind now w) (th.wind1 ≤ m) (th.wind2 ≤ m) (m < th.wind1 - 30) (m < th.wind2 - 30) := by
  rw [judgeWind, if_neg (fresh ∘ (Quantity.stale_iff _).mp), Quantity.maximum_eq_some mem bound]
  exact judged_followsTable w.wind decide_eq_true_iff decide_eq_true_iff decide_eq_true_iff decide_eq_true_iff

/-- Settles O47: the levels of `judge` are those of the weather unit after ageing, so each is held or follows the table of
its alarm; ageing keeps the last sample times that the hold reads. -/
theorem alarmLevelsAreJudgedAsChapter9Says : Obligations.AlarmLevelsAreJudgedAsChapter9Says := by
  unfold Obligations.AlarmLevelsAreJudgedAsChapter9Says
  rintro now w _ rfl
  refine ⟨fun stale => ?_, fun stale => ?_, fun stale => ?_, fun fresh => ?_, fun fresh => ?_,
    fun fresh m mem bound => ?_⟩
  · exact HeldThenUnknown.of_ageOut 0 (judgeIce_heldThenUnknown now stale)
  · exact HeldThenUnknown.of_ageOut 3 (judgeFog_heldThenUnknown now stale)
  · exact HeldThenUnknown.of_ageOut 4 (judgeWind_heldThenUnknown now stale)
  · exact judgeIce_followsTable (w := ageOut now w) now fresh
  · exact judgeFog_followsTable (w := ageOut now w) now fresh
  · exact judgeWind_followsTable (w := ageOut now w) now fresh mem bound

end Sys2Proof.Machine
end

section
/-! PROOFS. Obligation O56, the plate store's part (R107 to R116): every operation of the store keeps each block FREE or with
one owner. Each operation's block map is read off block by block (`giveBlocks_get`, `giveRun_get`). -/

namespace Sys2Proof.Machine

/-! ### The block map, block by block -/

@[simp] theorem giveBlocks_get (b : Vector Owner 256) (old new : Owner) (i : Fin 256) :
    (giveBlocks b old new)[i] = if b[i] = old then new else b[i] := by
  simp [giveBlocks]

@[simp] theorem giveRun_get (b : Vector Owner 256) (first count : Nat) (new : Owner) (i : Fin 256) :
    (giveRun b first count new)[i] = if first ≤ i.val ∧ i.val < first + count then new else b[i] := by
  simp [giveRun]

/-- The run that R112 takes lies in the store and is FREE. -/
theorem findRun_free {b : Vector Owner 256} {count first : Nat} (h : findRun b count = some first) :
    first + count ≤ 256 ∧ ∀ i : Fin 256, first ≤ i.val → i.val < first + count → b[i] = .free := by
  have hmem := List.mem_of_find?_eq_some h
  have hall := List.find?_some h
  simp only [List.mem_range] at hmem
  refine ⟨by omega, fun i lo hi => ?_⟩
  simp only [List.all_eq_true, List.mem_range, isFree, decide_eq_true_eq] at hall
  have := hall (i.val - first) (by omega)
  rw [show first + (i.val - first) = i.val by omega] at this
  simpa using this

/-! ### The directory and the slots after a write -/

theorem plateOf_fin (st : PlateStore) (n : Fin 64) : plateOf st n.val = st.dir[n] := by
  simp [plateOf]

theorem plateOf_lt {st : PlateStore} {n : Nat} (h : plateOf st n ≠ none) : n < 64 :=
  Decidable.byContradiction fun hn => h (by simp [plateOf, Vector.getElem?_eq_none (Nat.le_of_not_lt hn)])

theorem slots_set_self (st : PlateStore) (k : Fin 2) (x : Option Slot) : (st.slots.set k x)[k] = x :=
  vector_get_set ..

theorem slots_set_other (st : PlateStore) {k j : Fin 2} (x : Option Slot) (h : j ≠ k) :
    (st.slots.set k x)[j] = st.slots[j] := vector_get_set_ne _ _ _ _ h

/-- A slot that is open after slot `k` has closed is another one, and was open before. -/
theorem slots_close {st : PlateStore} {k j : Fin 2} {sl : Slot} (e : (st.slots.set k none)[j] = some sl) :
    j ≠ k ∧ st.slots[j] = some sl := by
  by_cases hj : j = k
  · subst hj
    exact absurd ((slots_set_self st j none).symm.trans e) (by simp)
  · exact ⟨hj, (slots_set_other st none hj).symm.trans e⟩

/-- The geometry and the run of an owner are in order. -/
def RunGood (width height depth first count : Nat) : Prop :=
  1 ≤ width ∧ width ≤ 255 ∧ 1 ≤ height ∧ height ≤ 64 ∧ (depth = 1 ∨ depth = 3) ∧
    count = blocksNeeded (plateSize width height depth) ∧ first + count ≤ 256

/-- The block lies in the run of `count` blocks from `first` on. -/
def InRun (first count : Nat) (i : Fin 256) : Prop := first ≤ i.val ∧ i.val < first + count

theorem StoreInOrder.runOfPlate {st : PlateStore} (h : StoreInOrder st) {n : Fin 64} {pl : Plate}
    (e : st.dir[n] = some pl) : RunGood pl.width pl.height pl.depth pl.first pl.count ∧
      ∀ i, st.blocks[i] = .plate n.val ↔ InRun pl.first pl.count i := by
  obtain ⟨w1, w2, h1, h2, d, c, f, run⟩ := h.plate n pl e
  exact ⟨⟨w1, w2, h1, h2, d, c, f⟩, run⟩

theorem StoreInOrder.runOfSlot {st : PlateStore} (h : StoreInOrder st) {k : Fin 2} {sl : Slot}
    (e : st.slots[k] = some sl) : sl.plate ≤ 63 ∧ RunGood sl.width sl.height sl.depth sl.first sl.count ∧
      ∀ i, st.blocks[i] = .slot k ↔ InRun sl.first sl.count i := by
  obtain ⟨n, w1, w2, h1, h2, d, c, f, run⟩ := h.slot k sl e
  exact ⟨n, ⟨w1, w2, h1, h2, d, c, f⟩, run⟩

/-- `StoreInOrder` from the parts as `runOfPlate` and `runOfSlot` give them, the slots being apart in either order. -/
theorem StoreInOrder.of {st : PlateStore} (memory : memWf st.mem = true)
    (plate : ∀ (n : Fin 64) pl, st.dir[n] = some pl → RunGood pl.width pl.height pl.depth pl.first pl.count ∧
      ∀ i, st.blocks[i] = .plate n.val ↔ InRun pl.first pl.count i)
    (slot : ∀ (k : Fin 2) sl, st.slots[k] = some sl → sl.plate ≤ 63 ∧
      RunGood sl.width sl.height sl.depth sl.first sl.count ∧ ∀ i, st.blocks[i] = .slot k ↔ InRun sl.first sl.count i)
    (owned : ∀ (i : Fin 256) n, st.blocks[i] = .plate n → plateOf st n ≠ none)
    (loading : ∀ (i : Fin 256) (k : Fin 2), st.blocks[i] = .slot k → st.slots[k] ≠ none)
    (apart : ∀ (j k : Fin 2) (a b : Slot), j ≠ k → st.slots[j] = some a → st.slots[k] = some b → a.plate ≠ b.plate) :
    StoreInOrder st where
  memory := memory
  plate n pl e := by
    obtain ⟨⟨w1, w2, h1, h2, d, c, f⟩, run⟩ := plate n pl e
    exact ⟨w1, w2, h1, h2, d, c, f, run⟩
  slot k sl e := by
    obtain ⟨n, ⟨w1, w2, h1, h2, d, c, f⟩, run⟩ := slot k sl e
    exact ⟨n, w1, w2, h1, h2, d, c, f, run⟩
  owned := owned
  loading := loading
  apart a b ha hb := apart 0 1 a b (by decide) ha hb

theorem StoreInOrder.apart' {st : PlateStore} (h : StoreInOrder st) {j k : Fin 2} {a b : Slot} (ne : j ≠ k)
    (ha : st.slots[j] = some a) (hb : st.slots[k] = some b) : a.plate ≠ b.plate := by
  match j, k, ne with
  | 0, 0, ne => exact absurd rfl ne
  | 0, 1, _ => exact h.apart a b ha hb
  | 1, 0, _ => exact (h.apart b a hb ha).symm
  | 1, 1, ne => exact absurd rfl ne

/-- The counters of the store are not part of its order. -/
theorem StoreInOrder.congr {st st' : PlateStore} (h : StoreInOrder st) (mem : st'.mem = st.mem)
    (blocks : st'.blocks = st.blocks) (dir : st'.dir = st.dir) (slots : st'.slots = st.slots) : StoreInOrder st' := by
  obtain ⟨m, p, s, o, l, a⟩ := h
  cases st'; cases st
  cases mem; cases blocks; cases dir; cases slots
  exact ⟨m, p, s, o, l, a⟩

/-! ### The operations -/

/-- R111, R114: an abandoned slot leaves its blocks FREE. -/
theorem abandonSlot_inOrder {st : PlateStore} (k : Fin 2) (h : StoreInOrder st) : StoreInOrder (abandonSlot k st) := by
  have block (i : Fin 256) : (abandonSlot k st).blocks[i] = if st.blocks[i] = .slot k then .free else st.blocks[i] :=
    giveBlocks_get ..
  refine .of h.memory (fun n pl e => ?_) (fun j sl e => ?_) (fun i n e => ?_) (fun i j e => ?_) (fun j j' a b ne ha hb => ?_)
  · obtain ⟨good, run⟩ := h.runOfPlate e
    refine ⟨good, fun i => ?_⟩
    rw [block, ← run]
    split <;> simp_all
  · obtain ⟨hj, e⟩ := slots_close e
    obtain ⟨n, good, run⟩ := h.runOfSlot e
    refine ⟨n, good, fun i => ?_⟩
    rw [block, ← run]
    split <;> simp_all [Ne.symm hj]
  · rw [block] at e
    split at e
    · cases e
    · exact h.owned i n e
  · rw [block] at e
    split at e
    · cases e
    · next hne =>
      have hj : j ≠ k := fun hj => hne (hj ▸ e)
      exact fun none => h.loading i j e ((slots_set_other st _ hj).symm.trans none)
  · exact h.apart' ne (slots_close ha).2 (slots_close hb).2

/-- R115: the slot's run becomes the plate's, and the blocks of the plate it replaces FREE. -/
theorem commitSlot_inOrder {st : PlateStore} (k : Fin 2) (h : StoreInOrder st) : StoreInOrder (commitSlot k st).1 := by
  unfold commitSlot
  split
  · exact h
  next sl e =>
  obtain ⟨hn, good, run⟩ := h.runOfSlot e
  have block (i : Fin 256) : (giveBlocks (giveBlocks st.blocks (.plate sl.plate) .free) (.slot k) (.plate sl.plate))[i] =
      if st.blocks[i] = .slot k then .plate sl.plate else if st.blocks[i] = .plate sl.plate then .free
        else st.blocks[i] := by
    simp only [giveBlocks_get]
    split <;> simp_all
  have dir (n : Fin 64) (x : Option Plate) :
      (st.dir.setIfInBounds sl.plate x)[n] = if sl.plate = n.val then x else st.dir[n] := by
    simp [Vector.getElem_setIfInBounds]
  refine .of h.memory (fun n pl e' => ?_) (fun j x e' => ?_) (fun i n e' => ?_) (fun i j e' => ?_)
    (fun j j' a b ne ha hb => h.apart' ne (slots_close ha).2 (slots_close hb).2)
  · have e' := (dir n _).symm.trans e'
    split at e'
    · next hsl =>
      cases e'
      refine ⟨good, fun i => ?_⟩
      dsimp only
      rw [block, ← run, ← hsl]
      split
      · simp_all
      · split <;> simp_all
    · next hsl =>
      obtain ⟨good', run'⟩ := h.runOfPlate e'
      refine ⟨good', fun i => ?_⟩
      dsimp only
      rw [block, ← run']
      split
      · next slot => rw [slot]; simp [hsl]
      · split <;> simp_all
  · obtain ⟨hj, e'⟩ := slots_close e'
    obtain ⟨n, good', run'⟩ := h.runOfSlot e'
    refine ⟨n, good', fun i => ?_⟩
    dsimp only
    rw [block, ← run']
    split
    · next slot => rw [slot]; simp [Ne.symm hj]
    · split <;> simp_all
  · dsimp only at e'
    rw [block] at e'
    split at e'
    · cases e'
      have := (dir ⟨sl.plate, by omega⟩ (some ⟨sl.width, sl.height, sl.depth, sl.first, sl.count⟩))
      rw [if_pos rfl] at this
      rw [plateOf_fin _ ⟨sl.plate, by omega⟩]
      exact fun none => by cases this.symm.trans none
    · split at e'
      · cases e'
      · next hne =>
        have old := h.owned i n e'
        have hlt := plateOf_lt old
        have hsl : sl.plate ≠ n := fun hsl => hne (hsl ▸ e')
        rw [plateOf_fin _ ⟨n, hlt⟩] at old ⊢
        have := dir ⟨n, hlt⟩ (some ⟨sl.width, sl.height, sl.depth, sl.first, sl.count⟩)
        rw [if_neg hsl] at this
        exact fun none => old (this.symm.trans none)
  · dsimp only at e'
    rw [block] at e'
    split at e'
    · cases e'
    · split at e'
      · cases e'
      · next hne _ =>
        have hj : j ≠ k := fun hj => hne (hj ▸ e')
        exact fun none => h.loading i j e' ((slots_set_other st _ hj).symm.trans none)

/-- R116: the blocks of a dropped plate become FREE. -/
theorem dropPlate_inOrder {st : PlateStore} (n : Nat) (h : StoreInOrder st) : StoreInOrder (dropPlate n st).1 := by
  unfold dropPlate
  split
  · exact h
  have dir (m : Fin 64) : (st.dir.setIfInBounds n none)[m] = if n = m.val then none else st.dir[m] := by
    simp [Vector.getElem_setIfInBounds]
  refine .of h.memory (fun m pl e => ?_) (fun j sl e => ?_) (fun i m e => ?_) (fun i j e => ?_)
    (fun j j' a b ne ha hb => h.apart' ne ha hb)
  · have e := (dir m).symm.trans e
    split at e
    · cases e
    · obtain ⟨good, run⟩ := h.runOfPlate e
      refine ⟨good, fun i => ?_⟩
      dsimp only
      rw [giveBlocks_get, ← run]
      split <;> simp_all
  · obtain ⟨hn, good, run⟩ := h.runOfSlot e
    refine ⟨hn, good, fun i => ?_⟩
    dsimp only
    rw [giveBlocks_get, ← run]
    split <;> simp_all
  · dsimp only at e
    rw [giveBlocks_get] at e
    split at e
    · cases e
    · next hne =>
      have old := h.owned i m e
      have hlt := plateOf_lt old
      have hnm : n ≠ m := fun hnm => hne (hnm ▸ e)
      rw [plateOf_fin _ ⟨m, hlt⟩] at old ⊢
      have := dir ⟨m, hlt⟩
      rw [if_neg hnm] at this
      exact fun none => old (this.symm.trans none)
  · dsimp only at e
    rw [giveBlocks_get] at e
    split at e
    · cases e
    · exact h.loading i j e

/-- A write to the memory and new values of an open slot that keep its plate, geometry and run. -/
theorem StoreInOrder.setSlot {st : PlateStore} (h : StoreInOrder st) {k : Fin 2} {sl sl' : Slot} {mem : List Host.Cell}
    {accepted : Nat} (e : st.slots[k] = some sl) (wf : memWf mem = true) (plate : sl'.plate = sl.plate)
    (width : sl'.width = sl.width) (height : sl'.height = sl.height) (depth : sl'.depth = sl.depth)
    (first : sl'.first = sl.first) (count : sl'.count = sl.count) :
    StoreInOrder { st with mem := mem, accepted := accepted, slots := st.slots.set k (some sl') } := by
  have slot {j : Fin 2} {x : Slot} (ej : (st.slots.set k (some sl'))[j] = some x) :
      ∃ y, st.slots[j] = some y ∧ x.plate = y.plate ∧ x.width = y.width ∧ x.height = y.height ∧ x.depth = y.depth ∧
        x.first = y.first ∧ x.count = y.count := by
    by_cases hj : j = k
    · subst hj
      cases (slots_set_self st j (some sl')).symm.trans ej
      exact ⟨sl, e, plate, width, height, depth, first, count⟩
    · exact ⟨x, (slots_set_other st _ hj).symm.trans ej, rfl, rfl, rfl, rfl, rfl, rfl⟩
  refine .of wf (fun n pl => h.runOfPlate) (fun j x ej => ?_) (fun i n => h.owned i n) (fun i j ej => ?_)
    (fun j j' a b ne ha hb => ?_)
  · obtain ⟨y, ey, p, w, hh, d, f, c⟩ := slot ej
    rw [p, w, hh, d, f, c]
    exact h.runOfSlot ey
  · by_cases hj : j = k
    · subst hj
      exact fun none => by cases (slots_set_self st j (some sl')).symm.trans none
    · exact fun none => h.loading i j ej ((slots_set_other st _ hj).symm.trans none)
  · obtain ⟨a', ea, pa, _⟩ := slot ha
    obtain ⟨b', eb, pb, _⟩ := slot hb
    rw [pa, pb]
    exact h.apart' ne ea eb

theorem slotFor_eq_some {n : Nat} {st : PlateStore} {k : Fin 2} (h : slotFor n st = some k) :
    ∃ sl, st.slots[k] = some sl ∧ sl.plate = n := by
  unfold slotFor at h
  split at h
  · next e => cases h; simpa using e
  · split at h
    · next e => cases h; simpa using e
    · cases h

theorem slotFor_eq_none {n : Nat} {st : PlateStore} (h : slotFor n st = none) {k : Fin 2} {sl : Slot}
    (e : st.slots[k] = some sl) : sl.plate ≠ n := by
  unfold slotFor at h
  split at h
  · cases h
  · split at h
    · cases h
    · next h0 h1 =>
      rintro rfl
      match k, e with
      | 0, e => exact h0 (by rw [e]; rfl)
      | 1, e => exact h1 (by rw [e]; rfl)

/-- R113: a later part keeps the order. -/
theorem laterPart_inOrder {st : PlateStore} (q : PlatePart) (now : Time) (h : StoreInOrder st) :
    StoreInOrder (laterPart q now st).1 := by
  unfold laterPart
  split
  · exact h.congr rfl rfl rfl rfl
  · split
    · exact h
    · next sl e =>
      split
      · have stored := h.setSlot (sl' := { sl with
            expected := sl.expected + 1, lastPart := now, order := st.accepted, timer := now + Config.partTime })
          (accepted := st.accepted + 1) e (memWf_memWriteAll (bytes := q.data)
            (a := sl.first * Config.blockSize + Config.partSize * q.index) h.memory) rfl rfl rfl rfl rfl rfl
        dsimp only
        split
        · exact commitSlot_inOrder _ stored
        · exact stored
      · exact (abandonSlot_inOrder _ h).congr rfl rfl rfl rfl

/-- R112 step 2: no slot stays open for the plate. -/
theorem abandonSame_slot {n : Nat} {st : PlateStore} (h : StoreInOrder st) {k : Fin 2} {sl : Slot}
    (e : (abandonSame n st).slots[k] = some sl) : sl.plate ≠ n ∧ st.slots[k] = some sl := by
  unfold abandonSame at e
  split at e
  · next j ej =>
    obtain ⟨a, ea, pa⟩ := slotFor_eq_some ej
    obtain ⟨ne, e⟩ := slots_close (k := j) e
    exact ⟨pa ▸ h.apart' ne e ea, e⟩
  · next none => exact ⟨slotFor_eq_none none e, e⟩

theorem abandonSame_inOrder {n : Nat} {st : PlateStore} (h : StoreInOrder st) : StoreInOrder (abandonSame n st) := by
  unfold abandonSame
  split
  · exact (abandonSlot_inOrder _ h).congr rfl rfl rfl rfl
  · exact h

theorem makeSlotRoom_inOrder {st : PlateStore} (h : StoreInOrder st) : StoreInOrder (makeSlotRoom st) := by
  unfold makeSlotRoom
  split
  · exact (abandonSlot_inOrder _ h).congr rfl rfl rfl rfl
  · exact h

theorem makeSlotRoom_slot {st : PlateStore} {k : Fin 2} {sl : Slot} (e : (makeSlotRoom st).slots[k] = some sl) :
    st.slots[k] = some sl := by
  unfold makeSlotRoom at e
  split at e
  · exact (slots_close e).2
  · exact e

/-- R112 step 3: a slot is closed then. -/
theorem makeSlotRoom_closed (st : PlateStore) : (makeSlotRoom st).slots[closedSlot (makeSlotRoom st)] = none := by
  have closed (st : PlateStore) (h : st.slots[(0 : Fin 2)] = none ∨ st.slots[(1 : Fin 2)] = none) :
      st.slots[closedSlot st] = none := by
    unfold closedSlot
    split
    · next e => simpa using e
    · next e => exact h.resolve_left fun h => e (by rw [h]; rfl)
  refine closed _ ?_
  unfold makeSlotRoom
  split
  · next a b ea eb =>
    split
    · exact .inl (slots_set_self st 0 none)
    · exact .inr (slots_set_self st 1 none)
  · next h =>
    refine Classical.byContradiction fun hn => ?_
    rw [not_or] at hn
    obtain ⟨a, ea⟩ := Option.ne_none_iff_exists'.mp hn.1
    obtain ⟨b, eb⟩ := Option.ne_none_iff_exists'.mp hn.2
    exact h a b ea eb

/-- R112 step 5: a closed slot that takes a run of FREE blocks. -/
theorem StoreInOrder.openRun {st : PlateStore} (h : StoreInOrder st) {k : Fin 2} {sl : Slot} {mem : List Host.Cell}
    {accepted : Nat} (closed : st.slots[k] = none) (wf : memWf mem = true) (plate : sl.plate ≤ 63)
    (good : RunGood sl.width sl.height sl.depth sl.first sl.count)
    (free : ∀ i, InRun sl.first sl.count i → st.blocks[i] = .free)
    (fresh : ∀ (j : Fin 2) x, st.slots[j] = some x → x.plate ≠ sl.plate) :
    StoreInOrder { st with
      blocks := giveRun st.blocks sl.first sl.count (.slot k), mem := mem, accepted := accepted
      slots := st.slots.set k (some sl) } := by
  have slot {j : Fin 2} {x : Slot} (e : (st.slots.set k (some sl))[j] = some x) :
      (j = k ∧ x = sl) ∨ (j ≠ k ∧ st.slots[j] = some x) := by
    by_cases hj : j = k
    · subst hj
      cases (slots_set_self st j (some sl)).symm.trans e
      exact .inl ⟨rfl, rfl⟩
    · exact .inr ⟨hj, (slots_set_other st _ hj).symm.trans e⟩
  have noBlock (i : Fin 256) : st.blocks[i] ≠ .slot k := fun e => h.loading i k e closed
  refine .of wf (fun n pl e => ?_) (fun j x e => ?_) (fun i n e => ?_) (fun i j e => ?_) (fun j j' a b ne ha hb => ?_)
  · obtain ⟨good, run⟩ := h.runOfPlate e
    refine ⟨good, fun i => ?_⟩
    dsimp only
    rw [giveRun_get, ← run]
    split
    · next hi => simp [free i hi]
    · rfl
  · rcases slot e with ⟨rfl, rfl⟩ | ⟨hj, e⟩
    · refine ⟨plate, good, fun i => ?_⟩
      dsimp only
      rw [giveRun_get, InRun]
      split
      · next hi => simp [hi]
      · next hi => exact iff_of_false (noBlock i) hi
    · obtain ⟨hn, good, run⟩ := h.runOfSlot e
      refine ⟨hn, good, fun i => ?_⟩
      dsimp only
      rw [giveRun_get, ← run]
      split
      · next hi => simp [free i hi, Ne.symm hj]
      · rfl
  · dsimp only at e
    rw [giveRun_get] at e
    split at e
    · cases e
    · exact h.owned i n e
  · dsimp only at e
    rw [giveRun_get] at e
    split at e
    · cases e
      exact fun none => by cases (slots_set_self st k (some sl)).symm.trans none
    · have hj : j ≠ k := fun hj => noBlock i (hj ▸ e)
      exact fun none => h.loading i j e ((slots_set_other st _ hj).symm.trans none)
  · rcases slot ha with ⟨rfl, rfl⟩ | ⟨hj, ea⟩ <;> rcases slot hb with ⟨rfl, rfl⟩ | ⟨hj', eb⟩
    · exact absurd rfl ne
    · exact (fresh j' b eb).symm
    · exact fresh j a ea
    · exact h.apart' ne ea eb

/-- R112 step 5: a load that opens keeps the order, and so does its commit where it has one part. -/
theorem openSlot_inOrder {st : PlateStore} {q : PlatePart} {first : Nat} (now : Time) (h : StoreInOrder st)
    (good : partZeroGood q = true) (width : q.width ≤ 255) (closed : st.slots[closedSlot st] = none)
    (free : findRun st.blocks (blocksNeeded (plateSize q.width q.height q.depth)) = some first)
    (fresh : ∀ (k : Fin 2) sl, st.slots[k] = some sl → sl.plate ≠ q.plate) :
    StoreInOrder (openSlot q first (blocksNeeded (plateSize q.width q.height q.depth)) now st).1 := by
  obtain ⟨fits, free⟩ := findRun_free free
  simp only [partZeroGood, decide_eq_true_eq] at good
  obtain ⟨plate, w1, h1, h2, d, -, -⟩ := good
  have opened := h.openRun (accepted := st.accepted + 1) (sl :=
      { plate := q.plate, width := q.width, height := q.height, depth := q.depth, parts := q.parts, expected := 1,
        first := first, count := blocksNeeded (plateSize q.width q.height q.depth), lastPart := now,
        order := st.accepted, timer := now + Config.partTime })
    closed (memWf_memWriteAll (bytes := q.data) (a := first * Config.blockSize) h.memory) plate
    ⟨w1, width, h1, h2, d, rfl, fits⟩ (fun i run => free i run.1 run.2) fresh
  unfold openSlot
  dsimp only
  split
  · exact commitSlot_inOrder _ opened
  · exact opened

/-- R112: a part 0 keeps the order, whatever becomes of it. -/
theorem loadOpen_inOrder {st : PlateStore} {q : PlatePart} (now : Time) (width : q.width ≤ 255) (h : StoreInOrder st) :
    StoreInOrder (loadOpen q now st).1 := by
  have room : StoreInOrder (makeSlotRoom (abandonSame q.plate st)) := makeSlotRoom_inOrder (abandonSame_inOrder h)
  unfold loadOpen
  split
  · next good =>
    dsimp only
    split
    · exact room.congr rfl rfl rfl rfl
    · next free =>
      exact openSlot_inOrder now room good width (makeSlotRoom_closed _) free
        fun k sl e => (abandonSame_slot h (makeSlotRoom_slot e)).1
  · exact h.congr rfl rfl rfl rfl

theorem platePart_inOrder {st : PlateStore} {q : PlatePart} (now : Time) (width : q.width ≤ 255) (h : StoreInOrder st) :
    StoreInOrder (platePart q now st).1 := by
  unfold platePart
  split
  · exact loadOpen_inOrder now width h
  · exact laterPart_inOrder q now h

theorem readPlatePart_width (b : List Byte) : (readPlatePart b).width ≤ 255 :=
  Nat.le_of_lt_succ (byteAt b 3).isLt

theorem resetPlates_inOrder : StoreInOrder resetPlates := by
  refine .of rfl (fun n pl e => ?_) (fun k sl e => ?_) (fun i n e => ?_) (fun i k e => ?_) (fun j k a b _ e _ => ?_) <;>
    simp [resetPlates] at e

end Sys2Proof.Machine
end

section
/-! PROOFS. What the operations below a command keep. All of them keep the queue of commands, the straps, the phase, and
each of the four invariants of Safety.lean (`Lasts`); those of the units also keep the lines, the transit queues, the ring
counters but the insert drops, a frame that is being sent and the delivery queue (`Kept`). Here the relations, one rule
for each update of a part of the state, and the shared operations. A rule takes the chain so far (`Kept s t`) to the chain
with one more operation, so the proof for a definition is written in the order of its text. -/

namespace Sys2Proof.Machine

variable {s t u : State}

/-! ### The invariants, part by part -/

/-- R2, R6, R12: the bounds of one transmitter. -/
structure Transmitter.Bounded (x : Transmitter) : Prop where
  transit : ∀ k, (x.transit.get k).length ≤ transitCapacity k
  insert : ∀ k, (x.insert.get k).length ≤ insertCapacity k
  fairness : x.fairness ≤ 4
  consecutive : x.consecutive ≤ 16

/-- R56, R83: the bounds of the call unit. -/
def CallUnit.Bounded (u : CallUnit) : Prop := u.floor ≤ 3 ∧ ∀ p : Port, u.phones[p].playout.length ≤ 8

/-- R85, R92: the bounds of the toll unit. -/
def TollUnit.Bounded (u : TollUnit) : Prop := u.journal.length ≤ 128 ∧ sentCount u.journal ≤ 16

/-- R164: the bounds of the weather unit. -/
def Weather.Bounded (w : Weather) : Prop := ∀ i : Fin 7, w.quantities[i].window.length ≤ 6

/-- R176, R179, R180: a port unit `v` keeps within its bounds where `u` did, and is in PASS only where `u` was or the
profile allows it. -/
structure PortUnit.LastsTo (profile : Profile) (u v : PortUnit) : Prop where
  queue : u.queue.length ≤ 128 → v.queue.length ≤ 128
  gather : u.gather.length < 48 → v.gather.length < 48
  pass : v.link = .pass → u.link = .pass ∨ profile ∈ passProfiles

/-- R176: a port unit `v` that also still sends a frame where `u` did. -/
structure PortUnit.KeptTo (profile : Profile) (u v : PortUnit) : Prop extends PortUnit.LastsTo profile u v where
  sending : u.sending ≠ none → v.sending ≠ none

theorem WithinBounds.transmitter (h : WithinBounds s) (l : Line) : (s.tx.get l).Bounded :=
  ⟨h.transit l, h.insert l, h.fairness l, h.consecutive l⟩

/-- R141: the claims lists and entry-order counts of the sign ports. -/
def State.claimLists (s : State) (p : Port) : List PageClaim × BitVec 16 := (s.signs[p].claims, s.signs[p].claimCount)

/-- The order of the claims lists is a matter of these lists and of the response table. -/
theorem ClaimsInOrder.congr (h : ClaimsInOrder s) (lists : t.claimLists = s.claimLists)
    (responses : t.responses = s.responses) : ClaimsInOrder t := by
  have claims (p : Port) : t.signs[p].claims = s.signs[p].claims := congrArg Prod.fst (congrFun lists p)
  have count (p : Port) : t.signs[p].claimCount = s.signs[p].claimCount := congrArg Prod.snd (congrFun lists p)
  constructor
  · intro p; rw [claims]; exact h.rest p
  · intro p; rw [claims]; exact h.once p
  · intro p; rw [claims]; exact h.priority p
  · intro p; rw [claims, responses]; exact h.response p
  · rw [responses]; exact h.entry
  · intro p; rw [claims, count]; exact h.order p

/-! ### The relation -/

/-- What every operation below a command keeps, but a restart, the end of the listening time and the entry to MUTE. -/
structure Lasts (s t : State) : Prop where
  pending : t.pending = s.pending
  straps : t.straps = s.straps
  phase : t.phase = s.phase
  bounds : WithinBounds s → WithinBounds t
  store : StoreInOrder s.plates → StoreInOrder t.plates
  claims : ClaimsInOrder s → ClaimsInOrder t
  tables : TablesInOrder s → TablesInOrder t

/-- What every operation of a unit keeps. -/
structure Kept (s t : State) : Prop extends Lasts s t where
  lines : t.lines = s.lines
  transit : ∀ l, (t.tx.get l).transit = (s.tx.get l).transit
  ring : t.ring = { s.ring with insertDrops := t.ring.insertDrops }
  sending : ∀ p : Port, s.ports[p].sending ≠ none → t.ports[p].sending ≠ none
  delivery : t.centre.delivery = s.centre.delivery
  deliveryDrops : t.portCounts.deliveryDrops = s.portCounts.deliveryDrops

theorem Lasts.refl (s : State) : Lasts s s := ⟨rfl, rfl, rfl, id, id, id, id⟩

theorem Lasts.trans (h : Lasts s t) (k : Lasts t u) : Lasts s u :=
  ⟨k.pending.trans h.pending, k.straps.trans h.straps, k.phase.trans h.phase, k.bounds ∘ h.bounds, k.store ∘ h.store,
    k.claims ∘ h.claims, k.tables ∘ h.tables⟩

theorem Lasts.step (h : Lasts s t) (k : Kept t u) : Lasts s u := h.trans k.toLasts

theorem Lasts.own (h : Lasts s t) : t.own = s.own := by simp only [State.own, h.straps]

theorem Lasts.profile (h : Lasts s t) : t.profile = s.profile := by funext p; simp only [State.profile, h.straps]

theorem Lasts.ite {c : Prop} [Decidable c] (ht : Lasts s t) (hu : Lasts s u) : Lasts s (if c then t else u) := by
  split
  · exact ht
  · exact hu

theorem Kept.refl (s : State) : Kept s s := ⟨.refl s, rfl, fun _ => rfl, rfl, fun _ => id, rfl, rfl⟩

theorem Kept.trans (h : Kept s t) (k : Kept t u) : Kept s u where
  toLasts := h.toLasts.trans k.toLasts
  lines := k.lines.trans h.lines
  transit l := (k.transit l).trans (h.transit l)
  ring := by rw [k.ring, h.ring]
  sending p := k.sending p ∘ h.sending p
  delivery := k.delivery.trans h.delivery
  deliveryDrops := k.deliveryDrops.trans h.deliveryDrops

theorem Kept.fold (h : Kept s t) : t.fold = s.fold := by simp only [State.fold, h.lines]

theorem Kept.ite {c : Prop} [Decidable c] (ht : Kept s t) (hu : Kept s u) : Kept s (if c then t else u) := by
  split
  · exact ht
  · exact hu

theorem forPorts_kept {f : Port → State → State} (hf : ∀ {t} p, Kept s t → Kept s (f p t)) (h : Kept s t) :
    Kept s (forPorts f t) := hf 3 (hf 2 (hf 1 (hf 0 h)))

theorem foldl_kept {α : Type} {f : State → α → State} {xs : List α} (hf : ∀ {t} x, Kept s t → Kept s (f t x))
    (h : Kept s t) : Kept s (xs.foldl f t) := by
  induction xs generalizing t with
  | nil => exact h
  | cons x xs ih => exact ih (hf x h)

/-! ### One rule for each part -/

theorem setClock_kept {x : Clock} (h : Kept s t) : Kept s (t.setClock x) :=
  { h with bounds := fun b => { h.bounds b with }, claims := fun c => (h.claims c).congr rfl rfl,
           tables := fun c => { h.tables c with } }

theorem setLines_lasts {x : Both LineUnit} (h : Lasts s t) : Lasts s (t.setLines x) :=
  { h with bounds := fun b => { h.bounds b with }, claims := fun c => (h.claims c).congr rfl rfl,
           tables := fun c => { h.tables c with } }

theorem setRing_lasts {x : RingCounters} (h : Lasts s t) : Lasts s (t.setRing x) :=
  { h with bounds := fun b => { h.bounds b with }, claims := fun c => (h.claims c).congr rfl rfl,
           tables := fun c => { h.tables c with } }

theorem setBrightness_kept {x : Nat} (h : Kept s t) : Kept s (t.setBrightness x) :=
  { h with bounds := fun b => { h.bounds b with }, claims := fun c => (h.claims c).congr rfl rfl,
           tables := fun c => { h.tables c with } }

theorem setPortCounts_lasts {x : PortCounters} (h : Lasts s t) : Lasts s (t.setPortCounts x) :=
  { h with bounds := fun b => { h.bounds b with }, claims := fun c => (h.claims c).congr rfl rfl,
           tables := fun c => { h.tables c with } }

theorem setPortCounts_kept {x : PortCounters} (h : Kept s t) (drops : x.deliveryDrops = t.portCounts.deliveryDrops) :
    Kept s (t.setPortCounts x) :=
  { h with toLasts := setPortCounts_lasts h.toLasts, deliveryDrops := drops.trans h.deliveryDrops }

theorem setTx_lasts {x : Both Transmitter} (h : Lasts s t) (hx : WithinBounds t → ∀ l, (x.get l).Bounded) :
    Lasts s (t.setTx x) :=
  { h with
    bounds := fun b =>
      have b := h.bounds b
      { b with transit := fun l => (hx b l).transit, insert := fun l => (hx b l).insert,
               fairness := fun l => (hx b l).fairness, consecutive := fun l => (hx b l).consecutive }
    claims := fun c => (h.claims c).congr rfl rfl
    tables := fun c => { h.tables c with } }

/-- A station table of the same phase; its heard table is the old one, or holds nothing of this station. -/
theorem setStation_kept {x : Station} (h : Kept s t) (phase : x.phase = t.station.phase)
    (heard : TablesInOrder t → ∀ n, t.own = some n →
      (x.heard[n]?.getD absentEntry).present = false ∧ (x.heard[n]?.getD absentEntry).stamp = none) :
    Kept s (t.setStation x) :=
  { h with
    phase := phase.trans h.phase
    bounds := fun b => { h.bounds b with }
    claims := fun c => (h.claims c).congr rfl rfl
    tables := fun c =>
      have c := h.tables c
      { c with phase := (iff_of_eq (congrArg (· = Phase.strapFault) phase)).trans c.phase, heard := heard c } }

theorem setStation_kept_of_heard {x : Station} (h : Kept s t) (phase : x.phase = t.station.phase)
    (heard : x.heard = t.station.heard) : Kept s (t.setStation x) :=
  setStation_kept h phase fun c => heard ▸ c.heard

theorem setCall_kept {x : CallUnit} (h : Kept s t) (hx : t.call.Bounded → x.Bounded) : Kept s (t.setCall x) :=
  { h with
    bounds := fun b =>
      have b := h.bounds b
      { b with floor := (hx ⟨b.floor, b.playout⟩).1, playout := (hx ⟨b.floor, b.playout⟩).2 }
    claims := fun c => (h.claims c).congr rfl rfl
    tables := fun c => { h.tables c with } }

theorem setToll_kept {x : TollUnit} (h : Kept s t) (hx : t.toll.Bounded → x.Bounded) : Kept s (t.setToll x) :=
  { h with
    bounds := fun b =>
      have b := h.bounds b
      { b with journal := (hx ⟨b.journal, b.window⟩).1, window := (hx ⟨b.journal, b.window⟩).2 }
    claims := fun c => (h.claims c).congr rfl rfl
    tables := fun c => { h.tables c with } }

theorem setCall_kept_of_same {x : CallUnit} (h : Kept s t) (floor : x.floor = t.call.floor := by dsimp only)
    (phones : x.phones = t.call.phones := by dsimp only) : Kept s (t.setCall x) :=
  setCall_kept h fun b => ⟨floor ▸ b.1, phones ▸ b.2⟩

theorem setToll_kept_of_same {x : TollUnit} (h : Kept s t) (journal : x.journal = t.toll.journal := by dsimp only) :
    Kept s (t.setToll x) := setToll_kept h fun b => ⟨journal ▸ b.1, journal ▸ b.2⟩

theorem setPlates_kept {x : PlateStore} (h : Kept s t) (hx : StoreInOrder t.plates → StoreInOrder x) :
    Kept s (t.setPlates x) :=
  { h with bounds := fun b => { h.bounds b with }, store := hx ∘ h.store,
           claims := fun c => (h.claims c).congr rfl rfl, tables := fun c => { h.tables c with } }

theorem setSigns_kept {x : Vector Sign 4} (h : Kept s t) (hx : ClaimsInOrder t → ClaimsInOrder (t.setSigns x)) :
    Kept s (t.setSigns x) :=
  { h with bounds := fun b => { h.bounds b with }, claims := hx ∘ h.claims, tables := fun c => { h.tables c with } }

theorem setResponses_kept {x : Vector Response 16} (h : Kept s t)
    (hx : ClaimsInOrder t → ClaimsInOrder (t.setResponses x)) : Kept s (t.setResponses x) :=
  { h with bounds := fun b => { h.bounds b with }, claims := hx ∘ h.claims, tables := fun c => { h.tables c with } }

/-- A weather unit whose windows keep within their bounds, and whose view holds nothing of this station. -/
theorem setWeather_kept {x : Weather} (h : Kept s t) (windows : t.weather.Bounded → x.Bounded)
    (view : TablesInOrder s → TablesInOrder t → ∀ n, t.own = some n → (x.view[n]?).join = none) :
    Kept s (t.setWeather x) :=
  { h with
    bounds := fun b =>
      have b := h.bounds b
      { b with samples := windows b.samples }
    claims := fun c => (h.claims c).congr rfl rfl
    tables := fun c => { h.tables c with view := view c (h.tables c) } }

theorem setWeather_kept_of_view {x : Weather} (h : Kept s t) (windows : t.weather.Bounded → x.Bounded)
    (view : x.view = t.weather.view) : Kept s (t.setWeather x) :=
  setWeather_kept h windows fun _ c => view ▸ c.view

theorem setWeather_kept_of_same {x : Weather} (h : Kept s t) (quantities : x.quantities = t.weather.quantities := by dsimp only)
    (view : x.view = t.weather.view := by dsimp only) : Kept s (t.setWeather x) :=
  setWeather_kept_of_view h (fun b i => by rw [quantities]; exact b i) view

theorem setCentre_lasts {x : CentrePort} (h : Lasts s t)
    (intake : WithinBounds t → x.intake.length ≤ 64)
    (legal : TablesInOrder t → ∀ c ∈ x.intake, intakeKind c.kind = true ∧ validDest c.dest = true)
    (delivery : WithinBounds t → x.delivery.length ≤ 128) : Lasts s (t.setCentre x) :=
  { h with
    bounds := fun b => { h.bounds b with intake := intake (h.bounds b), delivery := delivery (h.bounds b) }
    claims := fun c => (h.claims c).congr rfl rfl
    tables := fun c => { h.tables c with intake := legal (h.tables c) } }

/-- A delivery queue that keeps within its bound, the intake FIFO as it was. -/
theorem setDelivery_lasts {q : List Frame} (h : Lasts s t) (delivery : WithinBounds t → q.length ≤ 128) :
    Lasts s (t.setCentre { t.centre with delivery := q }) :=
  setCentre_lasts h WithinBounds.intake TablesInOrder.intake delivery

/-- An intake FIFO that keeps within its bound and holds only legal cells, the delivery queue as it was. -/
theorem setCentre_kept {x : CentrePort} (h : Kept s t) (intake : WithinBounds t → x.intake.length ≤ 64)
    (legal : TablesInOrder t → ∀ c ∈ x.intake, intakeKind c.kind = true ∧ validDest c.dest = true)
    (delivery : x.delivery = t.centre.delivery) : Kept s (t.setCentre x) :=
  { h with toLasts := setCentre_lasts h.toLasts intake legal fun b => delivery ▸ b.delivery,
           delivery := delivery.trans h.delivery }

theorem modPort_get (p q : Port) (f : PortUnit → PortUnit) (s : State) :
    (modPort p f s).ports[q] = if q = p then f s.ports[p] else s.ports[q] := by
  split
  · next e => subst e; exact vector_get_set ..
  · next e => exact vector_get_set_ne _ _ _ _ e

theorem modPort_lasts {p : Port} {f : PortUnit → PortUnit} (h : Lasts s t)
    (hf : t.ports[p].LastsTo (t.profile p) (f t.ports[p])) : Lasts s (modPort p f t) := by
  refine { h with bounds := fun b => ?_, claims := fun c => (h.claims c).congr rfl rfl, tables := fun c => ?_ }
  · have b := h.bounds b
    refine { b with frames := fun q => ?_, gather := fun q => ?_ }
    · rw [modPort_get]; split
      · exact hf.queue (b.frames p)
      · exact b.frames q
    · rw [modPort_get]; split
      · exact hf.gather (b.gather p)
      · exact b.gather q
  · have c := h.tables c
    refine { c with pass := fun q e => ?_ }
    rw [modPort_get] at e
    split at e
    · next hq => subst hq; exact (hf.pass e).elim (c.pass q) id
    · exact c.pass q e

theorem modPort_kept {p : Port} {f : PortUnit → PortUnit} (h : Kept s t)
    (hf : t.ports[p].KeptTo (t.profile p) (f t.ports[p])) : Kept s (modPort p f t) :=
  { h with
    toLasts := modPort_lasts h.toLasts hf.toLastsTo
    sending := fun q e => by
      rw [modPort_get]; split
      · next hq => subst hq; exact hf.sending (h.sending q e)
      · exact h.sending q e }

/-- A port unit of which the queue, the gather buffer and the link stay as they are. -/
theorem PortUnit.LastsTo.of_same {profile : Profile} {u v : PortUnit} (queue : v.queue = u.queue)
    (gather : v.gather = u.gather) (link : v.link = u.link) : u.LastsTo profile v :=
  ⟨fun h => queue ▸ h, fun h => gather ▸ h, fun h => .inl (link ▸ h)⟩

theorem PortUnit.KeptTo.of_same {profile : Profile} {u v : PortUnit} (queue : v.queue = u.queue)
    (gather : v.gather = u.gather) (link : v.link = u.link) (sending : u.sending ≠ none → v.sending ≠ none := by exact id) :
    u.KeptTo profile v := ⟨.of_same queue gather link, sending⟩

theorem setRx_kept {p : Port} {x : Option PartFrame} (h : Kept s t) (hx : ∀ y, x = some y → y.bytes.length < 260) :
    Kept s (setRx p x t) := by
  refine { h with bounds := fun b => ?_, claims := fun c => (h.claims c).congr rfl rfl,
                  tables := fun c => { h.tables c with } }
  have b := h.bounds b
  refine { b with rx := fun q y e => ?_ }
  by_cases hq : q = p
  · subst hq
    exact hx y ((vector_get_set _ _ _).symm.trans e)
  · exact b.rx q y ((vector_get_set_ne _ _ _ _ hq).symm.trans e)

/-! ### Updates within a part -/

theorem modLine_lasts {l : Line} {f : LineUnit → LineUnit} (h : Lasts s t) : Lasts s (modLine l f t) := setLines_lasts h

theorem modTx_lasts {l : Line} {f : Transmitter → Transmitter} (h : Lasts s t)
    (hf : (t.tx.get l).Bounded → (f (t.tx.get l)).Bounded) : Lasts s (modTx l f t) := by
  refine setTx_lasts h fun b k => ?_
  by_cases hk : k = l
  · subst hk
    rw [Both.get_set_same]
    exact hf (b.transmitter k)
  · rw [Both.get_set_other _ _ _ _ hk]
    exact b.transmitter k

/-- A transmitter of which the transit queues stay as they are. -/
theorem modTx_kept {l : Line} {f : Transmitter → Transmitter} (h : Kept s t)
    (hf : (t.tx.get l).Bounded → (f (t.tx.get l)).Bounded) (transit : (f (t.tx.get l)).transit = (t.tx.get l).transit) :
    Kept s (modTx l f t) := by
  refine { h with toLasts := modTx_lasts h.toLasts hf, transit := fun k => ?_ }
  by_cases hk : k = l
  · subst hk
    exact (congrArg Transmitter.transit (Both.get_set_same ..)).trans (transit.trans (h.transit k))
  · exact (congrArg Transmitter.transit (Both.get_set_other _ _ _ _ hk)).trans (h.transit k)

theorem modPhone_kept_at {p : Port} {f : Phone → Phone} (h : Kept s t)
    (hf : t.call.phones[p].playout.length ≤ 8 → (f t.call.phones[p]).playout.length ≤ 8) : Kept s (modPhone p f t) := by
  refine setCall_kept h fun b => ⟨b.1, fun q => ?_⟩
  by_cases hq : q = p
  · subst hq
    dsimp only
    rw [vector_get_set]
    exact hf (b.2 q)
  · dsimp only
    rw [vector_get_set_ne _ _ _ _ hq]
    exact b.2 q

theorem modPhone_kept {p : Port} {f : Phone → Phone} (h : Kept s t)
    (hf : ∀ ph : Phone, ph.playout.length ≤ 8 → (f ph).playout.length ≤ 8) : Kept s (modPhone p f t) :=
  modPhone_kept_at h (hf _)

theorem claimLists_modSign {p : Port} {f : Sign → Sign} (t : State)
    (hf : (f t.signs[p]).claims = t.signs[p].claims ∧ (f t.signs[p]).claimCount = t.signs[p].claimCount) :
    (modSign p f t).claimLists = t.claimLists := by
  funext q
  by_cases hq : q = p
  · subst hq
    exact Prod.ext ((congrArg _ (vector_get_set ..)).trans hf.1) ((congrArg _ (vector_get_set ..)).trans hf.2)
  · exact congrArg (fun g : Sign => (g.claims, g.claimCount)) (vector_get_set_ne _ _ _ _ hq)

/-- A sign of which the claims list stays as it is. -/
theorem modSign_kept {p : Port} {f : Sign → Sign} (h : Kept s t)
    (hf : (f t.signs[p]).claims = t.signs[p].claims ∧ (f t.signs[p]).claimCount = t.signs[p].claimCount) :
    Kept s (modSign p f t) :=
  setSigns_kept h fun c => c.congr (claimLists_modSign t hf) rfl

theorem reach_kept {d : Time} (h : Kept s t) : Kept s (reach d t) := setClock_kept h

theorem modRing_lasts {f : RingCounters → RingCounters} (h : Lasts s t) : Lasts s (modRing f t) := setRing_lasts h

theorem modTollCounters_kept {f : TollCounters → TollCounters} (h : Kept s t) : Kept s (modTollCounters f t) :=
  setToll_kept_of_same h

theorem modPortCounts_kept {f : PortCounters → PortCounters} (h : Kept s t)
    (drops : (f t.portCounts).deliveryDrops = t.portCounts.deliveryDrops := by exact rfl) : Kept s (modPortCounts f t) :=
  setPortCounts_kept h drops

theorem reject_kept {r : RejectReason} (h : Kept s t) : Kept s (reject r t) := setStation_kept_of_heard h rfl rfl

/-! ### The insert queues (R7, R8) -/

theorem Queues.get_length_set {q : Queues} {k : CellClass} {x : List Cell} {cap : CellClass → Nat}
    (h : ∀ j, (q.get j).length ≤ cap j) (hx : x.length ≤ cap k) (j : CellClass) : ((q.set k x).get j).length ≤ cap j := by
  by_cases hj : j = k
  · subst hj
    rwa [Queues.get_set_same]
  · rw [Queues.get_set_other _ _ _ _ hj]
    exact h j

theorem offer_kept {kind dest : Byte} {bytes : List Byte} (h : Kept s t) : Kept s (offer kind dest bytes t).1 := by
  unfold offer enqueueInsert
  split
  · next room =>
    dsimp only
    refine modTx_kept h (fun b => { b with insert := Queues.get_length_set b.insert ?_ }) rfl
    exact Nat.le_trans (Nat.le_of_eq List.length_append) (of_decide_eq_true room)
  · exact h

theorem insertDrop_kept (h : Kept s t) : Kept s (insertDrop t) :=
  { h with toLasts := modRing_lasts h.toLasts
           ring := by rw [insertDrop, modRing, State.setRing_ring, h.ring] }

theorem offerCounted_kept {kind dest : Byte} {bytes : List Byte} (h : Kept s t) :
    Kept s (offerCounted kind dest bytes t) := by
  unfold offerCounted
  split
  · next e => exact (congrArg (Kept s ·.1) e).mp (offer_kept h)
  · exact insertDrop_kept h

theorem withdrawC_kept {f : Cell → Bool} (h : Kept s t) : Kept s (withdrawC f t).1 := by
  have erase (l : Line) : Kept s (modTx l (fun x => { x with insert := { x.insert with c := x.insert.c.eraseP f } }) t) :=
    modTx_kept h (fun ⟨transit, insert, fairness, consecutive⟩ =>
      ⟨transit, Queues.get_length_set (k := .c) insert (Nat.le_trans List.length_eraseP_le (insert .c)), fairness, consecutive⟩) rfl
  unfold withdrawC
  split
  · exact erase .u
  · split
    · exact erase .d
    · exact h

/-! ### Frames and the delivery queue (R176, R183) -/

theorem sendFrame_kept {p : Port} {f : Frame} (h : Kept s t) : Kept s (sendFrame p f t) := by
  unfold sendFrame
  split
  · exact modPort_kept h (.of_same rfl rfl rfl nofun)
  · split
    · next room => exact modPort_kept h ⟨⟨fun _ => Nat.le_trans (Nat.le_of_eq List.length_append) room, id, .inl⟩, id⟩
    · exact modPortCounts_kept h

theorem sendService_kept {p : Port} {f : Frame} (h : Kept s t) : Kept s (sendService p f t) := .ite (sendFrame_kept h) h

theorem sendServices_kept {p : Port} {fs : List Frame} (h : Kept s t) : Kept s (sendServices p fs t) := by
  induction fs generalizing t with
  | nil => exact h
  | cons f fs ih => exact ih (sendService_kept h)

theorem startNext_lasts {p : Port} (h : Lasts s t) : Lasts s (startNext p t) := by
  unfold startNext
  split
  · exact h
  · split
    · next f rest e =>
      exact modPort_lasts h ⟨fun q => by rw [e] at q; exact Nat.le_trans (Nat.le_succ _) q, id, .inl⟩
    · split
      · split
        · next f rest e =>
          refine modPort_lasts (setDelivery_lasts h fun b => ?_) (.of_same rfl rfl rfl)
          have := b.delivery
          rw [e] at this
          exact Nat.le_trans (Nat.le_succ _) this
        · exact h
      · exact h

theorem deliveryDrop_lasts (h : Lasts s t) : Lasts s (deliveryDrop t) := setPortCounts_lasts h

theorem dropOldestCell_length {q : List Frame} (h : holdsCell q = true) :
    (dropOldestCell q).length + 1 = q.length := by
  obtain ⟨f, hf, hp⟩ := List.any_eq_true.mp h
  rw [dropOldestCell, List.length_eraseP_of_mem hf hp, Nat.sub_add_cancel (List.length_pos_of_mem hf)]

theorem placeDelivery_lasts {f : Frame} (h : Lasts s t) : Lasts s (placeDelivery f t) := by
  unfold placeDelivery
  split
  · exact h
  · split
    · next room => exact startNext_lasts (setDelivery_lasts h fun _ => Nat.le_trans (Nat.le_of_eq List.length_append) room)
    · split
      · next cell =>
        refine deliveryDrop_lasts (setDelivery_lasts h fun b => ?_)
        have := b.delivery
        simp only [List.length_append, List.length_singleton, dropOldestCell_length cell]
        exact this
      · exact deliveryDrop_lasts h

end Sys2Proof.Machine
end

section
/-! PROOFS. `Kept` for the display controller (chapter 8) and the composer it drives, for the claims lists (R141) and for
the response table (R144 to R148). The claims lists change in two places only, `withClaim` and `withoutClaim`; the rest of
the display controller leaves `State.claimLists` as it is. A response entry that becomes IDLE loses its claims in the same
step (`retire_kept`). -/

namespace Sys2Proof.Machine

variable {s t : State}

/-! ### What leaves the claims lists as they are -/

theorem claimLists_of_keeps {ps : List Part} (h : SameBut ps s t) (hs : Part.signs ∉ ps) : t.claimLists = s.claimLists := by
  have same : t.signs = s.signs := h.same .signs hs
  funext p
  simp only [State.claimLists, same]

@[simp] theorem sendService_claimLists (p : Port) (f : Frame) (s : State) :
    (sendService p f s).claimLists = s.claimLists := claimLists_of_keeps (sendService_keeps p f s) (by decide)

@[simp] theorem endTransfer_claimLists (p : Port) (s : State) : (endTransfer p s).claimLists = s.claimLists :=
  claimLists_modSign s ⟨rfl, rfl⟩

@[simp] theorem startTransfer_claimLists (p : Port) (r : Result) (s : State) :
    (startTransfer p r s).claimLists = s.claimLists :=
  (sendService_claimLists ..).trans (claimLists_modSign s ⟨rfl, rfl⟩)

@[simp] theorem receiveResult_claimLists (p : Port) (r : Result) (s : State) :
    (receiveResult p r s).claimLists = s.claimLists := by
  have taken : (modSign p (fun g => { g with awaiting := false }) s).claimLists = s.claimLists :=
    claimLists_modSign s ⟨rfl, rfl⟩
  unfold receiveResult
  dsimp only
  split
  · exact taken
  · split
    · exact (startTransfer_claimLists ..).trans taken
    · exact (claimLists_modSign _ ⟨rfl, rfl⟩).trans taken

@[simp] theorem completeCompose_claimLists (p : Port) (c : Compose) (s : State) :
    (completeCompose p c s).claimLists = s.claimLists :=
  (receiveResult_claimLists ..).trans (claimLists_modSign s ⟨rfl, rfl⟩)

@[simp] theorem startCompose_claimLists (p : Port) (page : Fin 8) (s : State) :
    (startCompose p page s).claimLists = s.claimLists := by
  unfold startCompose
  split
  · exact claimLists_modSign s ⟨rfl, rfl⟩
  · dsimp only
    split
    · exact completeCompose_claimLists ..
    · exact claimLists_modSign s ⟨rfl, rfl⟩

@[simp] theorem composeRequest_claimLists (p : Port) (page : Fin 8) (s : State) :
    (composeRequest p page s).claimLists = s.claimLists := by
  unfold composeRequest
  split
  · split
    · exact claimLists_modSign s ⟨rfl, rfl⟩
    · split
      · exact startCompose_claimLists ..
      · rfl
  · rfl

@[simp] theorem requestTarget_claimLists (p : Port) (s : State) : (requestTarget p s).claimLists = s.claimLists := by
  unfold requestTarget
  split
  · exact (composeRequest_claimLists ..).trans (claimLists_modSign s ⟨rfl, rfl⟩)
  · rfl

@[simp] theorem setTarget_claimLists (p : Port) (page : Fin 8) (s : State) :
    (setTarget p page s).claimLists = s.claimLists := by
  unfold setTarget
  split
  · rfl
  · exact claimLists_modSign s ⟨rfl, rfl⟩

@[simp] theorem trySelected_claimLists (p : Port) (s : State) : (trySelected p s).claimLists = s.claimLists :=
  (requestTarget_claimLists ..).trans (setTarget_claimLists ..)

/-- R149: what follows a change of a claims list leaves the lists as the change made them. -/
theorem changeClaims_claimLists (p : Port) (f : Sign → Sign) (s : State) :
    (changeClaims p f s).claimLists = (modSign p f s).claimLists := by
  unfold changeClaims
  dsimp only
  split
  · rfl
  · exact trySelected_claimLists ..

theorem changeClaims_claims (p q : Port) (f : Sign → Sign) (s : State) :
    (changeClaims p f s).signs[q].claims = if q = p then (f s.signs[p]).claims else s.signs[q].claims := by
  have : (changeClaims p f s).signs[q].claims = (modSign p f s).signs[q].claims :=
    congrArg Prod.fst (congrFun (changeClaims_claimLists p f s) q)
  rw [this]
  split
  · next e => subst e; exact congrArg _ (vector_get_set ..)
  · next e => exact congrArg _ (vector_get_set_ne _ _ _ _ e)

theorem changeClaims_claimCount (p q : Port) (f : Sign → Sign) (s : State) :
    (changeClaims p f s).signs[q].claimCount = if q = p then (f s.signs[p]).claimCount else s.signs[q].claimCount := by
  have : (changeClaims p f s).signs[q].claimCount = (modSign p f s).signs[q].claimCount :=
    congrArg Prod.snd (congrFun (changeClaims_claimLists p f s) q)
  rw [this]
  split
  · next e => subst e; exact congrArg _ (vector_get_set ..)
  · next e => exact congrArg _ (vector_get_set_ne _ _ _ _ e)

/-! ### The display controller -/

theorem endTransfer_kept {p : Port} (h : Kept s t) : Kept s (endTransfer p t) := modSign_kept h ⟨rfl, rfl⟩

theorem sendOffer_kept {p : Port} {x : Transfer} {pic : Pic} (h : Kept s t) : Kept s (sendOffer p x pic t) :=
  sendService_kept (modSign_kept h ⟨rfl, rfl⟩)

theorem startTransfer_kept {p : Port} {r : Result} (h : Kept s t) : Kept s (startTransfer p r t) := sendOffer_kept h

theorem sendRows_kept {p : Port} {x : Transfer} {pic : Pic} (h : Kept s t) : Kept s (sendRows p x pic t) :=
  sendServices_kept (modSign_kept h ⟨rfl, rfl⟩)

theorem sendSwitch_kept {p : Port} {x : Transfer} (h : Kept s t) : Kept s (sendSwitch p x t) :=
  sendService_kept (modSign_kept h ⟨rfl, rfl⟩)

theorem transferPending_kept {p : Port} (h : Kept s t) : Kept s (transferPending p t) := by
  unfold transferPending
  split
  · exact h
  · exact startTransfer_kept (modSign_kept h ⟨rfl, rfl⟩)

theorem receiveResult_kept {p : Port} {r : Result} (h : Kept s t) : Kept s (receiveResult p r t) :=
  have h := modSign_kept (p := p) (f := fun g => { g with awaiting := false }) h ⟨rfl, rfl⟩
  .ite h (.ite (startTransfer_kept h) (modSign_kept h ⟨rfl, rfl⟩))

theorem completeCompose_kept {p : Port} {c : Compose} (h : Kept s t) : Kept s (completeCompose p c t) :=
  receiveResult_kept (modSign_kept h ⟨rfl, rfl⟩)

theorem startCompose_kept {p : Port} {page : Fin 8} (h : Kept s t) : Kept s (startCompose p page t) := by
  unfold startCompose
  split
  · exact modSign_kept h ⟨rfl, rfl⟩
  · exact .ite (completeCompose_kept h) (modSign_kept h ⟨rfl, rfl⟩)

theorem composeRequest_kept {p : Port} {page : Fin 8} (h : Kept s t) : Kept s (composeRequest p page t) :=
  .ite (.ite (modSign_kept h ⟨rfl, rfl⟩) (.ite (startCompose_kept h) h)) h

theorem layerBoundary_kept {p : Port} {c : Compose} (h : Kept s t) : Kept s (layerBoundary p c t) := by
  unfold layerBoundary
  split
  · exact modSign_kept h ⟨rfl, rfl⟩
  · split
    · exact startCompose_kept (modSign_kept h ⟨rfl, rfl⟩)
    · exact .ite (startCompose_kept h) (.ite (completeCompose_kept h) (modSign_kept h ⟨rfl, rfl⟩))

theorem applyLayer_kept {p : Port} (h : Kept s t) : Kept s (applyLayer p t) := by
  unfold applyLayer
  split
  · exact h
  · exact layerBoundary_kept h

theorem requestTarget_kept {p : Port} (h : Kept s t) : Kept s (requestTarget p t) :=
  .ite (composeRequest_kept (modSign_kept h ⟨rfl, rfl⟩)) h

theorem setTarget_kept {p : Port} {page : Fin 8} (h : Kept s t) : Kept s (setTarget p page t) :=
  .ite h (modSign_kept h ⟨rfl, rfl⟩)

theorem trySelected_kept {p : Port} (h : Kept s t) : Kept s (trySelected p t) := requestTarget_kept (setTarget_kept h)

theorem changeClaims_kept {p : Port} {f : Sign → Sign} (h : Kept s t)
    (hf : ClaimsInOrder t → ClaimsInOrder (modSign p f t)) : Kept s (changeClaims p f t) :=
  have h := setSigns_kept h hf
  .ite h (trySelected_kept h)

theorem pageCommitted_kept {p : Port} {page : Fin 8} (h : Kept s t) : Kept s (pageCommitted p page t) :=
  .ite (trySelected_kept h) (.ite (requestTarget_kept h) h)

theorem plateReported_kept {plate : Nat} (h : Kept s t) : Kept s (plateReported plate t) :=
  forPorts_kept (fun _ h => .ite h (.ite (trySelected_kept h) (.ite (requestTarget_kept h) h))) h

theorem signLinkLeft_kept {p : Port} (h : Kept s t) : Kept s (signLinkLeft p t) :=
  modSign_kept (endTransfer_kept h) ⟨rfl, rfl⟩

theorem signLinkUp_kept {p : Port} (h : Kept s t) : Kept s (signLinkUp p t) :=
  .ite h (.ite (sendService_kept (sendService_kept h)) (requestTarget_kept (sendService_kept h)))

theorem signMute_kept {p : Port} (h : Kept s t) : Kept s (signMute p t) := modSign_kept (endTransfer_kept h) ⟨rfl, rfl⟩

theorem enterDark_kept {p : Port} (h : Kept s t) : Kept s (enterDark p t) :=
  sendService_kept (modSign_kept (endTransfer_kept h) ⟨rfl, rfl⟩)

theorem fallBack_kept {p : Port} (h : Kept s t) : Kept s (fallBack p t) :=
  requestTarget_kept (setTarget_kept (modSign_kept (endTransfer_kept h) ⟨rfl, rfl⟩))

theorem escalate_kept {p : Port} {r : Result} (h : Kept s t) : Kept s (escalate p r t) := by
  have raised := modSign_kept (p := p) (f := fun g => { g with stage := 1 }) (endTransfer_kept (p := p) h) ⟨rfl, rfl⟩
  unfold escalate
  dsimp only
  split
  · split
    · exact transferPending_kept raised
    · exact startTransfer_kept raised
  · exact .ite (enterDark_kept h) (fallBack_kept h)

theorem verify_kept {p : Port} {r : Result} {a b : List (BitVec 16)} (h : Kept s t) : Kept s (verify p r a b t) :=
  .ite (transferPending_kept (modSign_kept (endTransfer_kept h) ⟨rfl, rfl⟩))
    (escalate_kept (modSign_kept h ⟨rfl, rfl⟩))

theorem answered_kept {p : Port} (h : Kept s t) : Kept s (answered p t) := modSign_kept h ⟨rfl, rfl⟩

theorem signReady_kept {p : Port} (h : Kept s t) : Kept s (signReady p t) := by
  unfold signReady
  split
  · split
    · exact sendRows_kept (answered_kept h)
    · exact h
  · exact h

theorem signBusy_kept {p : Port} (h : Kept s t) : Kept s (signBusy p t) := by
  unfold signBusy
  split
  · split
    · exact modSign_kept (answered_kept h) ⟨rfl, rfl⟩
    · exact h
  · exact h

theorem signRowsTaken_kept {p : Port} {pic : Pic} (h : Kept s t) : Kept s (signRowsTaken p pic t) := by
  unfold signRowsTaken
  split
  · exact .ite (.ite (sendOffer_kept (answered_kept h)) (sendSwitch_kept (answered_kept h))) h
  · exact h

theorem signShown_kept {p : Port} {pic : Pic} {cs : List (BitVec 16)} (h : Kept s t) : Kept s (signShown p pic cs t) := by
  have taken := answered_kept (p := p) h
  unfold signShown
  split
  · exact .ite (.ite (modSign_kept taken ⟨rfl, rfl⟩) (.ite (verify_kept taken) (verify_kept taken))) h
  · exact h

theorem signRetry_kept {p : Port} (h : Kept s t) : Kept s (signRetry p t) := by
  unfold signRetry
  split
  · split
    · exact sendOffer_kept (reach_kept h)
    · exact h
  · exact h

theorem resendStep_kept {p : Port} {x : Transfer} (h : Kept s t) : Kept s (resendStep p x t) := by
  unfold resendStep
  split
  · exact sendOffer_kept h
  · exact sendRows_kept h
  · exact sendSwitch_kept h
  · exact h

theorem restoreSign_kept {p : Port} (h : Kept s t) : Kept s (restoreSign p t) :=
  trySelected_kept (modSign_kept (endTransfer_kept h) ⟨rfl, rfl⟩)

theorem evaluateBrightness_kept {a : Int} (h : Kept s t) : Kept s (evaluateBrightness a t) :=
  .ite h (.ite (forPorts_kept (fun _ h => .ite (sendService_kept h) h) (setBrightness_kept h)) (setBrightness_kept h))

/-! ### Claims lists (R141) -/

/-- The number of a claim source: REST, the centre, then the response entries. -/
def ClaimSource.number : ClaimSource → Fin 18
  | .rest => 0
  | .centre => 1
  | .response k => ⟨k.val + 2, by omega⟩

theorem ClaimSource.number_injective : ∀ {a b : ClaimSource}, a.number = b.number → a = b
  | .rest, .rest, _ | .centre, .centre, _ => rfl
  | .response j, .response k, e => by
    have : j.val + 2 = k.val + 2 := Fin.mk.inj e
    rw [Fin.ext (by omega : j.val = k.val)]
  | .rest, .response k, e | .response k, .rest, e | .centre, .response k, e | .response k, .centre, e => by
    have := Fin.val_eq_of_eq e
    simp only [ClaimSource.number, Fin.val_zero, Fin.val_one] at this
    omega

/-- A list that holds each source once at the most holds 18 claims at the most. -/
theorem claims_length {claims : List PageClaim} (h : (claims.map (fun c => c.source)).Nodup) : claims.length ≤ 18 := by
  have numbers : (claims.map (fun c => c.source.number)).Nodup := by
    refine List.pairwise_map.mpr ((List.pairwise_map.mp h).imp fun ne e => ne (ClaimSource.number_injective e))
  have within : (claims.map (fun c => c.source.number)).length ≤ (List.finRange 18).length :=
    List.Nodup.length_le_of_subset numbers fun x _ => List.mem_finRange x
  rwa [List.length_map, List.length_finRange] at within

/-- R141: an advance of the entry-order count leaves every order less than half the range behind it. -/
theorem advanceOrder_window {count : BitVec 16} {orders : List (BitVec 16)} (few : orders.length < 32768)
    (window : ∀ o ∈ orders, (count - o).toNat < 32768) :
    ∀ o ∈ orders, ((advanceOrder count orders).2 - (advanceOrder count orders).1 o).toNat < 32768 := by
  intro o ho
  unfold advanceOrder
  split
  · have : orders.countP (fun o' => isBefore o' o) ≤ orders.length := List.countP_le_length
    simp only [BitVec.toNat_sub, BitVec.toNat_ofNat]
    omega
  · next none =>
    have near := window o ho
    have : count + 1 - o ≠ 32768 := fun e => none (List.any_eq_true.mpr ⟨o, ho, decide_eq_true e⟩)
    simp only [id_eq]
    bv_omega

/-- A claims list is in order, apart from the response table. -/
structure Sign.ListInOrder (g : Sign) : Prop where
  rest : ∃ o, g.claims.filter (fun c => decide (c.source = .rest)) = [⟨.rest, 0, 0, o⟩]
  once : (g.claims.map (fun c => c.source)).Nodup
  priority : ∀ c ∈ g.claims, c.source ≠ .rest → 1 ≤ c.priority ∧ c.priority ≤ 7
  order : ∀ c ∈ g.claims, (g.claimCount - c.order).toNat < 32768

theorem ClaimsInOrder.list (h : ClaimsInOrder s) (p : Port) : s.signs[p].ListInOrder :=
  ⟨h.rest p, h.once p, h.priority p, h.order p⟩

theorem ClaimsInOrder.of (lists : ∀ p : Port, s.signs[p].ListInOrder)
    (response : ∀ p : Port, ∀ k : Fin 16, ∀ c ∈ s.signs[p].claims, c.source = .response k →
      s.responses[k].enable = true ∧ s.responses[k].claim ≠ .idle)
    (entry : ∀ k : Fin 16, 1 ≤ s.responses[k].priority ∧ s.responses[k].priority ≤ 7) : ClaimsInOrder s :=
  ⟨fun p => (lists p).rest, fun p => (lists p).once, fun p => (lists p).priority, response, entry,
    fun p => (lists p).order⟩

theorem withoutClaim_listInOrder {source : ClaimSource} {g : Sign} (hsrc : source ≠ .rest) (h : g.ListInOrder) :
    (withoutClaim source g).ListInOrder where
  rest := by
    obtain ⟨o, e⟩ := h.rest
    refine ⟨o, ?_⟩
    rw [← e]
    simp only [withoutClaim, List.filter_filter]
    refine List.filter_congr fun c _ => ?_
    by_cases hc : c.source = .rest <;> simp [hc, Ne.symm hsrc]
  once := (h.once.sublist (List.Sublist.map _ List.filter_sublist) : _)
  priority c hc := h.priority c (List.mem_filter.mp hc).1
  order c hc := h.order c (List.mem_filter.mp hc).1

/-- R141: a list with one claim placed or renewed holds the others, with their orders as advanced, and the new one. -/
theorem withClaim_claims (source : ClaimSource) (page : Fin 8) (priority : Nat) (g : Sign) :
    (withClaim source page priority g).claims =
      (g.claims.filter (fun c => decide (c.source ≠ source))).map (fun c =>
        { c with order := (advanceOrder g.claimCount (g.claims.map (fun c => c.order))).1 c.order }) ++
      [⟨source, page, priority, (withClaim source page priority g).claimCount⟩] := by
  simp only [withClaim, List.filter_map]
  rfl

theorem mem_withClaim {source : ClaimSource} {page : Fin 8} {priority : Nat} {g : Sign} {c : PageClaim}
    (hc : c ∈ (withClaim source page priority g).claims) :
    (∃ x ∈ g.claims, c = { x with order := (advanceOrder g.claimCount (g.claims.map (fun c => c.order))).1 x.order }) ∨
      c = ⟨source, page, priority, (withClaim source page priority g).claimCount⟩ := by
  rw [withClaim_claims, List.mem_append, List.mem_map, List.mem_singleton] at hc
  exact hc.imp_left fun ⟨x, hx, e⟩ => ⟨x, (List.mem_filter.mp hx).1, e.symm⟩

theorem withClaim_listInOrder {source : ClaimSource} {page : Fin 8} {priority : Nat} {g : Sign} (hsrc : source ≠ .rest)
    (hp : 1 ≤ priority ∧ priority ≤ 7) (h : g.ListInOrder) : (withClaim source page priority g).ListInOrder where
  rest := by
    obtain ⟨o, e⟩ := (withoutClaim_listInOrder hsrc h).rest
    refine ⟨(advanceOrder g.claimCount (g.claims.map (fun c => c.order))).1 o, ?_⟩
    rw [withClaim_claims, List.filter_append, List.filter_map]
    have e : (g.claims.filter (fun c => decide (c.source ≠ source))).filter (fun c => decide (c.source = .rest)) =
      [⟨.rest, 0, 0, o⟩] := e
    simp only [Function.comp_def, e, List.map_cons, List.map_nil]
    simp [hsrc]
  once := by
    have others := (withoutClaim_listInOrder hsrc h).once
    rw [withClaim_claims, List.map_append, List.map_map]
    refine List.nodup_append.mpr ⟨others, by simp, fun x hx y hy e => ?_⟩
    obtain ⟨c, mem, rfl⟩ := List.mem_map.mp hx
    exact of_decide_eq_true (List.mem_filter.mp mem).2 (e.trans (List.mem_singleton.mp hy))
  priority c hc hne := by
    rcases mem_withClaim hc with ⟨x, hx, rfl⟩ | rfl
    · exact h.priority x hx hne
    · exact hp
  order c hc := by
    rcases mem_withClaim hc with ⟨x, hx, rfl⟩ | rfl
    · refine advanceOrder_window ?_ (fun o ho => ?_) x.order (List.mem_map_of_mem hx)
      · rw [List.length_map]
        exact Nat.lt_of_le_of_lt (claims_length h.once) (by decide)
      · obtain ⟨y, hy, rfl⟩ := List.mem_map.mp ho
        exact h.order y hy
    · simp

/-- A change of one port's list keeps the order, if it keeps the list's own order and each response claim that it leaves or
places is of an enabled entry that is not IDLE. -/
theorem ClaimsInOrder.modSign (h : ClaimsInOrder s) {p : Port} {f : Sign → Sign}
    (list : s.signs[p].ListInOrder → (f s.signs[p]).ListInOrder)
    (response : ∀ (k : Fin 16), ∀ c ∈ (f s.signs[p]).claims, c.source = .response k →
      s.responses[k].enable = true ∧ s.responses[k].claim ≠ .idle) : ClaimsInOrder (modSign p f s) := by
  have get (q : Port) : (Machine.modSign p f s).signs[q] = if q = p then f s.signs[p] else s.signs[q] := by
    split
    · next e => subst e; exact vector_get_set ..
    · next e => exact vector_get_set_ne _ _ _ _ e
  refine .of (fun q => ?_) (fun q k => ?_) h.entry
  · rw [get]
    split
    · exact list (h.list p)
    · exact h.list q
  · rw [get]
    split
    · exact response k
    · exact h.response q k

theorem placeClaim_kept {p : Port} {source : ClaimSource} {page : Fin 8} {priority : Nat} (h : Kept s t)
    (hsrc : source ≠ .rest) (hp : ClaimsInOrder t → 1 ≤ priority ∧ priority ≤ 7)
    (live : ∀ k, source = .response k → t.responses[k].enable = true ∧ t.responses[k].claim ≠ .idle) :
    Kept s (placeClaim p source page priority t) :=
  changeClaims_kept h fun c => c.modSign (withClaim_listInOrder hsrc (hp c)) fun k x hx ex => by
    rcases mem_withClaim hx with ⟨y, hy, rfl⟩ | rfl
    · exact c.response p k y hy ex
    · exact live k ex

theorem removeClaim_kept {p : Port} {source : ClaimSource} (h : Kept s t) (hsrc : source ≠ .rest) :
    Kept s (removeClaim p source t) :=
  changeClaims_kept h fun c => c.modSign (withoutClaim_listInOrder hsrc) fun k x hx =>
    c.response p k x (List.mem_filter.mp hx).1

/-! ### The response table (R144 to R148) -/

theorem modResponse_get (k j : Fin 16) (f : Response → Response) (s : State) :
    (modResponse k f s).responses[j] = if j = k then f s.responses[k] else s.responses[j] := by
  split
  · next e => subst e; exact vector_get_set ..
  · next e => exact vector_get_set_ne _ _ _ _ e

/-- A response entry that keeps its priority in range, and stays enabled and not IDLE if it was. -/
theorem modResponse_kept {k : Fin 16} {f : Response → Response} (h : Kept s t)
    (priority : 1 ≤ t.responses[k].priority ∧ t.responses[k].priority ≤ 7 →
      1 ≤ (f t.responses[k]).priority ∧ (f t.responses[k]).priority ≤ 7)
    (live : t.responses[k].enable = true ∧ t.responses[k].claim ≠ .idle →
      (f t.responses[k]).enable = true ∧ (f t.responses[k]).claim ≠ .idle) : Kept s (modResponse k f t) :=
  setResponses_kept h fun c => .of c.list
    (fun p j x hx ex => by
      have old := c.response p j x hx ex
      change ((Machine.modResponse k f t).responses[j]).enable = true ∧ ((Machine.modResponse k f t).responses[j]).claim ≠ _
      rw [modResponse_get]
      split
      · next hj => subst hj; exact live old
      · exact old)
    (fun j => by
      change 1 ≤ ((Machine.modResponse k f t).responses[j]).priority ∧ ((Machine.modResponse k f t).responses[j]).priority ≤ 7
      rw [modResponse_get]
      split
      · exact priority (c.entry k)
      · exact c.entry j)

/-- The entries of the response table through the placing of claims. -/
theorem placeClaim_responses (p : Port) (source : ClaimSource) (page : Fin 8) (priority : Nat) (s : State) :
    (placeClaim p source page priority s).responses = s.responses :=
  (placeClaim_keeps p source page priority s).same .responses (by decide)

theorem removeClaims_responses (k : Fin 16) (s : State) : (removeClaims k s).responses = s.responses :=
  (removeClaims_keeps k s).same .responses (by decide)

theorem placeClaims_kept {k : Fin 16} (h : Kept s t) (live : t.responses[k].enable = true ∧ t.responses[k].claim ≠ .idle) :
    Kept s (placeClaims k t) := by
  have one {u : State} (p : Port) (hu : Kept s u ∧ u.responses = t.responses) :
      Kept s (if inMask u.responses[k].mask p && decide (u.profile p = .sign) then
        placeClaim p (.response k) u.responses[k].page u.responses[k].priority u else u) ∧
      (if inMask u.responses[k].mask p && decide (u.profile p = .sign) then
        placeClaim p (.response k) u.responses[k].page u.responses[k].priority u else u).responses = t.responses := by
    split
    · refine ⟨placeClaim_kept hu.1 (by simp) (fun c => c.entry k) fun j e => ?_, (placeClaim_responses ..).trans hu.2⟩
      cases e
      rw [hu.2]
      exact live
    · exact hu
  exact (one 3 (one 2 (one 1 (one 0 ⟨h, rfl⟩)))).1

theorem port_cases : ∀ p : Port, p = 0 ∨ p = 1 ∨ p = 2 ∨ p = 3 := by decide

/-- R147: every list without the claims of an entry; the other claims stay. -/
theorem removeClaims_claims (k : Fin 16) (s : State) (p : Port) :
    (removeClaims k s).signs[p].claims = (withoutClaim (.response k) s.signs[p]).claims := by
  simp only [removeClaims, forPorts, removeClaim, changeClaims_claims, withoutClaim]
  rcases port_cases p with rfl | rfl | rfl | rfl <;> simp

theorem removeClaims_claimCount (k : Fin 16) (s : State) (p : Port) :
    (removeClaims k s).signs[p].claimCount = s.signs[p].claimCount := by
  simp only [removeClaims, forPorts, removeClaim, changeClaims_claimCount, withoutClaim]
  rcases port_cases p with rfl | rfl | rfl | rfl <;> simp

theorem removeClaims_kept {k : Fin 16} (h : Kept s t) : Kept s (removeClaims k t) :=
  forPorts_kept (fun _ h => removeClaim_kept h (by simp)) h

/-- R147, R148: an entry that becomes IDLE, with its claims removed from every list. -/
theorem retire_kept {k : Fin 16} {f : Response → Response} (h : Kept s t)
    (priority : (f t.responses[k]).priority = t.responses[k].priority) :
    Kept s (removeClaims k (modResponse k f t)) := by
  have r := removeClaims_kept (k := k) (Kept.refl (modResponse k f t))
  refine
    { r with
      pending := r.pending.trans h.pending, straps := r.straps.trans h.straps, phase := r.phase.trans h.phase
      bounds := fun b => r.bounds { h.bounds b with }, store := fun b => r.store (h.store b)
      tables := fun c => r.tables { h.tables c with }
      lines := r.lines.trans h.lines, transit := fun l => (r.transit l).trans (h.transit l)
      ring := by rw [r.ring, show (modResponse k f t).ring = t.ring from rfl, h.ring]
      sending := fun p e => r.sending p (h.sending p e)
      delivery := r.delivery.trans h.delivery, deliveryDrops := r.deliveryDrops.trans h.deliveryDrops
      claims := fun c => ?_ }
  have c := h.claims c
  have list (p : Port) : (withoutClaim (.response k) t.signs[p]).ListInOrder :=
    withoutClaim_listInOrder (by simp) (c.list p)
  have claims (p : Port) := removeClaims_claims k (modResponse k f t) p
  have count (p : Port) := removeClaims_claimCount k (modResponse k f t) p
  refine .of (fun p => ?_) (fun p j x hx ex => ?_) (fun j => ?_)
  · obtain ⟨rest, once, prio, order⟩ := list p
    constructor
    · rw [claims]; exact rest
    · rw [claims]; exact once
    · rw [claims]; exact prio
    · rw [claims, count]; exact order
  · rw [claims] at hx
    obtain ⟨hx, ne⟩ := List.mem_filter.mp hx
    have hj : j ≠ k := fun hj => of_decide_eq_true ne (hj ▸ ex)
    rw [removeClaims_responses, modResponse_get, if_neg hj]
    exact c.response p j x hx ex
  · rw [removeClaims_responses, modResponse_get]
    split
    · rw [priority]; exact c.entry k
    · exact c.entry j

theorem levelStep_kept {k : Fin 16} {v : Bool} (h : Kept s t) (enable : t.responses[k].enable = true) :
    Kept s (levelStep k v t) := by
  have get {f : Response → Response} : (modResponse k f t).responses[k] = f t.responses[k] := by
    rw [modResponse_get, if_pos rfl]
  unfold levelStep
  split
  · refine placeClaims_kept (modResponse_kept h id fun c => ⟨c.1, by simp⟩) ?_
    rw [get]
    exact ⟨enable, by simp⟩
  · exact modResponse_kept h id fun c => ⟨c.1, by simp⟩
  · split
    · exact retire_kept h rfl
    · exact modResponse_kept h id fun c => ⟨c.1, by simp⟩
  · exact h

theorem latchStep_kept {k : Fin 16} {v : Bool} (h : Kept s t) (enable : t.responses[k].enable = true) :
    Kept s (latchStep k v t) := by
  unfold latchStep
  split
  · refine placeClaims_kept (modResponse_kept h id fun c => ⟨c.1, by simp⟩) ?_
    rw [modResponse_get, if_pos rfl]
    exact ⟨enable, by simp⟩
  · exact h

theorem respondEntry_kept {k : Fin 16} (h : Kept s t) : Kept s (respondEntry t k) := by
  have valued : Kept s (modResponse k
      (fun e => { e with value := conditionValue t t.responses[k].condition }) t) := modResponse_kept h id id
  unfold respondEntry
  dsimp only
  split
  · exact h
  · split
    · next enable =>
      split
      · exact latchStep_kept valued (by rw [modResponse_get, if_pos rfl]; exact enable)
      · exact levelStep_kept valued (by rw [modResponse_get, if_pos rfl]; exact enable)
    · exact valued

theorem respond_kept (h : Kept s t) : Kept s (respond t) := foldl_kept (fun _ h => respondEntry_kept h) h

theorem claimAtOnce_kept {k : Fin 16} (h : Kept s t) : Kept s (claimAtOnce k t) := by
  unfold claimAtOnce
  split
  · next e =>
    refine placeClaims_kept (modResponse_kept h id fun c => ⟨c.1, ?_⟩) ?_
    · dsimp only; split <;> simp
    · rw [modResponse_get, if_pos rfl]
      refine ⟨(Bool.and_eq_true_iff.mp e).1, ?_⟩
      dsimp only; split <;> simp
  · exact h

/-- R144: an entry without claims takes any parameters whose priority is in range. -/
theorem replaceResponse_kept {k : Fin 16} {e : Response} (h : Kept s t) (priority : 1 ≤ e.priority ∧ e.priority ≤ 7)
    (absent : ∀ p : Port, ∀ c ∈ t.signs[p].claims, c.source ≠ .response k) : Kept s (modResponse k (fun _ => e) t) :=
  setResponses_kept h fun c => .of c.list
    (fun p j x hx ex => by
      have hj : j ≠ k := fun hj => absent p x hx (hj ▸ ex)
      change ((Machine.modResponse k (fun _ => e) t).responses[j]).enable = true ∧
        ((Machine.modResponse k (fun _ => e) t).responses[j]).claim ≠ _
      rw [modResponse_get, if_neg hj]
      exact c.response p j x hx ex)
    (fun j => by
      change 1 ≤ ((Machine.modResponse k (fun _ => e) t).responses[j]).priority ∧
        ((Machine.modResponse k (fun _ => e) t).responses[j]).priority ≤ 7
      rw [modResponse_get]
      split
      · exact priority
      · exact c.entry j)

theorem setResponse_kept {q : ResponseParams} (h : Kept s t) : Kept s (setResponse q t) := by
  unfold setResponse
  split
  · exact reject_kept h
  · split
    · next good =>
      simp only [responseGood, decide_eq_true_eq] at good
      obtain ⟨-, -, low, high, -⟩ := good
      refine claimAtOnce_kept (replaceResponse_kept (retire_kept h rfl) ⟨low, high⟩ fun p c hc => ?_)
      rw [removeClaims_claims] at hc
      exact of_decide_eq_true (List.mem_filter.mp hc).2
    · exact reject_kept h

theorem clearEntry_kept {k : Fin 16} (h : Kept s t) : Kept s (clearEntry t k) := .ite (retire_kept h rfl) h

theorem clearResponses_kept {index : Byte} (h : Kept s t) : Kept s (clearResponses index t) :=
  .ite (foldl_kept (fun _ h => clearEntry_kept h) h) (.ite (clearEntry_kept h) (reject_kept h))

theorem lingerExpired_kept {k : Fin 16} (h : Kept s t) : Kept s (lingerExpired k t) := by
  unfold lingerExpired
  split
  · exact .ite (retire_kept (reach_kept h) rfl) h
  · exact h

end Sys2Proof.Machine
end

section
/-! PROOFS. `Kept` for the call unit (chapter 4), the toll unit (chapter 5) and the weather unit (chapter 9). -/

namespace Sys2Proof.Machine

variable {s t u : State}

/-- The state of an operation that also gives a flag. -/
theorem kept_of_pair {α : Type} {x : State × α} {b : α} (h : Kept s x.1) (e : x = (u, b)) : Kept s u := by
  subst e
  exact h

/-! ### The call unit -/

theorem setCircuit_kept {c : Fin 16} {e : Circuit} (h : Kept s t) : Kept s (setCircuit c e t) :=
  respond_kept (setCall_kept_of_same h)

theorem enterRemote_kept {c : Fin 16} {station prio : Nat} {port : Port} (h : Kept s t) :
    Kept s (enterRemote c station port prio t) := respond_kept (setCall_kept_of_same h)

theorem setRemote_kept {c : Fin 16} {station prio : Nat} {port : Port} (h : Kept s t) :
    Kept s (setRemote c station port prio t) := by
  unfold setRemote
  split
  · exact .ite (setCircuit_kept h) (enterRemote_kept h)
  · exact enterRemote_kept h

theorem joinRequest_kept {p : Port} {prio : Nat} (h : Kept s t) : Kept s (joinRequest p prio t) := setCall_kept_of_same h

theorem leaveRequest_kept {p : Port} (h : Kept s t) : Kept s (leaveRequest p t) := setCall_kept_of_same h

theorem raiseRequest_kept {p : Port} {prio : Nat} (h : Kept s t) : Kept s (raiseRequest p prio t) := by
  unfold raiseRequest
  split
  · exact h
  · exact setCall_kept_of_same h

theorem failPort_kept {p : Port} (h : Kept s t) : Kept s (failPort p t) :=
  modPhone_kept h fun _ b => by split <;> exact b

theorem sendClaim_kept {r : Request} {centre : Nat} {c : Fin 16} {preempt : Bool} (h : Kept s t) :
    Kept s (sendClaim r centre c preempt t).1 := by
  have counted : Kept s (t.setCall { t.call with claimCounter := t.call.claimCounter + 1 }) := setCall_kept_of_same h
  unfold sendClaim
  dsimp only
  split
  · next e => exact kept_of_pair (offer_kept counted) e
  · next e =>
    have claiming := modPhone_kept (p := r.port) (f := fun ph =>
      { ph with state := .claiming, circuit := some c, target := some centre })
      (kept_of_pair (offer_kept counted) e) fun _ => id
    dsimp only
    exact setCircuit_kept (setCall_kept_of_same claiming)

theorem claimTests_kept {k : Nat} (h : Kept s t) : Kept s (claimTests k t) := by
  induction k generalizing t with
  | zero => exact h
  | succ k ih =>
    unfold claimTests
    split
    · exact h
    · split
      · exact h
      · split
        · next e => exact kept_of_pair (sendClaim_kept h) e
        · next e => exact ih (failPort_kept (kept_of_pair (sendClaim_kept h) e))

theorem testClaim_kept (h : Kept s t) : Kept s (testClaim t) := claimTests_kept h

theorem avoidCircuit_kept {p : Port} {beaten : Option (Fin 16)} (h : Kept s t) : Kept s (avoidCircuit p beaten t) := by
  unfold avoidCircuit
  split
  · exact modPhone_kept h fun _ => id
  · exact h

theorem failAttempt_kept {a : Attempt} {beaten : Option (Fin 16)} (h : Kept s t) : Kept s (failAttempt a beaten t) :=
  have ended : Kept s (t.setCall { t.call with attempt := none }) := setCall_kept_of_same h
  have avoided := avoidCircuit_kept (p := a.port) (beaten := beaten) (.ite (setCircuit_kept ended) ended)
  testClaim_kept (.ite avoided (failPort_kept avoided))

theorem withdrawClaim_kept {a : Attempt} (h : Kept s t) : Kept s (withdrawClaim a t).1 := withdrawC_kept h

theorem attemptExpired_kept (h : Kept s t) : Kept s (attemptExpired t) := by
  unfold attemptExpired
  split
  · exact h
  · exact failAttempt_kept (withdrawClaim_kept (reach_kept h))

theorem sendRelease_kept {c : Fin 16} {p : Port} (h : Kept s t) : Kept s (sendRelease c p t) :=
  setCircuit_kept (offerCounted_kept h)

theorem loseCall_kept {p : Port} {reason : CallReason} (h : Kept s t) : Kept s (loseCall p reason t) :=
  .ite (modPhone_kept h fun _ _ => Nat.zero_le _) (joinRequest_kept (modPhone_kept h fun _ _ => Nat.zero_le _))

theorem loseTarget_kept {station : Nat} {c : Fin 16} (h : Kept s t) : Kept s (loseTarget station t c) := by
  unfold loseTarget
  split
  · have lost {p : Port} := loseCall_kept (p := p) (reason := .reconnecting) (sendRelease_kept (c := c) (p := p) h)
    exact .ite (.ite lost (modPhone_kept lost fun _ => id)) h
  · exact h

theorem targetRemoved_kept {station : Nat} (h : Kept s t) : Kept s (targetRemoved station t) :=
  testClaim_kept (foldl_kept (fun _ h => loseTarget_kept h) h)

theorem hangUpAttempt_kept {p : Port} (h : Kept s t) : Kept s (hangUpAttempt p t) := by
  unfold hangUpAttempt
  split
  · exact h
  · split
    · split
      · next e => exact setCircuit_kept (setCall_kept_of_same (kept_of_pair (withdrawClaim_kept h) e))
      · next e => exact setCall_kept_of_same (kept_of_pair (withdrawClaim_kept h) e)
    · exact h

theorem releaseHeld_kept {p : Port} (h : Kept s t) : Kept s (releaseHeld p t) := by
  unfold releaseHeld
  split
  · exact sendRelease_kept h
  · exact h

theorem endCall_kept {p : Port} (h : Kept s t) : Kept s (endCall p t) := by
  refine testClaim_kept (modPhone_kept ?_ fun _ _ => Nat.zero_le _)
  split
  · exact h
  · exact leaveRequest_kept h
  · exact leaveRequest_kept h
  · exact hangUpAttempt_kept (leaveRequest_kept h)
  · exact releaseHeld_kept h
  · exact releaseHeld_kept h

theorem settlePort_kept {p : Port} (h : Kept s t) : Kept s (settlePort p t) :=
  .ite (sendService_kept (modPhone_kept h fun _ => id)) h

theorem settle_kept (h : Kept s t) : Kept s (settle t) := forPorts_kept (fun _ h => settlePort_kept h) h

theorem phoneLinkUp_kept {p : Port} (h : Kept s t) : Kept s (phoneLinkUp p t) := sendService_kept (modPhone_kept h fun _ => id)

theorem newRequest_kept {p : Port} {prio : Nat} {ring : Bool} (h : Kept s t) : Kept s (newRequest p prio ring t) :=
  testClaim_kept (joinRequest_kept (modPhone_kept h fun _ => id))

theorem liftRequest_kept {p : Port} {prio : Nat} (h : Kept s t) : Kept s (liftRequest p prio t) :=
  have lifted : Kept s (modPhone p (fun ph => { ph with ringFlag := false }) t) := modPhone_kept h fun _ => id
  .ite (testClaim_kept (raiseRequest_kept (modPhone_kept lifted fun _ => id))) lifted

theorem phoneOffHook_kept {p : Port} {key : Key} (h : Kept s t) : Kept s (phoneOffHook p key t) := by
  refine .ite ?_ h
  split
  · exact newRequest_kept h
  · exact liftRequest_kept h
  · exact liftRequest_kept h
  · exact liftRequest_kept h
  · exact h
  · exact h

theorem phoneOnHook_kept {p : Port} (h : Kept s t) : Kept s (phoneOnHook p t) := .ite (endCall_kept h) h

theorem phoneAnswer_kept {p : Port} (h : Kept s t) : Kept s (phoneAnswer p t) :=
  .ite (modPhone_kept h fun _ _ => Nat.zero_le _) h

theorem phoneSamples_kept {p : Port} {voice : List Byte} (h : Kept s t) : Kept s (phoneSamples p voice t) := by
  unfold phoneSamples
  split
  · exact modPhone_kept (offerCounted_kept h) fun _ => id
  · exact h

theorem callPhoneOn_kept {prio : Byte} {p : Port} (h : Kept s t) : Kept s (callPhoneOn prio p t) :=
  .ite (reject_kept h) (.ite (reject_kept h) (settle_kept (newRequest_kept h)))

theorem ringingExpired_kept {p : Port} (h : Kept s t) : Kept s (ringingExpired p t) := by
  unfold ringingExpired
  split
  · exact .ite (testClaim_kept (modPhone_kept (releaseHeld_kept (reach_kept h)) fun _ _ => Nat.zero_le _)) h
  · exact h

theorem backoffExpired_kept {p : Port} (h : Kept s t) : Kept s (backoffExpired p t) := by
  unfold backoffExpired
  split
  · exact .ite (testClaim_kept (modPhone_kept (reach_kept h) fun _ => id)) h
  · exact h

theorem claimCopied_kept {source : Nat} {cl : Claim} (h : Kept s t) : Kept s (claimCopied source cl t).1 := by
  have remote := setRemote_kept (c := cl.circuit) (station := source) (port := cl.port) (prio := cl.priority) h
  unfold claimCopied
  split
  · exact h
  · split
    · split
      · dsimp only
        split
        · exact testClaim_kept remote
        · split
          · next e => exact failAttempt_kept (kept_of_pair (withdrawClaim_kept remote) e)
          · next e => exact testClaim_kept (kept_of_pair (withdrawClaim_kept remote) e)
      · exact h
    · split
      · exact testClaim_kept (loseCall_kept remote)
      · exact h
    · exact testClaim_kept remote
    · split
      · exact testClaim_kept remote
      · exact h

theorem holdListed_kept {source : Nat} {x : Fin 16 × Nat × Port} (h : Kept s t) : Kept s (holdListed source t x) := by
  unfold holdListed
  split
  · exact setRemote_kept h
  · exact .ite (setRemote_kept h) h
  · exact h
  · exact .ite (loseCall_kept (setRemote_kept h)) h

theorem holdCopied_kept {source : Nat} {held : List (Fin 16 × Nat × Port)} (h : Kept s t) :
    Kept s (holdCopied source held t) := .ite (testClaim_kept (foldl_kept (fun _ h => holdListed_kept h) h)) h

theorem releaseCopied_kept {source : Nat} {c : Fin 16} {port : Port} (h : Kept s t) :
    Kept s (releaseCopied source c port t) := by
  refine .ite ?_ h
  split
  · exact .ite (testClaim_kept (setCircuit_kept h)) h
  · exact h

theorem remoteExpired_kept {c : Fin 16} (h : Kept s t) : Kept s (remoteExpired c t) := by
  unfold remoteExpired
  split
  · exact testClaim_kept (setCircuit_kept (reach_kept h))
  · exact h

theorem claimWon_kept {a : Attempt} {c : Fin 16} (h : Kept s t) : Kept s (claimWon a c t) := by
  have ended : Kept s (t.setCall { t.call with attempt := none }) := setCall_kept_of_same h
  unfold claimWon
  dsimp only
  split
  · exact testClaim_kept (sendRelease_kept ended)
  · refine testClaim_kept (modPhone_kept (leaveRequest_kept (setCircuit_kept ended)) fun ph b => ?_)
    split
    · exact b
    · exact Nat.zero_le _

theorem claimReturned_kept {cl : Claim} (h : Kept s t) : Kept s (claimReturned cl t) := by
  unfold claimReturned
  split
  · exact h
  · exact .ite (.ite (failAttempt_kept h) (.ite (.ite (claimWon_kept h) (failAttempt_kept (sendRelease_kept h)))
      (failAttempt_kept h))) h

theorem holdPeriodEnds_kept (h : Kept s t) : Kept s (holdPeriodEnds t) := by
  unfold holdPeriodEnds
  split
  · exact h
  · next d _ =>
    have again : Kept s ((reach d t).setCall { (reach d t).call with holdAt := some (d + Config.holdTime) }) :=
      setCall_kept_of_same (reach_kept h)
    exact .ite (.ite again (offerCounted_kept again)) h

theorem playout_ite {c : Prop} [Decidable c] {x y : Phone} {n : Nat} (hx : x.playout.length ≤ n)
    (hy : y.playout.length ≤ n) : (if c then x else y).playout.length ≤ n := by
  split
  · exact hx
  · exact hy

/-- R83: a playout queue holds 8 cells at the most. -/
theorem takeVoice_playout {seq : BitVec 8} {voice : List Byte} {ph : Phone} (h : ph.playout.length ≤ 8) :
    (takeVoice seq voice ph).playout.length ≤ 8 := by
  refine playout_ite h ?_
  split
  · next room => exact Nat.le_trans (Nat.le_of_eq List.length_append) room
  · simp only [List.length_append, List.length_drop, List.length_singleton]
    omega

theorem voiceDelivered_kept {source : Nat} {c : Fin 16} {seq : BitVec 8} {voice : List Byte} (h : Kept s t) :
    Kept s (voiceDelivered source c seq voice t) := by
  unfold voiceDelivered
  split
  · exact modPhone_kept h fun _ => takeVoice_playout
  · exact h

theorem playNext_playout (ph : Phone) : (playNext ph).2.playout.length ≤ ph.playout.length := by
  unfold playNext
  split
  · next e => rw [e]; exact Nat.le_succ _
  · exact Nat.le_refl _
  · next e =>
    split
    · rw [e]; exact Nat.le_succ _
    · exact Nat.le_refl _
  · exact Nat.le_refl _

theorem playoutExpired_kept {p : Port} (h : Kept s t) : Kept s (playoutExpired p t) := by
  unfold playoutExpired
  split
  · exact h
  · exact .ite (sendService_kept (modPhone_kept_at (reach_kept h) (Nat.le_trans (playNext_playout _)))) h

theorem freeOwn_kept {c : Fin 16} (h : Kept s t) : Kept s (freeOwn t c) := by
  unfold freeOwn
  split
  · exact setCircuit_kept h
  · exact setCircuit_kept h
  · exact h

theorem callMute_kept (h : Kept s t) : Kept s (callMute t) := by
  refine setCall_kept (foldl_kept (fun _ h => freeOwn_kept h) h) fun b => ⟨?_, fun p => ?_⟩
  · dsimp only
    exact b.1
  · simp [quietPhone]

theorem setFloor_kept {floor : Byte} (h : Kept s t) : Kept s (setFloor floor t) := by
  unfold setFloor
  split
  · next low => exact settle_kept (testClaim_kept (setCall_kept h fun b => ⟨low, b.2⟩))
  · exact reject_kept h

theorem phoneLinkLeft_kept {p : Port} (h : Kept s t) : Kept s (phoneLinkLeft p t) := .ite (settle_kept (endCall_kept h)) h

/-! ### The toll unit -/

theorem sentCount_allNew (j : List TollRecord) : sentCount (allNew j) = 0 := by
  simp [sentCount, allNew, TollRecord.isSent, List.countP_map]

theorem length_allNew (j : List TollRecord) : (allNew j).length = j.length := List.length_map ..

/-- R92: one more record SENT. -/
theorem sendOldest_counts {now : Time} {j j' : List TollRecord} {r : TollRecord} (h : sendOldest now j = some (r, j')) :
    j'.length = j.length ∧ sentCount j' = sentCount j + 1 := by
  induction j generalizing j' with
  | nil => cases h
  | cons x j ih =>
    unfold sendOldest at h
    split at h
    · next sent =>
      obtain ⟨⟨y, k⟩, hk, e⟩ := Option.map_eq_some_iff.mp h
      cases e
      obtain ⟨len, count⟩ := ih hk
      rw [sentCount, sentCount, List.countP_cons_of_pos sent, List.countP_cons_of_pos sent]
      exact ⟨congrArg (· + 1) len, congrArg (· + 1) count⟩
    · next new =>
      cases h
      rw [sentCount, sentCount, List.countP_cons_of_pos rfl, List.countP_cons_of_neg new]
      exact ⟨rfl, rfl⟩

theorem toGantry_kept {f : Frame} (h : Kept s t) : Kept s (toGantry f t) := by
  unfold toGantry
  split
  · exact sendService_kept h
  · exact h

theorem sendDelivered_kept (h : Kept s t) : Kept s (sendDelivered t) := by
  unfold sendDelivered
  split
  · exact toGantry_kept h
  · exact h

theorem sendRecord_kept (h : Kept s t) (wants : tollWants t = true) : Kept s (sendRecord t) := by
  unfold sendRecord
  split
  · next centre r j _ e =>
    have same : (offer kTollRec (natByte centre) (tollBodyBytes r.number r.body) t).1.toll = t.toll :=
      (offer_keeps ..).same .toll (by decide)
    refine setToll_kept (offer_kept h) fun b => ?_
    rw [same] at b
    obtain ⟨len, count⟩ := sendOldest_counts e
    have few : sentCount t.toll.journal < 16 := of_decide_eq_true (Bool.and_eq_true_iff.mp wants).2
    exact ⟨Nat.le_trans (Nat.le_of_eq len) b.1, Nat.le_trans (Nat.le_of_eq count) few⟩
  · exact h

theorem sendRecords_kept {k : Nat} (h : Kept s t) : Kept s (sendRecords k t) := by
  induction k generalizing t with
  | zero => exact h
  | succ k ih =>
    unfold sendRecords
    split
    · next e => exact ih (sendRecord_kept h (Bool.and_eq_true_iff.mp e).1)
    · exact h

theorem testSend_kept (h : Kept s t) : Kept s (testSend t) := sendRecords_kept h

theorem offerSync_kept (h : Kept s t) : Kept s (offerSync t) := by
  unfold offerSync
  split
  · exact offerCounted_kept h
  · exact h

/-- A toll unit with every record NEW is within its bounds when the journal was. -/
theorem TollUnit.Bounded.allNew {x y : TollUnit} (b : x.Bounded) (e : y.journal = Machine.allNew x.journal) :
    y.Bounded := by
  rw [TollUnit.Bounded, e, length_allNew, sentCount_allNew]
  exact ⟨b.1, Nat.zero_le _⟩

theorem enterSyncing_kept {centre : Nat} (h : Kept s t) : Kept s (enterSyncing centre t) :=
  offerSync_kept (setToll_kept h fun b => b.allNew rfl)

theorem resync_kept (h : Kept s t) : Kept s (resync t) := by
  unfold resync
  split
  · exact enterSyncing_kept h
  · exact h

theorem closeChannel_kept (h : Kept s t) : Kept s (closeChannel t) := setToll_kept h fun b => b.allNew rfl

theorem followTollCentre_kept (h : Kept s t) : Kept s (followTollCentre t) := by
  refine .ite ?_ h
  split
  · exact enterSyncing_kept h
  · exact .ite h (closeChannel_kept h)

theorem syncExpired_kept (h : Kept s t) : Kept s (syncExpired t) := by
  unfold syncExpired
  split
  · exact .ite (offerSync_kept (setToll_kept_of_same (reach_kept h) rfl)) h
  · exact h

theorem goBack_kept (h : Kept s t) : Kept s (goBack t) :=
  have back : Kept s (t.setToll { t.toll with journal := allNew t.toll.journal, expiries := t.toll.expiries + 1 }) :=
    setToll_kept h fun b => b.allNew rfl
  .ite (resync_kept back) (testSend_kept back)

theorem retransmit_kept (h : Kept s t) : Kept s (retransmit t) := by
  unfold retransmit
  split
  · exact .ite (goBack_kept (reach_kept h)) h
  · exact h

theorem strayAnswer_kept (h : Kept s t) : Kept s (strayAnswer t) := modTollCounters_kept h

theorem ackProgress_kept {o n : BitVec 16} (h : Kept s t) : Kept s (ackProgress o n t) := by
  refine testSend_kept (sendDelivered_kept (setToll_kept h fun b => ?_))
  have sub : (recordsBehind o n t.toll.journal).Sublist t.toll.journal := List.dropWhile_sublist _
  exact ⟨Nat.le_trans sub.length_le b.1, Nat.le_trans sub.countP_le b.2⟩

theorem plainAnswer_kept {n : BitVec 16} (h : Kept s t) : Kept s (plainAnswer n t) := by
  refine .ite (resync_kept (modTollCounters_kept h)) ?_
  split
  · exact h
  · exact .ite h (ackProgress_kept h)

theorem syncAnswer_kept {n : BitVec 16} (h : Kept s t) : Kept s (syncAnswer n t) :=
  .ite (testSend_kept (setToll_kept_of_same h)) h

theorem tollAck_kept {source : Nat} {answer : Byte} {n : BitVec 16} (h : Kept s t) :
    Kept s (tollAck source answer n t) := by
  refine .ite (strayAnswer_kept h) (.ite (strayAnswer_kept h) ?_)
  split
  · exact h
  · exact .ite (syncAnswer_kept h) h
  · exact .ite (plainAnswer_kept h) (.ite (resync_kept (modTollCounters_kept h)) h)

theorem takeRecord_kept {body : List Byte} (h : Kept s t) (room : t.toll.journal.length < 128) :
    Kept s (takeRecord body t) := by
  refine testSend_kept (toGantry_kept (setToll_kept h fun b => ⟨Nat.le_trans (Nat.le_of_eq List.length_append) room, ?_⟩))
  simpa [sentCount, TollRecord.isSent] using b.2

theorem recordBusy_kept (h : Kept s t) : Kept s (recordBusy t) := toGantry_kept (modTollCounters_kept h)

theorem tollRecordIn_kept {body : List Byte} (h : Kept s t) : Kept s (tollRecordIn body t) := by
  refine .ite (recordBusy_kept h) (.ite (toGantry_kept (modTollCounters_kept h)) ?_)
  split
  · next room => exact takeRecord_kept h room
  · exact recordBusy_kept h

theorem setExpected_kept {source : Nat} {e : Option (BitVec 16)} (h : Kept s t) : Kept s (setExpected source e t) :=
  setToll_kept_of_same h

theorem answerToll_kept {source : Nat} {answer : Byte} {n : BitVec 16} (h : Kept s t) :
    Kept s (answerToll source answer n t) := offerCounted_kept h

theorem tollSyncIn_kept {source : Nat} {start : BitVec 16} (h : Kept s t) : Kept s (tollSyncIn source start t) :=
  .ite (answerToll_kept (setExpected_kept h)) (strayAnswer_kept h)

theorem tollRecIn_lasts {source : Nat} {q : TollBody} (h : Lasts s t) : Lasts s (tollRecIn source q t) := by
  have answered {u : State} (k : Lasts s u) {answer : Byte} {n : BitVec 16} : Lasts s (answerToll source answer n u) :=
    k.step (answerToll_kept (.refl u))
  have counted {f : TollCounters → TollCounters} : Lasts s (modTollCounters f t) := h.step (modTollCounters_kept (.refl t))
  refine .ite ?_ counted
  split
  · exact answered h
  · exact .ite (.ite (answered ((placeDelivery_lasts h).step (setExpected_kept (.refl _)))) counted)
      (.ite (answered counted) (answered counted))

theorem downRefused_kept (h : Kept s t) : Kept s (downRefused t) := modTollCounters_kept h

theorem setDown_kept {i : Fin 2} {e : Option DownEntry} (h : Kept s t) : Kept s (setDown i e t) := setToll_kept_of_same h

theorem sendDown_kept {i : Fin 2} {centre : Nat} {q : TollBody} (h : Kept s t) : Kept s (sendDown i centre q t) :=
  toGantry_kept (setDown_kept h)

theorem downAgainst_kept {i : Fin 2} {centre : Nat} {x : BitVec 16} {q : TollBody} (h : Kept s t) :
    Kept s (downAgainst i centre x q t) :=
  .ite (sendDown_kept h) (.ite (modTollCounters_kept h) (sendDown_kept (toGantry_kept (modTollCounters_kept h))))

theorem downUndelivered_kept (h : Kept s t) : Kept s (downUndelivered t) := modTollCounters_kept h

theorem downAccepted_kept {p : Port} {centre : Nat} {q : TollBody} (h : Kept s t) :
    Kept s (downAccepted p centre q t) := by
  unfold downAccepted
  split
  · exact downRefused_kept h
  · exact .ite (sendDown_kept h) (downUndelivered_kept (setDown_kept h))
  · refine .ite ?_ (downUndelivered_kept h)
    split
    · exact downAgainst_kept h
    · exact h

theorem tollDownIn_kept {ownPort delivered : Bool} {source : Nat} {q : TollBody} (h : Kept s t) :
    Kept s (tollDownIn ownPort delivered source q t) := by
  unfold tollDownIn
  split
  · exact downRefused_kept h
  · exact .ite (downAccepted_kept h) (downRefused_kept h)

theorem restartNotice_kept {station : Nat} (h : Kept s t) : Kept s (restartNotice station t) :=
  .ite (resync_kept (setToll_kept_of_same (setExpected_kept h))) (setToll_kept_of_same (setExpected_kept h))

/-! ### The weather unit -/

theorem takeReading_bounded {now : Time} {r : Reading} {w : Weather} (h : w.Bounded) : (takeReading now r w).Bounded := by
  intro i
  simp only [takeReading, Fin.getElem_fin, Vector.getElem_ofFn, takeValue]
  split
  · exact h i
  · have := h i
    simp only [List.length_append, List.length_singleton]
    split
    · next room => exact room
    · rw [List.length_drop]
      exact Nat.le_trans (Nat.add_le_add_right (Nat.sub_le_sub_right this 1) 1) (by decide)

theorem ageOut_bounded {now : Time} {w : Weather} (h : w.Bounded) : (ageOut now w).Bounded := by
  intro i
  simp only [ageOut, Fin.getElem_fin, Vector.getElem_map]
  exact Nat.le_trans (List.length_filter_le _ _) (h i)

theorem judge_bounded {now : Time} {w : Weather} (h : w.Bounded) : (judge now w).Bounded := ageOut_bounded (now := now) h

theorem clearLatest_bounded {w : Weather} (h : w.Bounded) : (clearLatest w).Bounded := by
  intro i
  simp only [clearLatest, Fin.getElem_fin, Vector.getElem_map]
  exact h i

theorem sendAlarm_kept (h : Kept s t) : Kept s (sendAlarm t) := setWeather_kept_of_same (offerCounted_kept h)

theorem sendReportTo_kept {bytes : List Byte} {stations : List Nat} (h : Kept s t) :
    Kept s (sendReportTo bytes stations t) := by
  induction stations generalizing t with
  | nil => exact h
  | cons c rest ih => exact ih (offerCounted_kept h)

theorem tellLevels_kept {before : Weather} (h : Kept s t) : Kept s (tellLevels before t) :=
  .ite (.ite (sendAlarm_kept (respond_kept h)) (respond_kept h)) h

theorem tellLight_kept (h : Kept s t) : Kept s (tellLight t) := .ite h (evaluateBrightness_kept h)

theorem evaluate_kept {outcome : Option Byte} (h : Kept s t) : Kept s (evaluate outcome t) := by
  have judged := tellLight_kept (tellLevels_kept (before := t.weather)
    (setWeather_kept_of_view (x := judge t.now t.weather) h judge_bounded rfl))
  refine .ite ?_ h
  dsimp only
  split
  · exact .ite (sendReportTo_kept judged) judged
  · exact judged

theorem pollAt_kept {p : Port} (h : Kept s t) : Kept s (pollAt p t) :=
  .ite (.ite (sendService_kept (setWeather_kept_of_same h)) h) (evaluate_kept h)

theorem poll_kept (h : Kept s t) : Kept s (poll t) := by
  unfold poll
  split
  · exact pollAt_kept (setWeather_kept_of_same (reach_kept h) rfl rfl)
  · exact h

theorem readingIn_kept {r : Reading} (h : Kept s t) : Kept s (readingIn r t) := by
  unfold readingIn
  split
  · exact evaluate_kept (setWeather_kept_of_view h takeReading_bounded rfl)
  · exact setWeather_kept_of_same h

theorem replyExpired_kept (h : Kept s t) : Kept s (replyExpired t) := by
  unfold replyExpired
  split
  · exact evaluate_kept (setWeather_kept_of_view (reach_kept h) clearLatest_bounded rfl)
  · exact h

theorem weatherLinkLeft_kept (h : Kept s t) : Kept s (weatherLinkLeft t) := by
  unfold weatherLinkLeft
  split
  · exact evaluate_kept (setWeather_kept_of_same h)
  · exact h

theorem alarmExpired_kept (h : Kept s t) : Kept s (alarmExpired t) := by
  unfold alarmExpired
  split
  · exact .ite (sendAlarm_kept (reach_kept h)) h
  · exact h

theorem weatherMute_kept (h : Kept s t) : Kept s (weatherMute t) := setWeather_kept_of_same h

/-- R172: a view entry is written that is not this station's, or is emptied. -/
theorem setView_kept {station : Nat} {e : Option ViewEntry} (h : Kept s t)
    (other : TablesInOrder s → e = none ∨ t.own ≠ some station) : Kept s (setView station e t) := by
  refine setWeather_kept h id fun cs c n hn => ?_
  have old := c.view n hn
  rw [State.viewOf] at old
  by_cases hs : station = n
  · subst hs
    obtain rfl := (other cs).resolve_right fun ne => ne hn
    dsimp only
    rw [Vector.getElem?_setIfInBounds_self]
    split <;> rfl
  · dsimp only
    rw [Vector.getElem?_setIfInBounds_ne hs]
    exact old

theorem alarmCopied_kept {source : Nat} {payload : List Byte} (h : Kept s t)
    (other : TablesInOrder s → t.own ≠ some source) : Kept s (alarmCopied source payload t) := by
  refine .ite ?_ h
  split
  · exact h
  · have viewed {e : Option ViewEntry} : Kept s (setView source e t) := setView_kept h fun c => .inr (other c)
    dsimp only
    split
    · exact respond_kept viewed
    · exact .ite viewed (respond_kept viewed)

theorem viewExpired_kept {station : Nat} (h : Kept s t) : Kept s (viewExpired station t) := by
  unfold viewExpired
  split
  · exact respond_kept (setView_kept (reach_kept h) fun _ => .inl rfl)
  · exact h

theorem setRate_kept {interval : Byte} (h : Kept s t) : Kept s (setRate interval t) := setWeather_kept_of_same h

theorem setLimits_kept {q : LimitParams} (h : Kept s t) : Kept s (setLimits q t) := by
  unfold setLimits
  split
  · exact .ite (setWeather_kept_of_same h) (reject_kept h)
  · exact .ite (setWeather_kept_of_same h) (reject_kept h)
  · exact .ite (setWeather_kept_of_same h) (reject_kept h)
  · exact reject_kept h

end Sys2Proof.Machine
end

section
/-! PROOFS. `Kept` for the centre port, the port units and pass mode (chapter 10), the station table (chapter 3), the
effects of the commands other than RESTART, and line supervision (chapter 2). -/

namespace Sys2Proof.Machine

variable {s t u : State}

/-! ### The centre port and STATUS -/

theorem setCentre_kept_of_same {x : CentrePort} (h : Kept s t) (intake : x.intake = t.centre.intake := by dsimp only)
    (delivery : x.delivery = t.centre.delivery := by dsimp only) : Kept s (t.setCentre x) :=
  setCentre_kept h (fun b => intake ▸ b.intake) (fun c => intake ▸ c.intake) delivery

theorem pauseIfFull_kept {p : Port} (h : Kept s t) : Kept s (pauseIfFull p t) :=
  .ite (sendService_kept (setCentre_kept_of_same h)) h

/-- R182: a cell that joins the intake FIFO is one that the centre equipment may send. -/
theorem cellOf_legal {bytes : List Byte} (good : intakeFrameGood bytes = true) :
    intakeKind (cellOf bytes).kind = true ∧ validDest (cellOf bytes).dest = true := by
  simp only [intakeFrameGood, Bool.and_eq_true] at good
  exact ⟨good.1.2, good.2⟩

theorem intakeFrame_kept {p : Port} {bytes : List Byte} (h : Kept s t) : Kept s (intakeFrame p bytes t) := by
  unfold intakeFrame
  split
  · exact h
  · split
    · next good =>
      split
      · next room =>
        refine pauseIfFull_kept (setCentre_kept h (fun _ => Nat.le_trans (Nat.le_of_eq List.length_append) room) (fun c x hx => ?_) rfl)
        rcases List.mem_append.mp hx with hx | hx
        · exact c.intake x hx
        · exact List.mem_singleton.mp hx ▸ cellOf_legal good
      · exact modPortCounts_kept h
    · exact modPortCounts_kept h

theorem centreLinkUp_lasts {p : Port} (h : Lasts s t) : Lasts s (centreLinkUp p t) :=
  startNext_lasts (h.step (sendService_kept (.refl t)))

theorem offerCentre_lasts {delivered : Bool} {c : Cell} (h : Lasts s t) : Lasts s (offerCentre delivered c t) :=
  .ite (placeDelivery_lasts h) h

theorem sendStatusTo_kept {bytes : List Byte} {stations : List Nat} (h : Kept s t) :
    Kept s (sendStatusTo bytes stations t) := by
  induction stations generalizing t with
  | nil => exact h
  | cons c rest ih => exact ih (offerCounted_kept h)

theorem keepStatus_lasts {bytes : List Byte} (h : Lasts s t) : Lasts s (keepStatus bytes t) :=
  .ite (placeDelivery_lasts h) h

theorem sendSection_lasts {bytes : List Byte} {stations : List Nat} (h : Lasts s t) :
    Lasts s (sendSection bytes stations t) := keepStatus_lasts (h.step (sendStatusTo_kept (.refl t)))

theorem sendStatus_lasts (h : Lasts s t) : Lasts s (sendStatus t) :=
  (sendSection_lasts (sendSection_lasts (sendSection_lasts h))).step (setStation_kept_of_heard (.refl _) rfl rfl)

theorem statusPeriodEnds_lasts (h : Lasts s t) : Lasts s (statusPeriodEnds t) := by
  unfold statusPeriodEnds
  split
  · exact h
  · exact .ite (sendStatus_lasts (h.step (setStation_kept_of_heard (reach_kept (.refl t)) rfl rfl))) h

/-! ### The port units -/

theorem tellLeft_kept {p : Port} (h : Kept s t) : Kept s (tellLeft p t) := by
  unfold tellLeft
  split
  · exact h
  · exact phoneLinkLeft_kept h
  · exact signLinkLeft_kept h
  · exact weatherLinkLeft_kept h
  · exact h
  · exact h

theorem tellUp_lasts {p : Port} (h : Lasts s t) : Lasts s (tellUp p t) := by
  unfold tellUp
  split
  · exact h
  · exact h.step (phoneLinkUp_kept (.refl t))
  · exact h.step (signLinkUp_kept (.refl t))
  · exact h
  · exact h.step (sendDelivered_kept (.refl t))
  · exact centreLinkUp_lasts h

theorem leaveTo_kept {p : Port} {link : Link} (h : Kept s t) (pass : link = .pass → t.profile p ∈ passProfiles) :
    Kept s (leaveTo p link t) :=
  .ite (tellLeft_kept (modPort_kept h ⟨⟨fun _ => Nat.zero_le _, id, fun e => .inr (pass e)⟩, id⟩))
    (modPort_kept h ⟨⟨id, id, fun e => .inr (pass e)⟩, id⟩)

theorem restartSilence_kept {p : Port} (h : Kept s t) : Kept s (restartSilence p t) :=
  modPort_kept h (.of_same rfl rfl rfl)

theorem sendIdent_kept {p : Port} (h : Kept s t) : Kept s (sendIdent p t) := sendFrame_kept h

theorem portDown_kept {p : Port} (h : Kept s t) : Kept s (portDown p t) :=
  leaveTo_kept (modPort_kept h (.of_same rfl rfl rfl)) nofun

theorem setGeometry_kept {p : Port} {size : Option (Byte × Byte)} (h : Kept s t) : Kept s (setGeometry p size t) :=
  .ite (modSign_kept h ⟨rfl, rfl⟩) h

theorem identRight_lasts {p : Port} {size : Option (Byte × Byte)} (h : Lasts s t) : Lasts s (identRight p size t) :=
  tellUp_lasts (h.step (sendIdent_kept (setGeometry_kept (restartSilence_kept
    (modPort_kept (leaveTo_kept (.refl t) nofun) ⟨⟨id, id, nofun⟩, id⟩)))))

theorem identWrong_kept {p : Port} (h : Kept s t) : Kept s (identWrong p t) :=
  sendIdent_kept (restartSilence_kept (leaveTo_kept h nofun))

theorem identIn_lasts {p : Port} {kind : Byte} {size : Option (Byte × Byte)} (h : Lasts s t) :
    Lasts s (identIn p kind size t) := .ite (identRight_lasts h) (h.step (identWrong_kept (.refl t)))

/-! ### Pass mode -/

theorem restartIdle_kept {p : Port} (h : Kept s t) : Kept s (restartIdle p t) := modPort_kept h (.of_same rfl rfl rfl)

/-- Two changes of a port unit are one. -/
theorem modPort_modPort (p : Port) (f g : PortUnit → PortUnit) (s : State) :
    modPort p g (modPort p f s) = modPort p (g ∘ f) s := by
  simp only [modPort, State.setPorts_ports, vector_get_set, Function.comp]
  rw [show (s.ports.set p (f s.ports[p])).set p (g (f s.ports[p])) = s.ports.set p (g (f s.ports[p])) from
    vector_set_set ..]
  rfl

theorem sendGather_kept {p : Port}
    (h : Kept s (modPort p (fun u => { u with gather := [], gatherTimer := none }) t)) : Kept s (sendGather p t) := by
  unfold sendGather
  dsimp only
  split
  · exact .ite (offerCounted_kept h) h
  · exact h

theorem emptyGather_kept {p : Port} (h : Kept s t) :
    Kept s (modPort p (fun u => { u with gather := [], gatherTimer := none }) t) :=
  modPort_kept h ⟨⟨id, fun _ => Nat.zero_lt_succ _, .inl⟩, id⟩

/-- R180: the byte that fills the gather buffer to 48 also empties it. -/
theorem passByteIn_kept {p : Port} {b : Byte} (h : Kept s t) : Kept s (passByteIn p b t) := by
  unfold passByteIn restartIdle
  dsimp only
  split
  · refine sendGather_kept ?_
    rw [modPort_modPort, modPort_modPort]
    exact modPort_kept h ⟨⟨id, fun _ => Nat.zero_lt_succ _, .inl⟩, id⟩
  · next few =>
    rw [modPort_modPort] at few ⊢
    have few := Nat.lt_of_not_le few
    simp only [modPort, State.setPorts_ports, vector_get_set] at few
    exact modPort_kept h ⟨⟨id, fun _ => few, .inl⟩, id⟩

theorem passBytesIn_kept {p : Port} {bytes : List Byte} (h : Kept s t) : Kept s (passBytesIn p bytes t) := by
  induction bytes generalizing t with
  | nil => exact h
  | cons b rest ih => exact ih (passByteIn_kept h)

theorem gatherExpired_kept {p : Port} (h : Kept s t) : Kept s (gatherExpired p t) := by
  unfold gatherExpired
  split
  · exact .ite (sendGather_kept (emptyGather_kept (reach_kept h))) h
  · exact h

theorem endPass_kept {p : Port} (h : Kept s t) : Kept s (endPass p t) :=
  sendIdent_kept (modPort_kept (sendGather_kept (emptyGather_kept h)) ⟨⟨id, id, nofun⟩, id⟩)

theorem idleExpired_kept {p : Port} (h : Kept s t) : Kept s (idleExpired p t) := by
  unfold idleExpired
  split
  · exact .ite (endPass_kept (reach_kept h)) h
  · exact h

theorem lineSignal_kept {p : Port} {present : Bool} (h : Kept s t) : Kept s (lineSignal p present t) :=
  .ite h (modPort_kept h (.of_same rfl rfl rfl))

theorem lineLossExpired_kept {p : Port} (h : Kept s t) : Kept s (lineLossExpired p t) := by
  unfold lineLossExpired
  split
  · next d _ =>
    have stopped := modPort_kept (p := p) (f := fun u => { u with lineLoss := none }) (reach_kept (d := d) h)
      (.of_same rfl rfl rfl)
    exact .ite (endPass_kept stopped) stopped
  · exact h

theorem portMute_kept {p : Port} (h : Kept s t) : Kept s (portMute p t) := .ite (endPass_kept h) h

theorem openPass_kept {p : Port} {centre : Nat} {code : BitVec 2} (h : Kept s t) (fit : t.profile p ∈ passProfiles) :
    Kept s (openPass p centre code t) :=
  restartIdle_kept (modPort_kept (setRx_kept (leaveTo_kept h fun _ => fit) nofun)
    ⟨⟨fun _ => Nat.zero_le _, fun _ => Nat.zero_lt_succ _, .inl⟩, id⟩)

theorem passOpenOn_kept {p : Port} {centre : Nat} {idle : Byte} (h : Kept s t) (fit : t.profile p ∈ passProfiles) :
    Kept s (passOpenOn centre idle p t) := .ite (reject_kept h) (.ite (reject_kept h) (openPass_kept h fit))

theorem passCloseOn_kept {p : Port} (h : Kept s t) : Kept s (passCloseOn p t) := .ite (endPass_kept h) (reject_kept h)

theorem passDelivered_kept {source : Nat} {payload : List Byte} (h : Kept s t) :
    Kept s (passDelivered source payload t) := by
  unfold passDelivered
  split
  · exact restartIdle_kept (modPort_kept h (.of_same rfl rfl rfl))
  · exact .ite h (modPortCounts_kept h)

/-! ### Frames from the equipment -/

theorem badFrameIn_kept (h : Kept s t) : Kept s (badFrameIn t) := modPortCounts_kept h

theorem serviceFrame_kept {p : Port} {f : RxFrame} (h : Kept s t) : Kept s (serviceFrame p f t) := by
  unfold serviceFrame
  split
  case h_1 | h_2 => exact h
  case h_3 =>
    split
    · exact settle_kept (phoneOffHook_kept h)
    · exact h
  case h_4 => exact settle_kept (phoneOnHook_kept h)
  case h_5 => exact settle_kept (phoneAnswer_kept h)
  case h_6 => exact phoneSamples_kept h
  case h_7 => exact signReady_kept h
  case h_8 => exact signBusy_kept h
  case h_9 =>
    split
    · exact signRowsTaken_kept h
    · exact h
  case h_10 =>
    split
    · exact signShown_kept h
    · exact h
  case h_11 => exact readingIn_kept h
  case h_12 => exact tollRecordIn_kept h
  case h_13 => exact intakeFrame_kept h

theorem frameIn_kept {p : Port} {f : RxFrame} (h : Kept s t) : Kept s (frameIn p f t) := by
  unfold frameIn
  split
  · exact serviceFrame_kept (restartSilence_kept h)
  · exact restartSilence_kept h
  · exact h
  · exact h

theorem validFrame_lasts {p : Port} {f : RxFrame} (h : Lasts s t) : Lasts s (validFrame p f t) := by
  unfold validFrame
  split
  · exact identIn_lasts h
  · exact h.step (frameIn_kept (.refl t))

/-- R176: a frame that is not whole has fewer than 260 bytes, its flag among them. -/
theorem length_of_frameAt_none {bytes : List Byte} (h : frameAt bytes = none) : bytes.length + 1 < 260 := by
  unfold frameAt at h
  split at h
  · next type length rest =>
    split at h
    · cases h
    · have := length.isLt
      simp only [List.length_cons]
      omega
  · next short =>
    match bytes, short with
    | [], _ => simp
    | [_], _ => simp
    | type :: length :: rest, short => exact absurd rfl (short type length rest)

theorem readBytes_lasts {p : Port} {stopped : Bool} {k : Nat} {bytes : List Byte} (h : Lasts s t) :
    Lasts s (readBytes p stopped k bytes t) := by
  induction k generalizing bytes t with
  | zero => exact h
  | succ k ih =>
    cases bytes with
    | nil => exact h
    | cons b rest =>
      have bad : Lasts s (badFrameIn t) := h.step (badFrameIn_kept (.refl t))
      unfold readBytes
      split
      · exact ih h
      · split
        · split
          · exact ih (validFrame_lasts h)
          · exact ih bad
        · next part =>
          refine .ite (ih bad) (h.step (setRx_kept (.refl t) fun y e => ?_))
          cases e
          exact length_of_frameAt_none part

theorem linkBytes_lasts {p : Port} {stopped : Bool} {bytes : List Byte} (h : Lasts s t) :
    Lasts s (linkBytes p stopped bytes t) :=
  .ite h (.ite (h.step (passBytesIn_kept (.refl t))) (readBytes_lasts (h.step (setRx_kept (.refl t) nofun))))

theorem frameArrives_lasts {p : Port} {f : RxFrame} (h : Lasts s t) : Lasts s (frameArrives p f t) :=
  .ite (validFrame_lasts h) (linkBytes_lasts h)

theorem byteTimeout_lasts {p : Port} (h : Lasts s t) : Lasts s (byteTimeout p t) := by
  unfold byteTimeout
  split
  · exact linkBytes_lasts (h.step (reach_kept (.refl t)))
  · exact h

theorem portSilenceExpired_kept {p : Port} (h : Kept s t) : Kept s (portSilenceExpired p t) := by
  unfold portSilenceExpired
  split
  · exact portDown_kept (reach_kept h)
  · exact h

theorem answerExpired_kept {p : Port} (h : Kept s t) : Kept s (answerExpired p t) := by
  unfold answerExpired
  split
  · next d x _ _ =>
    have missed := modSign_kept (p := p) (f := fun g =>
      { g with missed := g.missed + 1, missedTotal := bump g.missedTotal, answerTimer := none })
      (reach_kept (d := d) h) ⟨rfl, rfl⟩
    exact .ite (portDown_kept missed) (resendStep_kept missed)
  · exact h

theorem aliveDue_kept {p : Port} (h : Kept s t) : Kept s (aliveDue p t) := .ite (sendFrame_kept (reach_kept h)) h

theorem frameSent_lasts {p : Port} {delivery : Bool} (h : Lasts s t) : Lasts s (frameSent p delivery t) :=
  .ite (startNext_lasts (modPort_lasts h (.of_same rfl rfl rfl))) h

theorem deliverySent_lasts (h : Lasts s t) : Lasts s (deliverySent t) := by
  unfold deliverySent
  split
  · exact frameSent_lasts h
  · exact h

/-! ### The station table -/

theorem sendHello_kept (h : Kept s t) : Kept s (sendHello t) := by
  unfold sendHello
  split
  · next e => exact setStation_kept_of_heard (kept_of_pair (offer_kept h) e) rfl rfl
  · next e => exact insertDrop_kept (kept_of_pair (offer_kept h) e)

theorem helloPeriodEnds_kept (h : Kept s t) : Kept s (helloPeriodEnds t) := by
  unfold helloPeriodEnds
  split
  · exact h
  · exact .ite (sendHello_kept (setStation_kept_of_heard (reach_kept h) rfl rfl)) h

theorem tellSelections_kept {before : State} (h : Kept s t) : Kept s (tellSelections before t) :=
  have told : Kept s (if t.selectedCentre ≠ before.selectedCentre then testClaim t else t) := .ite (testClaim_kept h) h
  .ite (followTollCentre_kept told) told

/-- R47, R48: a heard entry is written that is not this station's, or is absent without a stamp. -/
theorem setHeard_kept {station : Nat} {e : HeardEntry} (h : Kept s t)
    (other : TablesInOrder t → t.own ≠ some station) : Kept s (setHeard station e t) := by
  refine setStation_kept h rfl fun c n hn => ?_
  have ne : station ≠ n := fun e => other c (e ▸ hn)
  dsimp only
  rw [Vector.getElem?_setIfInBounds_ne ne]
  exact c.heard n hn

theorem changeHeard_kept {station : Nat} {e : HeardEntry} (h : Kept s t)
    (other : TablesInOrder t → t.own ≠ some station) : Kept s (changeHeard station e t) :=
  have told := respond_kept (setHeard_kept (e := e) h other)
  tellSelections_kept (.ite told (targetRemoved_kept told))

theorem noteRestart_kept {source : Nat} {x : Hello} (h : Kept s t) : Kept s (noteRestart source x t) :=
  .ite (restartNotice_kept h) h

theorem helloCopied_kept {source : Nat} {x : Hello} (h : Kept s t) : Kept s (helloCopied source x t) := by
  unfold helloCopied
  split
  · exact h
  · next ne =>
    have other : TablesInOrder (noteRestart source x t) → (noteRestart source x t).own ≠ some source := fun _ e =>
      ne (.inr ((noteRestart_kept (Kept.refl t)).own.symm.trans e))
    have noted := noteRestart_kept (source := source) (x := x) h
    exact .ite noted (.ite (changeHeard_kept noted other) (setHeard_kept noted other))

theorem heardExpired_kept {station : Nat} (h : Kept s t) : Kept s (heardExpired station t) := by
  unfold heardExpired
  split
  · next present =>
    refine changeHeard_kept (reach_kept h) fun c e => ?_
    have := (c.heard station e).1
    rw [show (t.heardOf station).present = false from this] at present
    cases present
  · exact h

theorem firstAlarm_kept (h : Kept s t) : Kept s (firstAlarm t) := .ite (sendAlarm_kept h) h

/-- R45: an entry to MUTE, but for the phase. -/
theorem purgeInserts_kept (h : Kept s t) : Kept s (purgeInserts t) := by
  have keep (q : Queues) (hq : ∀ k, (q.get k).length ≤ insertCapacity k) (k : CellClass) :
      ((keepMuteCells q).get k).length ≤ insertCapacity k := by
    cases k
    · exact Nat.le_trans (List.length_filter_le ..) (hq .v)
    · exact Nat.le_trans (List.length_filter_le ..) (hq .c)
    · exact Nat.le_trans (List.length_filter_le ..) (hq .b)
  refine { h with toLasts := setTx_lasts h.toLasts fun b l => ?_, transit := fun l => ?_ }
  · cases l
    · exact { b.transmitter .u with insert := keep _ (b.insert .u) }
    · exact { b.transmitter .d with insert := keep _ (b.insert .d) }
  · cases l
    · exact h.transit .u
    · exact h.transit .d

theorem signMuteOn_kept {p : Port} (h : Kept s t) : Kept s (signMuteOn p t) := .ite (signMute_kept h) h

/-! ### Commands -/

theorem setGroup_kept {group mask : Byte} (h : Kept s t) : Kept s (setGroup group mask t) :=
  .ite (setStation_kept_of_heard h rfl rfl) (reject_kept h)

theorem dropOne_kept {n : Nat} (h : Kept s t) : Kept s (dropOne n t) := by
  unfold dropOne
  split
  · next e =>
    refine plateReported_kept (setPlates_kept h fun o => ?_)
    have := dropPlate_inOrder n o
    rwa [e] at this
  · exact h

theorem dropEach_kept {ns : List Nat} (h : Kept s t) : Kept s (dropEach ns t) := by
  induction ns generalizing t with
  | nil => exact h
  | cons n rest ih => exact ih (dropOne_kept h)

theorem endPage_kept {p : Port} {x : Staging} (h : Kept s t) : Kept s (endPage p x t) := by
  unfold endPage
  split
  · exact pageCommitted_kept (modSign_kept h ⟨rfl, rfl⟩)
  · exact reject_kept (modSign_kept h ⟨rfl, rfl⟩)

theorem pageSetOn_kept {q : PageParams} {p : Port} (h : Kept s t) : Kept s (pageSetOn q p t) := by
  unfold pageSetOn
  split
  · split
    · exact reject_kept h
    · exact .ite (endPage_kept h) (modSign_kept h ⟨rfl, rfl⟩)
  · exact reject_kept h

theorem showOn_kept {page priority : Byte} {p : Port} (h : Kept s t) : Kept s (showOn page priority p t) := by
  refine .ite (removeClaim_kept h nofun) ?_
  split
  · next good => exact placeClaim_kept h nofun (fun _ => good.2) nofun
  · exact reject_kept h

/-- R53: the ports a target names are of a fitting profile. -/
theorem fits_of_resolve {a : Addressing} {fit : List Profile} {target : Byte} {ps : List Port}
    (h : resolve a fit target s = .ports ps) {p : Port} (hp : p ∈ ps) : s.profile p ∈ fit := by
  unfold resolve resolveOne at h
  split at h
  · split at h
    · split at h
      · next fits =>
        cases h
        exact List.mem_singleton.mp hp ▸ List.contains_iff_mem.mp fits
      · cases h
    · cases h
      cases hp
  · split at h
    · split at h
      · cases h
      · cases h
        have := (Bool.and_eq_true_iff.mp (List.mem_filter.mp hp).2).2
        exact List.contains_iff_mem.mp this
    · cases h

theorem actOnPorts_kept {act : Port → State → State} {ps : List Port}
    (hact : ∀ {t}, ∀ p ∈ ps, Kept s t → Kept s (act p t)) (h : Kept s t) : Kept s (actOnPorts act ps t) := by
  induction ps generalizing t with
  | nil => exact h
  | cons p rest ih =>
    exact ih (fun q hq => hact q (List.mem_cons_of_mem _ hq)) (hact p (List.mem_cons_self ..) h)

theorem portCommand_kept {a : Addressing} {fit : List Profile} {target : Byte} {act : Port → State → State}
    (hact : ∀ {t} p, s.profile p ∈ fit → Kept s t → Kept s (act p t)) (h : Kept s t) :
    Kept s (portCommand a fit target act t) := by
  unfold portCommand
  split
  · next e => exact actOnPorts_kept (fun p hp => hact p (h.profile ▸ fits_of_resolve e hp)) h
  · exact reject_kept h

theorem commandEffect_kept {via : Via} {c : Command} (h : Kept s t) (hc : c ≠ .restart) :
    Kept s (commandEffect via c t) := by
  cases c with
  | groupSet g m => exact setGroup_kept h
  | callFloor f => exact setFloor_kept h
  | callPhone target prio => exact portCommand_kept (fun _ _ h => callPhoneOn_kept h) h
  | plateDrop n => exact .ite (dropOne_kept h) (reject_kept h)
  | plateDropAll => exact dropEach_kept h
  | pageSet target q => exact portCommand_kept (fun _ _ h => pageSetOn_kept h) h
  | showPage target page prio => exact portCommand_kept (fun _ _ h => showOn_kept h) h
  | signRestore target => exact portCommand_kept (fun _ _ h => restoreSign_kept h) h
  | responseSet q => exact setResponse_kept h
  | responseClear i => exact clearResponses_kept h
  | wxRate target n => exact portCommand_kept (fun _ _ h => setRate_kept h) h
  | wxLimits target q => exact portCommand_kept (fun _ _ h => setLimits_kept h) h
  | passOpen target idle => exact portCommand_kept (fun _ fit h => passOpenOn_kept h (h.profile ▸ fit)) h
  | passClose target => exact portCommand_kept (fun _ _ h => passCloseOn_kept h) h
  | restart => exact absurd rfl hc
  | unknown code => exact h

/-! ### Line supervision -/

theorem Transmitter.Bounded.setTransit {x : Transmitter} (b : x.Bounded) {q : Queues}
    (hq : ∀ k, (q.get k).length ≤ transitCapacity k) : ({ x with transit := q } : Transmitter).Bounded :=
  { b with transit := hq }

theorem Queues.none_length (k : CellClass) : (Queues.none.get k).length ≤ transitCapacity k := by
  cases k <;> exact Nat.zero_le _

theorem length_appendFitting {k : CellClass} {kept moved : List Cell} (h : kept.length ≤ transitCapacity k) :
    (appendFitting k kept moved).length ≤ transitCapacity k := by
  simp only [appendFitting, List.length_append, List.length_take]
  omega

theorem mergeQueues_length {kept : Queues} (moved : Queues) (h : ∀ k, (kept.get k).length ≤ transitCapacity k)
    (k : CellClass) : ((mergeQueues kept moved).get k).length ≤ transitCapacity k := by
  cases k
  · exact length_appendFitting (h .v)
  · exact length_appendFitting (h .c)
  · exact length_appendFitting (h .b)

theorem countFlushed_lasts {n : Nat} (h : Lasts s t) : Lasts s (countFlushed n t) := modRing_lasts h

theorem moveTransit_lasts {l dest : Line} (h : Lasts s t) : Lasts s (moveTransit l dest t) := by
  refine countFlushed_lasts (modTx_lasts (modTx_lasts h fun b => ?_) fun b => b.setTransit Queues.none_length)
  exact b.setTransit (mergeQueues_length _ b.transit)

theorem flushTransit_lasts {l : Line} (h : Lasts s t) : Lasts s (flushTransit l t) :=
  countFlushed_lasts (modTx_lasts h fun b => b.setTransit Queues.none_length)

theorem foldMoves_lasts {before after : Fold} (h : Lasts s t) : Lasts s (foldMoves before after t) :=
  .ite (flushTransit_lasts (flushTransit_lasts h)) (.ite (moveTransit_lasts h) (.ite (moveTransit_lasts h)
    (.ite (flushTransit_lasts h) h)))

theorem changeLine_lasts {l : Line} {f : LineUnit → LineUnit} (h : Lasts s t) : Lasts s (changeLine l f t) :=
  .ite (modLine_lasts h) ((foldMoves_lasts (modLine_lasts h)).step (testSend_kept (.refl _)))

theorem lineDown_lasts {l : Line} {cause : DownCause} (h : Lasts s t) : Lasts s (lineDown l cause t) :=
  .ite h (changeLine_lasts h)

theorem reach_lasts {d : Time} (h : Lasts s t) : Lasts s (reach d t) := h.step (reach_kept (.refl t))

theorem silenceExpired_lasts {l : Line} (h : Lasts s t) : Lasts s (silenceExpired l t) := by
  unfold silenceExpired
  split
  · exact lineDown_lasts (modLine_lasts (reach_lasts h))
  · exact h

theorem deafExpired_lasts {l : Line} (h : Lasts s t) : Lasts s (deafExpired l t) := by
  unfold deafExpired
  split
  · exact lineDown_lasts (modLine_lasts (reach_lasts h))
  · exact h

theorem provingExpired_lasts {l : Line} (h : Lasts s t) : Lasts s (provingExpired l t) := by
  unfold provingExpired
  split
  · exact .ite (changeLine_lasts (reach_lasts h)) h
  · exact h

theorem windowEnds_lasts {l : Line} (h : Lasts s t) : Lasts s (windowEnds l t) := modLine_lasts (reach_lasts h)

theorem badCellReported_lasts {l : Line} (h : Lasts s t) : Lasts s (badCellReported l t) :=
  .ite (lineDown_lasts (modLine_lasts h)) (modLine_lasts h)

theorem badCell_lasts {l : Line} (h : Lasts s t) : Lasts s (badCell l t) := badCellReported_lasts (modRing_lasts h)

theorem fillArrives_lasts {l : Line} {w : FillWord} {good : Bool} (h : Lasts s t) : Lasts s (fillArrives l w good t) :=
  .ite (modLine_lasts (modLine_lasts h)) h

/-! ### The arbiter and the transit queues -/

/-- R10, R12: the counts of a transmitter whose next cell starts, and the queues without that cell. -/
theorem startCell_bounded {now : Time} {c : Cell} {k : Pick} {x : Transmitter} (few : x.consecutive < 16)
    (b : x.Bounded) : (startCell now c k x).Bounded := by
  have drop {q : List Cell} {n : Nat} (hq : q.length ≤ n) : (q.drop 1).length ≤ n := by
    rw [List.length_drop]; exact Nat.le_trans (Nat.sub_le ..) hq
  have fair : fairnessAfter x.fairness k ≤ 4 := by
    unfold fairnessAfter
    split
    · split
      · next less => exact less
      · exact b.fairness
    · exact Nat.zero_le _
    · exact b.fairness
  cases k with
  | transit k => exact ⟨Queues.get_length_set b.transit (drop (b.transit k)), b.insert, fair, few⟩
  | insert k => exact ⟨b.transit, Queues.get_length_set b.insert (drop (b.insert k)), fair, few⟩

theorem startFill_bounded {now : Time} {w : FillWord} {x : Transmitter} (b : x.Bounded) : (startFill now w x).Bounded :=
  { b with consecutive := Nat.zero_le _ }

/-- R10: a cell starts only behind fewer than 16 others. -/
theorem consecutive_of_chosen {up : Bool} {x : Transmitter} {k : Pick} {c : Cell} (h : chosen up x = some (k, c)) :
    x.consecutive < 16 := by
  unfold chosen at h
  split at h
  · next e => exact of_decide_eq_true (Bool.and_eq_true_iff.mp e).2
  · cases h

theorem enqueueTransit_lasts {l : Line} {c : Cell} (h : Lasts s t) : Lasts s (enqueueTransit l c t) := by
  unfold enqueueTransit
  split
  · next room =>
    exact modTx_lasts h fun b => b.setTransit (Queues.get_length_set b.transit (Nat.le_trans (Nat.le_of_eq List.length_append) room))
  · exact modRing_lasts h

theorem forward_lasts {l : Line} {c : Cell} (h : Lasts s t) : Lasts s (forward l c t) := enqueueTransit_lasts h

theorem toCentre_lasts {delivered : Bool} {c : Cell} (h : Lasts s t) : Lasts s (toCentre delivered c t) :=
  .ite (offerCentre_lasts h) h

theorem strip_lasts {c : Cell} (h : Lasts s t) : Lasts s (strip c t) :=
  .ite (modRing_lasts h) (.ite (h.step (settle_kept (claimReturned_kept (.refl t)))) h)

/-! ### The intake FIFO's level and the plate store -/

theorem goIfLow_kept (h : Kept s t) : Kept s (goIfLow t) := by
  unfold goIfLow
  split
  · exact .ite (sendService_kept (setCentre_kept_of_same h)) h
  · exact h

theorem plateIn_kept {ownPort : Bool} {source : Nat} {payload : List Byte} (h : Kept s t) :
    Kept s (plateIn ownPort source payload t) := by
  have taken (o : StoreInOrder t.plates) : StoreInOrder (platePart (readPlatePart payload) t.now t.plates).1 :=
    platePart_inOrder t.now (readPlatePart_width payload) o
  unfold plateIn
  split
  · split
    · next e => exact plateReported_kept (setPlates_kept h fun o => by have := taken o; rwa [e] at this)
    · next e => exact setPlates_kept h fun o => by have := taken o; rwa [e] at this
  · exact setPlates_kept h fun o => o.congr rfl rfl rfl rfl

theorem partExpired_kept {k : Fin 2} (h : Kept s t) : Kept s (partExpired k t) := by
  unfold partExpired
  split
  · exact setPlates_kept (reach_kept h) fun o => (abandonSlot_inOrder k o).congr rfl rfl rfl rfl
  · exact h

end Sys2Proof.Machine
end

section
/-! PROOFS. What one command can do (`StepsTo`): keep everything of `Kept`, start the node afresh, end the listening time, or
make the station MUTE. The five statements about every step (phases, bounds, plate store, claims lists, station tables) are
read off from it. -/

namespace Sys2Proof.Machine

variable {s t u : State} {R R' : Prop}

/-! ### Cells handed to a unit -/

/-- R52, R185: the cell is a COMMAND that carries RESTART. -/
def CarriesRestart (c : Cell) : Prop := c.kind = kCommand ∧ readCommand c.payload = .restart

/-- What follows an operation that keeps everything, or where `R` holds may start the node afresh first. -/
inductive Reached (R : Prop) (s : State) : State → Prop
  | kept {t : State} : Lasts s t → Reached R s t
  | restarted {clock : Clock} {pins : Straps} {t : State} : R → Lasts (resetWith s.pending clock pins) t → Reached R s t

theorem Reached.step {f : State → State} (h : Reached R s t) (hf : ∀ {u}, Lasts u t → Lasts u (f t)) :
    Reached R s (f t) := by
  cases h with
  | kept k => exact .kept (hf k)
  | restarted r k => exact .restarted r (hf k)

theorem Reached.imp (hR : R → R') (h : Reached R s t) : Reached R' s t := by
  cases h with
  | kept k => exact .kept k
  | restarted r k => exact .restarted (hR r) k

theorem Reached.kept_of_not (h : Reached R s t) (hR : ¬R) : Lasts s t := by
  cases h with
  | kept k => exact k
  | restarted r _ => exact absurd r hR

theorem Lasts.reached (h : Lasts s t) (k : Reached R t u) : Reached R s u := by
  cases k with
  | kept k => exact .kept (h.trans k)
  | restarted r k => exact .restarted r (h.pending ▸ k)

/-- R52: RESTART is acted on by unicast only. -/
theorem restart_refused {via : Via} (group : via.addressing ≠ .unicast) (s : State) :
    commandRefused via .restart s ≠ none := by
  simp only [commandRefused, Command.isUnknown, Command.isRestart]
  split <;> simp [group]

theorem commandArrives_kept {via : Via} {c : Command} (h : Kept s t) (hc : c = .restart → via.addressing ≠ .unicast) :
    Kept s (commandArrives via c t) := by
  unfold commandArrives
  split
  · exact h
  · split
    · exact reject_kept h
    · next admitted =>
      refine commandEffect_kept h fun restart => ?_
      subst restart
      exact restart_refused (hc rfl) t admitted

theorem commandArrives_reached {via : Via} {c : Command} (h : Lasts s t) :
    Reached (c = .restart) s (commandArrives via c t) := by
  by_cases hc : c = .restart
  · subst hc
    unfold commandArrives
    split
    · exact .kept h
    · split
      · exact .kept (h.step (reject_kept (.refl t)))
      · refine .restarted (clock := t.clock) (pins := t.straps.pins) rfl ?_
        rw [← h.pending]
        exact .refl _
  · exact .kept (h.step (commandArrives_kept (.refl t) fun e => absurd e hc))

theorem whenActive_kept {f : State → State} (hf : Kept s t → Kept s (f t)) (h : Kept s t) : Kept s (whenActive f t) :=
  .ite (hf h) h

theorem handPlain_command {delivered ownPort : Bool} {c : Cell} (command : c.kind = kCommand) (s : State) :
    handPlain delivered ownPort c s =
      commandArrives ⟨ownPort, c.source, addressingOf c.dest⟩ (readCommand c.payload) s := by
  unfold handPlain
  rw [if_neg (by rw [command]; decide), if_neg (by rw [command]; decide), if_neg (by rw [command]; decide),
    if_neg (by rw [command]; decide), if_pos command]

theorem handPlain_tollRec {ownPort : Bool} {c : Cell} (record : c.kind = kTollRec) (s : State) :
    handPlain true ownPort c s =
      whenActive (tollRecIn c.source.toNat (readTollBody c.payload)) s := by
  unfold handPlain
  rw [if_neg (by rw [record]; decide), if_neg (by rw [record]; decide), if_neg (by rw [record]; decide),
    if_neg (by rw [record]; decide), if_neg (by rw [record]; decide), if_pos record]
  rfl

/-- A cell handed to its unit, but a record for the delivery queue and a RESTART by unicast; an alarm that is copied comes
from another station. -/
theorem handPlain_kept {delivered ownPort : Bool} {c : Cell} (h : Kept s t) (record : ¬(delivered = true ∧ c.kind = kTollRec))
    (restart : CarriesRestart c → addressingOf c.dest ≠ .unicast)
    (other : delivered = false → c.kind = kWxAlarm → TablesInOrder s → t.own ≠ some c.source.toNat) :
    Kept s (handPlain delivered ownPort c t) := by
  by_cases command : c.kind = kCommand
  · rw [handPlain_command command]
    exact commandArrives_kept h fun r => restart ⟨command, r⟩
  · unfold handPlain
    refine .ite (.ite (whenActive_kept voiceDelivered_kept h) h)
      (.ite (.ite h (settle_kept (releaseCopied_kept h))) (.ite (.ite h (settle_kept (holdCopied_kept h)))
      (.ite (.ite h (settle_kept (helloCopied_kept h))) ?_)))
    rw [if_neg command]
    split
    · next isRecord => rw [if_neg fun d => record ⟨d, isRecord⟩]; exact h
    · refine .ite (.ite (whenActive_kept tollAck_kept h) h)
        (.ite (.ite (whenActive_kept tollSyncIn_kept h) h) (.ite (whenActive_kept tollDownIn_kept h)
        (.ite (whenActive_kept plateIn_kept h) ?_)))
      split
      · next alarm =>
        split
        · exact h
        · next copied => exact alarmCopied_kept h (other (Bool.eq_false_iff.mpr copied) alarm)
      · exact .ite (.ite (whenActive_kept passDelivered_kept h) h) h

theorem handPlain_reached {delivered ownPort : Bool} {c : Cell} (h : Kept s t)
    (other : delivered = false → c.kind = kWxAlarm → TablesInOrder s → t.own ≠ some c.source.toNat) :
    Reached (CarriesRestart c) s (handPlain delivered ownPort c t) := by
  by_cases command : c.kind = kCommand
  · rw [handPlain_command command]
    exact (commandArrives_reached h.toLasts).imp fun r => ⟨command, r⟩
  · have restart : CarriesRestart c → addressingOf c.dest ≠ .unicast := fun r => absurd r.1 command
    by_cases record : delivered = true ∧ c.kind = kTollRec
    · rw [record.1, handPlain_tollRec record.2]
      exact .kept (.ite (tollRecIn_lasts h.toLasts) h.toLasts)
    · exact .kept (handPlain_kept h record restart other).toLasts

theorem handClaim_kept {c : Cell} (h : Kept s t) : Kept s (handClaim c t).1 := by
  unfold handClaim
  split
  · next e =>
    dsimp only
    exact settle_kept (kept_of_pair (claimCopied_kept h) e)
  · next e =>
    dsimp only
    exact settle_kept (kept_of_pair (claimCopied_kept h) e)

theorem handCell_reached {delivered ownPort : Bool} {c : Cell} (h : Kept s t)
    (other : delivered = false → c.kind = kWxAlarm → TablesInOrder s → t.own ≠ some c.source.toNat) :
    Reached (CarriesRestart c) s (handCell delivered ownPort c t).1 := by
  unfold handCell
  split
  · split
    · split
      · exact .kept h.toLasts
      · exact .kept (handClaim_kept h).toLasts
    · exact handPlain_reached h other
  · exact .kept h.toLasts

/-- A cell that is copied. -/
theorem handCopied_kept {ownPort : Bool} {c : Cell} (h : Kept s t) (group : addressingOf c.dest ≠ .unicast)
    (other : c.kind = kWxAlarm → TablesInOrder s → t.own ≠ some c.source.toNat) :
    Kept s (handCell false ownPort c t).1 := by
  unfold handCell
  split
  · split
    · exact handClaim_kept h
    · exact handPlain_kept h (fun d => Bool.false_ne_true d.1) (fun _ => group) fun _ => other
  · exact h

/-! ### The head of the intake FIFO -/

theorem routeIntake_reached {c : Cell} (h : Kept s t) (other : c.kind = kWxAlarm → ¬TablesInOrder s) :
    Reached (CarriesRestart c) s (routeIntake c t) := by
  have handed {delivered : Bool} : Reached (CarriesRestart c) s (handCell delivered true c t).1 :=
    handCell_reached h fun _ alarm tables => absurd tables (other alarm)
  unfold routeIntake
  split
  · exact handed
  · split
    · exact .kept (offerCounted_kept h).toLasts
    · split
      next e =>
      have := handed (delivered := false)
      rw [e] at this
      exact this.step fun k => k.step (offerCounted_kept (.refl _))

theorem moveIntake_reached (s : State) :
    Reached (∃ c rest, s.centre.intake = c :: rest ∧ CarriesRestart c) s (moveIntake s) := by
  unfold moveIntake
  split
  · next c rest e =>
    have moved : Kept s (s.setCentre { s.centre with intake := rest }) := by
      refine setCentre_kept (.refl s) (fun b => ?_) (fun o x hx => ?_) rfl
      · have := b.intake
        rw [e] at this
        exact Nat.le_trans (Nat.le_succ _) this
      · exact o.intake x (e ▸ List.mem_cons_of_mem _ hx)
    have routed := routeIntake_reached (c := intakeCell c s) (goIfLow_kept moved) fun alarm tables => by
      have legal := (tables.intake c (e ▸ List.mem_cons_self ..)).1
      rw [show c.kind = kWxAlarm from alarm] at legal
      exact absurd legal (by decide)
    exact routed.imp fun r => ⟨c, rest, e, r.1, r.2⟩
  · exact .kept (.refl s)

/-- R7: a head that waits for a bulk place is no COMMAND. -/
theorem moveIntake_lasts_of_bothWait (both : bothWait s = true) : Lasts s (moveIntake s) := by
  refine (moveIntake_reached s).kept_of_not fun ⟨c, rest, e, command, _⟩ => ?_
  have bulk := of_decide_eq_true (Bool.and_eq_true_iff.mp both).2
  rw [e, List.head?_cons, Option.map_some, command] at bulk
  cases bulk

theorem testSend_lasts (h : Lasts s t) : Lasts s (testSend t) := h.step (testSend_kept (.refl t))

theorem handPlace_lasts {k : Nat} (h : Lasts s t) : Lasts s (handPlace k t) := by
  induction k generalizing t with
  | zero => exact testSend_lasts h
  | succ k ih =>
    unfold handPlace
    split
    · next both =>
      have turn {x : Option PlaceTaker} : Kept t (t.setToll { t.toll with lastPlace := x }) :=
        setToll_kept_of_same (.refl t)
      split
      · split
        · exact ih (h.trans (moveIntake_lasts_of_bothWait both))
        · exact testSend_lasts ((h.step turn).trans (moveIntake_lasts_of_bothWait both))
      · simp only [bothWait, Bool.and_eq_true] at both
        exact testSend_lasts (h.step (sendRecord_kept turn both.1.1))
    · exact testSend_lasts h

theorem wordEnds_lasts {l : Line} (h : Lasts s t) : Lasts s (wordEnds l t) := by
  have now := reach_lasts (d := (t.tx.get l).endsAt) h
  unfold wordEnds
  dsimp only
  split
  · next k c e =>
    have started := modTx_lasts (l := l) (f := startCell (reach (t.tx.get l).endsAt t).now c k) now
      (startCell_bounded (consecutive_of_chosen e))
    exact .ite (handPlace_lasts started) started
  · exact modTx_lasts now startFill_bounded

theorem advanceIntake_reached (s : State) :
    Reached (∃ c rest, s.centre.intake = c :: rest ∧ CarriesRestart c) s (advanceIntake s) := by
  unfold advanceIntake
  split
  · exact moveIntake_reached s
  · exact .kept (.refl s)

/-! ### The receive filter -/

theorem deliver_reached {c : Cell} (h : Kept s t) : Reached (CarriesRestart c) s (deliver c t) :=
  (handCell_reached (delivered := true) h fun e => nomatch e).step toCentre_lasts

/-- R17, R18: a cell of this station on the receive that copies has been stripped before. -/
theorem copyForward_reached {l : Line} {c : Cell} (h : Kept s t)
    (passing : ¬(t.own = some c.source.toNat ∧ l = copyingLine t.fold)) :
    Reached (CarriesRestart c) s (copyForward l c t) := by
  unfold copyForward
  split
  · next copied =>
    have handed := handCell_reached (delivered := false) (ownPort := false) h
      fun _ _ _ own => passing ⟨own, copied.1⟩
    exact (handed.step toCentre_lasts).step forward_lasts
  · exact .kept (forward_lasts h.toLasts)

theorem routeCell_reached {l : Line} {c : Cell} : Reached (CarriesRestart c) s (routeCell l c s) := by
  unfold routeCell
  split
  · exact deliver_reached (.refl s)
  · split
    · exact .kept (strip_lasts (.refl s))
    · next passing => exact copyForward_reached (.refl s) passing

/-- R44, R45: the station as it becomes MUTE, before its units are told. -/
def muted (s : State) : State := s.setStation { s.station with phase := .mute, duplicateFlag := true }

theorem enterMute_kept : Kept (muted s) (enterMute s) := by
  have purged := purgeInserts_kept (.refl (muted s))
  have emptied : Kept (muted s) ((purgeInserts (muted s)).setCentre { (muted s).centre with intake := [], paused := false }) :=
    setCentre_kept purged (fun _ => Nat.zero_le _) (fun _ _ => nofun) rfl
  have closed := closeChannel_kept (callMute_kept emptied)
  have told := weatherMute_kept (forPorts_kept (f := signMuteOn) (fun _ h => signMuteOn_kept h) closed)
  exact forPorts_kept (f := portMute) (fun _ h => portMute_kept h) told

/-- R44: an own-source HELLO keeps everything, or makes an ACTIVE station MUTE. -/
theorem showOwnHello_cases (c : Cell) (s : State) :
    Kept s (showOwnHello c s) ∨
      (s.phase = .active ∧ c.kind = kHello ∧ s.own = some c.source.toNat ∧ Kept (muted s) (showOwnHello c s)) := by
  unfold showOwnHello
  split
  · next own =>
    unfold ownHelloShown
    split
    · next double => exact .inr ⟨double.2, own.1, own.2, settle_kept enterMute_kept⟩
    · exact .inl (.refl s)
  · exact .inl (.refl s)

/-- R16 to R20, R44: what a cell that arrives does. -/
theorem cellArrivesOn_cases (l : Line) (c : Cell) (s : State) :
    Reached (CarriesRestart c) s (cellArrivesOn l c s) ∨
      (s.phase = .active ∧ c.kind = kHello ∧ s.own = some c.source.toNat ∧
        ∃ u, Lasts s u ∧ Lasts (muted u) (cellArrivesOn l c s)) := by
  have valid : Lasts s (validWord l s) := modLine_lasts (.refl s)
  unfold cellArrivesOn
  split
  · split
    · exact .inl (.kept (modRing_lasts valid))
    · unfold judgeCell
      split
      · exact .inl (.kept (modRing_lasts valid))
      · split
        · exact .inl (.kept (modRing_lasts valid))
        · rcases showOwnHello_cases c (validWord l s) with shown | ⟨active, hello, own, shown⟩
          · exact .inl ((valid.step shown).reached routeCell_reached)
          · refine .inr ⟨valid.phase ▸ active, hello, valid.own ▸ own, _, valid, ?_⟩
            refine (shown.toLasts.reached routeCell_reached).kept_of_not fun r => ?_
            exact absurd (hello.symm.trans r.1) (by decide)
  · exact .inl (.kept (badCell_lasts (.refl s)))

/-! ### One command -/

/-- R185: the commands that start the node afresh. -/
def Restarts (c : Instr) (s : State) : Prop :=
  (∃ pins, c = .reset pins) ∨ (∃ via, c = .restart via) ∨ (∃ l x, c = .cellArrives l x ∧ CarriesRestart x) ∨
    (c = .intakeAdvance ∧ ∃ x rest, s.centre.intake = x :: rest ∧ CarriesRestart x)

/-- What one command does to the state. -/
inductive StepsTo (c : Instr) (s t : State) : Prop
  | keeps : Reached (Restarts c s) s t → StepsTo c s t
  | activates {d : Time} : s.phase = .starting → c = .listeningTimerExpires → Kept (becomeActive d s) t → StepsTo c s t
  | mutes {u : State} : s.phase = .active → (∃ l x, c = .cellArrives l x ∧ x.kind = kHello ∧ s.own = some x.source.toNat) →
      Lasts s u → Lasts (muted u) t → StepsTo c s t

theorem StepsTo.of_lasts {c : Instr} (h : Lasts s t) : StepsTo c s t := .keeps (.kept h)

theorem StepsTo.of_kept {c : Instr} (h : Kept s t) : StepsTo c s t := .of_lasts h.toLasts

theorem StepsTo.of_command {c : Instr} {via : Via} {x : Command} (h : x ≠ .restart) :
    StepsTo c s (commandArrives via x s) := .of_kept (commandArrives_kept (.refl s) fun e => absurd e h)

theorem listeningExpired_steps (s : State) : StepsTo .listeningTimerExpires s (settle (listeningExpired s)) := by
  unfold listeningExpired
  split
  · split
    · next starting =>
      exact .activates starting rfl
        (settle_kept (firstAlarm_kept (followTollCentre_kept (testClaim_kept (sendHello_kept (.refl _))))))
    · exact .of_kept (settle_kept (.refl s))
  · exact .of_kept (settle_kept (.refl s))

theorem cellArrivesOn_steps (l : Line) (x : Cell) (s : State) : StepsTo (.cellArrives l x) s (cellArrivesOn l x s) := by
  rcases cellArrivesOn_cases l x s with h | ⟨active, hello, own, u, kept, mute⟩
  · exact .keeps (h.imp fun r => .inr (.inr (.inl ⟨l, x, rfl, r⟩)))
  · exact .mutes active ⟨l, x, rfl, hello, own⟩ kept mute

/-- Every command completes, in one of the ways of `StepsTo`. -/
theorem exec_stepsTo (c : Instr) (s : State) : ∃ t, exec c s = .next t ∧ StepsTo c s t := by
  have k := Kept.refl s
  have j := Lasts.refl s
  cases c with
  | reset pins => exact ⟨_, rfl, .keeps (.restarted (.inl ⟨pins, rfl⟩) (.refl _))⟩
  | wordEnd l => exact ⟨_, rfl, .of_lasts (wordEnds_lasts j)⟩
  | fillWordArrives l w good => exact ⟨_, rfl, .of_lasts (fillArrives_lasts j)⟩
  | wordCutShort l => exact ⟨_, rfl, .of_kept k⟩
  | cellArrives l x => exact ⟨_, rfl, cellArrivesOn_steps l x s⟩
  | silenceTimerExpires l => exact ⟨_, rfl, .of_lasts (silenceExpired_lasts j)⟩
  | errorWindowEnds l => exact ⟨_, rfl, .of_lasts (windowEnds_lasts j)⟩
  | deafTimerExpires l => exact ⟨_, rfl, .of_lasts (deafExpired_lasts j)⟩
  | provingTimerExpires l => exact ⟨_, rfl, .of_lasts (provingExpired_lasts j)⟩
  | listeningTimerExpires => exact ⟨_, rfl, listeningExpired_steps s⟩
  | helloPeriod => exact ⟨_, rfl, .of_kept (helloPeriodEnds_kept k)⟩
  | heardEntryExpires station => exact ⟨_, rfl, .of_kept (settle_kept (heardExpired_kept k))⟩
  | groupSet => exact ⟨_, rfl, .of_command nofun⟩
  | callFloor => exact ⟨_, rfl, .of_command nofun⟩
  | callPhone => exact ⟨_, rfl, .of_command nofun⟩
  | plateDrop => exact ⟨_, rfl, .of_command nofun⟩
  | plateDropAll => exact ⟨_, rfl, .of_command nofun⟩
  | pageSet => exact ⟨_, rfl, .of_command nofun⟩
  | showPage => exact ⟨_, rfl, .of_command nofun⟩
  | signRestore => exact ⟨_, rfl, .of_command nofun⟩
  | responseSet => exact ⟨_, rfl, .of_command nofun⟩
  | responseClear => exact ⟨_, rfl, .of_command nofun⟩
  | wxRate => exact ⟨_, rfl, .of_command nofun⟩
  | wxLimits => exact ⟨_, rfl, .of_command nofun⟩
  | passOpen => exact ⟨_, rfl, .of_command nofun⟩
  | passClose => exact ⟨_, rfl, .of_command nofun⟩
  | restart via => exact ⟨_, rfl, .keeps ((commandArrives_reached j).imp fun _ => .inr (.inl ⟨via, rfl⟩))⟩
  | offHook => exact ⟨_, rfl, .of_lasts (frameArrives_lasts j)⟩
  | onHook => exact ⟨_, rfl, .of_lasts (frameArrives_lasts j)⟩
  | answer => exact ⟨_, rfl, .of_lasts (frameArrives_lasts j)⟩
  | samples => exact ⟨_, rfl, .of_lasts (frameArrives_lasts j)⟩
  | attemptTimerExpires => exact ⟨_, rfl, .of_kept (settle_kept (attemptExpired_kept k))⟩
  | backoffTimerExpires p => exact ⟨_, rfl, .of_kept (settle_kept (backoffExpired_kept k))⟩
  | holdPeriod => exact ⟨_, rfl, .of_kept (holdPeriodEnds_kept k)⟩
  | remoteEntryExpires c => exact ⟨_, rfl, .of_kept (settle_kept (remoteExpired_kept k))⟩
  | ringingTimerExpires p => exact ⟨_, rfl, .of_kept (settle_kept (ringingExpired_kept k))⟩
  | playoutTimer p => exact ⟨_, rfl, .of_kept (playoutExpired_kept k)⟩
  | record => exact ⟨_, rfl, .of_lasts (frameArrives_lasts j)⟩
  | syncTimerExpires => exact ⟨_, rfl, .of_kept (syncExpired_kept k)⟩
  | retransmitDeadline => exact ⟨_, rfl, .of_kept (retransmit_kept k)⟩
  | partTimerExpires slot => exact ⟨_, rfl, .of_kept (partExpired_kept k)⟩
  | layerApply p => exact ⟨_, rfl, .of_kept (applyLayer_kept k)⟩
  | ready => exact ⟨_, rfl, .of_lasts (frameArrives_lasts j)⟩
  | signBusy => exact ⟨_, rfl, .of_lasts (frameArrives_lasts j)⟩
  | rowsTaken => exact ⟨_, rfl, .of_lasts (frameArrives_lasts j)⟩
  | shown => exact ⟨_, rfl, .of_lasts (frameArrives_lasts j)⟩
  | retryTimerExpires p => exact ⟨_, rfl, .of_kept (signRetry_kept k)⟩
  | answerTimerExpires p => exact ⟨_, rfl, .of_kept (answerExpired_kept k)⟩
  | lingerTimerExpires entry => exact ⟨_, rfl, .of_kept (lingerExpired_kept k)⟩
  | pollTime => exact ⟨_, rfl, .of_kept (poll_kept k)⟩
  | reading => exact ⟨_, rfl, .of_lasts (frameArrives_lasts j)⟩
  | replyTimerExpires => exact ⟨_, rfl, .of_kept (replyExpired_kept k)⟩
  | alarmTimerExpires => exact ⟨_, rfl, .of_kept (alarmExpired_kept k)⟩
  | wxViewEntryExpires station => exact ⟨_, rfl, .of_kept (viewExpired_kept k)⟩
  | ident => exact ⟨_, rfl, .of_lasts (frameArrives_lasts j)⟩
  | alive => exact ⟨_, rfl, .of_lasts (frameArrives_lasts j)⟩
  | badFrame => exact ⟨_, rfl, .of_lasts (linkBytes_lasts j)⟩
  | frameByteTimeout p => exact ⟨_, rfl, .of_lasts (byteTimeout_lasts j)⟩
  | portSilenceTimerExpires p => exact ⟨_, rfl, .of_kept (portSilenceExpired_kept k)⟩
  | aliveTimer p => exact ⟨_, rfl, .of_kept (aliveDue_kept k)⟩
  | portFrameSent p => exact ⟨_, rfl, .of_lasts (frameSent_lasts j)⟩
  | passByte => exact ⟨_, rfl, .of_lasts (linkBytes_lasts j)⟩
  | gatherTimerExpires p => exact ⟨_, rfl, .of_kept (gatherExpired_kept k)⟩
  | passIdleTimerExpires p => exact ⟨_, rfl, .of_kept (idleExpired_kept k)⟩
  | portLineSignal => exact ⟨_, rfl, .of_kept (lineSignal_kept k)⟩
  | lineLossTimerExpires p => exact ⟨_, rfl, .of_kept (lineLossExpired_kept k)⟩
  | cellFrame => exact ⟨_, rfl, .of_lasts (frameArrives_lasts j)⟩
  | intakeAdvance => exact ⟨_, rfl, .keeps ((advanceIntake_reached s).imp fun r => .inr (.inr (.inr ⟨rfl, r⟩)))⟩
  | deliveryFrameSent => exact ⟨_, rfl, .of_lasts (deliverySent_lasts j)⟩
  | statusPeriod => exact ⟨_, rfl, .of_lasts (statusPeriodEnds_lasts j)⟩

theorem stepsTo_of_exec {c : Instr} (h : exec c s = .next t) : StepsTo c s t := by
  obtain ⟨t', e, steps⟩ := exec_stepsTo c s
  cases e.symm.trans h
  exact steps

/-! ### The state after a reset -/

section Reset

variable (pending : List Instr) (clock : Clock) (pins : Straps)

theorem resetWith_signs (p : Port) : (resetWith pending clock pins).signs[p] = resetSign := Vector.getElem_replicate ..

theorem resetWith_responses (k : Fin 16) : (resetWith pending clock pins).responses[k] = resetResponse :=
  Vector.getElem_replicate ..

theorem resetWith_phones (p : Port) : (resetWith pending clock pins).call.phones[p] = resetPhone :=
  Vector.getElem_replicate ..

theorem resetWith_ports (p : Port) : (resetWith pending clock pins).ports[p] = resetPort clock.now :=
  Vector.getElem_replicate ..

theorem resetWith_rx (p : Port) : (resetWith pending clock pins).rx[p] = none := Vector.getElem_replicate ..

theorem resetWith_quantities (i : Fin 7) : (resetWith pending clock pins).weather.quantities[i] = ⟨[], none, none⟩ :=
  Vector.getElem_replicate ..

theorem resetWith_tx (l : Line) : (resetWith pending clock pins).tx.get l = resetTransmitter pins.number clock.now := by
  cases l <;> rfl

theorem resetWith_heardOf (n : Nat) : (resetWith pending clock pins).heardOf n = absentEntry := by
  rw [State.heardOf, show (resetWith pending clock pins).station.heard = Vector.replicate 61 absentEntry from rfl,
    Vector.getElem?_replicate]
  split <;> rfl

theorem resetWith_viewOf (n : Nat) : (resetWith pending clock pins).viewOf n = none := by
  rw [State.viewOf, show (resetWith pending clock pins).weather.view = Vector.replicate 61 none from rfl,
    Vector.getElem?_replicate]
  split <;> rfl

theorem resetWith_bounds : WithinBounds (resetWith pending clock pins) where
  transit l k := by rw [resetWith_tx]; cases k <;> exact Nat.zero_le _
  insert l k := by rw [resetWith_tx]; cases k <;> exact Nat.zero_le _
  fairness l := by rw [resetWith_tx]; exact Nat.zero_le _
  consecutive l := by rw [resetWith_tx]; exact Nat.zero_le _
  floor := Nat.zero_le _
  playout p := by rw [resetWith_phones]; exact Nat.zero_le _
  journal := Nat.zero_le _
  window := Nat.zero_le _
  frames p := by rw [resetWith_ports]; exact Nat.zero_le _
  gather p := by rw [resetWith_ports]; exact Nat.zero_lt_succ _
  rx p x e := by rw [resetWith_rx] at e; cases e
  intake := Nat.zero_le _
  delivery := Nat.zero_le _
  samples i := by rw [resetWith_quantities]; exact Nat.zero_le _

theorem resetWith_claims : ClaimsInOrder (resetWith pending clock pins) where
  rest p := by rw [resetWith_signs]; exact ⟨0, rfl⟩
  once p := by rw [resetWith_signs]; exact List.pairwise_singleton _ _
  priority p c hc ne := by
    rw [resetWith_signs] at hc
    exact absurd (congrArg PageClaim.source (List.mem_singleton.mp hc)) ne
  response p k c hc e := by
    rw [resetWith_signs] at hc
    cases List.mem_singleton.mp hc
    cases e
  entry k := by rw [resetWith_responses]; decide
  order p c hc := by
    rw [resetWith_signs] at hc ⊢
    cases List.mem_singleton.mp hc
    decide

theorem resetWith_tables : TablesInOrder (resetWith pending clock pins) where
  phase := by
    change (if validNumber pins.number then Phase.starting else .strapFault) = .strapFault ↔
      (if validNumber pins.number then some pins.number.toNat else none) = none
    split <;> simp
  heard n _ := by rw [resetWith_heardOf]; exact ⟨rfl, rfl⟩
  view n _ := resetWith_viewOf ..
  intake := nofun
  pass p e := by rw [resetWith_ports] at e; cases e

theorem resetWith_phase : (resetWith pending clock pins).phase = .starting ∨
    (resetWith pending clock pins).phase = .strapFault := by
  change (if validNumber pins.number then Phase.starting else .strapFault) = _ ∨
    (if validNumber pins.number then Phase.starting else .strapFault) = _
  split <;> simp

end Reset

/-! ### What every step keeps -/

/-- The queue and the four invariants. -/
structure Safe (s t : State) : Prop where
  pending : t.pending = s.pending
  bounds : WithinBounds s → WithinBounds t
  store : StoreInOrder s.plates → StoreInOrder t.plates
  claims : ClaimsInOrder s → ClaimsInOrder t
  tables : TablesInOrder s → TablesInOrder t

theorem Lasts.safe (h : Lasts s t) : Safe s t := { h with }

theorem Safe.trans (h : Safe s t) (k : Safe t u) : Safe s u :=
  ⟨k.pending.trans h.pending, k.bounds ∘ h.bounds, k.store ∘ h.store, k.claims ∘ h.claims, k.tables ∘ h.tables⟩

theorem resetWith_safe (s : State) (clock : Clock) (pins : Straps) : Safe s (resetWith s.pending clock pins) :=
  ⟨rfl, fun _ => resetWith_bounds .., fun _ => resetPlates_inOrder, fun _ => resetWith_claims ..,
    fun _ => resetWith_tables ..⟩

theorem Reached.safe (h : Reached R s t) : Safe s t := by
  cases h with
  | kept k => exact k.safe
  | restarted _ k => exact (resetWith_safe ..).trans k.safe

/-- A change from one phase of a numbered station to another. -/
theorem setStation_safe {x : Station} (before : s.phase ≠ .strapFault) (after : x.phase ≠ .strapFault)
    (heard : x.heard = s.station.heard) : Safe s (s.setStation x) where
  pending := rfl
  bounds b := { b with }
  store := id
  claims c := c.congr rfl rfl
  tables c :=
    { c with
      phase := iff_of_false after fun none => before (c.phase.mpr none)
      heard := fun n own => by
        have old := c.heard n own
        rwa [State.heardOf, ← heard] at old }

theorem becomeActive_safe (d : Time) (starting : s.phase = .starting) : Safe s (becomeActive d s) := by
  have reached := reach_kept (d := d) (.refl s)
  refine reached.toLasts.safe.trans (.trans (setStation_safe ?_ ?_ ?_) (setCall_kept_of_same (.refl _)).toLasts.safe)
  · rw [reached.phase, starting]; exact nofun
  · exact nofun
  · rfl

theorem muted_safe (active : s.phase = .active) : Safe s (muted s) :=
  setStation_safe (by rw [active]; exact nofun) nofun rfl

theorem StepsTo.safe {c : Instr} (h : StepsTo c s t) : Safe s t := by
  cases h with
  | keeps h => exact h.safe
  | activates starting _ k => exact (becomeActive_safe _ starting).trans k.toLasts.safe
  | mutes active _ h k => exact h.safe.trans ((muted_safe (h.phase.trans active)).trans k.safe)

/-- Settles O55, by the bounds that every operation keeps. -/
theorem queuesAndCountsStayWithinBounds : Obligations.QueuesAndCountsStayWithinBounds :=
  fun _ _ _ bounds e => (stepsTo_of_exec e).safe.bounds bounds

/-- Settles O56, by the order of the plate store that every operation keeps. -/
theorem plateStoreBlocksKeepOneOwner : Obligations.PlateStoreBlocksKeepOneOwner :=
  fun _ _ _ store e => (stepsTo_of_exec e).safe.store store

/-- Settles O57, by the order of the claims lists that every operation keeps. -/
theorem claimsListsStayInOrder : Obligations.ClaimsListsStayInOrder :=
  fun _ _ _ claims e => (stepsTo_of_exec e).safe.claims claims

/-- Settles O58, by the order of the tables that every operation keeps. -/
theorem stationTablesStayInOrder : Obligations.StationTablesStayInOrder :=
  fun _ _ _ tables e => (stepsTo_of_exec e).safe.tables tables

/-- Settles O2: every command completes in one of the ways of `StepsTo`, none of which touches the queue. -/
theorem everyCommandCompletesAndKeepsTheQueue : Obligations.EveryCommandCompletesAndKeepsTheQueue := by
  refine ⟨fun c s => ?_, fun s empty => ?_⟩
  · obtain ⟨t, e, steps⟩ := exec_stepsTo c s
    exact ⟨t, e, steps.safe.pending⟩
  · rw [step, empty, idle]

/-- Settles O19, by the ways of `StepsTo` in which the phase can change. -/
theorem phasesChangeOnlyAsChapter3Says : Obligations.PhasesChangeOnlyAsChapter3Says := by
  intro c s t e
  cases stepsTo_of_exec e with
  | keeps h =>
    cases h with
    | kept k =>
      rw [k.phase]
      exact ⟨.inl, .inl, fun _ => .inl rfl⟩
    | @restarted clock pins _ restarts k =>
      rw [k.phase]
      refine ⟨fun active => ?_, fun mute => ?_, fun _ => .inr restarts⟩
      · rcases resetWith_phase s.pending clock pins with e | e <;> cases e.symm.trans active
      · rcases resetWith_phase s.pending clock pins with e | e <;> cases e.symm.trans mute
  | activates starting listening k =>
    have : t.phase = .active := k.phase
    rw [this]
    exact ⟨fun _ => .inr ⟨starting, listening⟩, nofun, nofun⟩
  | mutes active hello _ k =>
    have : t.phase = .mute := k.phase
    rw [this]
    exact ⟨nofun, fun _ => .inr ⟨active, hello⟩, nofun⟩

/-- Settles O1: a step is `exec` on the rest of the queue. -/
theorem stepRunsTheFrontCommand : Obligations.StepRunsTheFrontCommand := fun _ _ _ => rfl

/-- Settles O59, by the invariants of the state that any reset gives. -/
theorem invariantsHoldAfterReset : Obligations.InvariantsHoldAfterReset := by
  have good (pending : List Instr) (clock : Clock) (pins : Straps) :=
    And.intro (resetWith_bounds pending clock pins) (And.intro resetPlates_inOrder
      (And.intro (resetWith_claims pending clock pins) (resetWith_tables pending clock pins)))
  refine ⟨good .., fun pins s t e => ?_⟩
  cases e
  exact good ..

end Sys2Proof.Machine
end

section
/-! PROOFS. Obligation O3, the state that a reset leaves (R41, R175, R185): the strap reader's table, then block by block. -/

namespace Sys2Proof.Machine

/-! ### The straps -/

/-- R175: the profile that a code names; NONE for the codes 6 and 7. -/
def namedProfile (code : Nat) : Profile :=
  ([.none, .phone, .sign, .weather, .toll, .centre] : List Profile).getD code .none

/-- R175: on how many ports the profile that a code names may be honoured. -/
def namedLimit (code : Nat) : Nat := ([4, 2, 2, 1, 1, 1] : List Nat).getD code 0

theorem honour_eq (below : List Profile) (code : BitVec 3) :
    honour below code =
      (if below.count (namedProfile code.toNat) < namedLimit code.toNat then namedProfile code.toNat else .none,
        decide (namedLimit code.toNat ≤ below.count (namedProfile code.toNat))) := by
  have named : codeProfile code = (if code.toNat ≤ 5 then some (namedProfile code.toNat) else none) ∧
      (code.toNat ≤ 5 → namedLimit code.toNat = strapLimit (namedProfile code.toNat)) ∧
      (¬code.toNat ≤ 5 → namedProfile code.toNat = .none ∧ namedLimit code.toNat = 0) := by
    revert code
    decide
  obtain ⟨profile, limit, unnamed⟩ := named
  unfold honour
  rw [profile]
  by_cases h : code.toNat ≤ 5
  · simp only [if_pos h, limit h]
    by_cases room : below.count (namedProfile code.toNat) < strapLimit (namedProfile code.toNat)
    · simp [room, Nat.not_le_of_lt room]
    · simp [room, Nat.le_of_not_lt room]
  · simp [h, unnamed h]

/-- R175: the profile and the conflict flag of a port, by the profiles of the ports below it. -/
theorem readStraps_eq (codes : Vector (BitVec 3) 4) (p : Port) :
    (readStraps codes)[p] =
      honour (((List.finRange 4).filter (fun q => decide (q < p))).map (fun q => (readStraps codes)[q].1)) codes[p] := by
  rcases port_cases p with rfl | rfl | rfl | rfl <;> rfl

theorem resetWith_profile (pending : List Instr) (clock : Clock) (pins : Straps) (p : Port) :
    (resetWith pending clock pins).profile p = (readStraps pins.codes)[p].1 :=
  Vector.getElem_map ..

theorem resetWith_conflict (pending : List Instr) (clock : Clock) (pins : Straps) (p : Port) :
    (resetWith pending clock pins).straps.conflicts[p] = (readStraps pins.codes)[p].2 :=
  Vector.getElem_map ..

/-- R175: which profile a port is honoured with after a reset. -/
theorem resetWith_honours (pending : List Instr) (clock : Clock) (pins : Straps) (p : Port) :
    let t := resetWith pending clock pins
    let code := pins.codes[p].toNat
    let lower := ((List.finRange 4).filter (fun q => decide (q < p ∧ t.profile q = namedProfile code))).length
    t.profile p = (if lower < namedLimit code then namedProfile code else .none) ∧
      (t.straps.conflicts[p] = true ↔ namedLimit code ≤ lower) := by
  intro t code lower
  have count : (((List.finRange 4).filter (fun q => decide (q < p))).map
      (fun q => (readStraps pins.codes)[q].1)).count (namedProfile code) = lower := by
    rw [List.count_eq_countP, List.countP_map, List.countP_filter, List.countP_eq_length_filter]
    congr 2
    funext q
    simp only [Function.comp, t, resetWith_profile, Bool.decide_and, Bool.and_comm, Bool.beq_eq_decide_eq]
  have honoured := (readStraps_eq pins.codes p).trans (honour_eq ..)
  rw [count] at honoured
  refine ⟨(resetWith_profile ..).trans (congrArg Prod.fst honoured), ?_⟩
  rw [resetWith_conflict, honoured]
  exact decide_eq_true_iff

/-- R51: the mask of a profile holds the ports of that profile. -/
theorem maskOf_get (profiles : Vector Profile 4) (profile : Profile) (p : Port) :
    (maskOf profiles profile).getLsbD p.val = decide (profiles[p] = profile) := by
  have bits : ∀ a b c d : Bool, let mask := (if a then (1 : BitVec 4) else 0) ||| (if b then 2 else 0) |||
      (if c then 4 else 0) ||| (if d then 8 else 0)
      mask.getLsbD 0 = a ∧ mask.getLsbD 1 = b ∧ mask.getLsbD 2 = c ∧ mask.getLsbD 3 = d := by decide
  have mask := bits (decide (profiles[(0 : Port)] = profile)) (decide (profiles[(1 : Port)] = profile))
    (decide (profiles[(2 : Port)] = profile)) (decide (profiles[(3 : Port)] = profile))
  simp only [decide_eq_true_eq] at mask
  obtain ⟨bit0, bit1, bit2, bit3⟩ := mask
  rcases port_cases p with rfl | rfl | rfl | rfl
  · exact bit0
  · exact bit1
  · exact bit2
  · exact bit3

theorem resetWith_groupMask (pending : List Instr) (clock : Clock) (pins : Straps) :
    let t := resetWith pending clock pins
    (∀ p : Port, (t.groupMask 0).getLsbD p.val = decide (t.profile p = .sign) ∧
      (t.groupMask 1).getLsbD p.val = decide (t.profile p = .phone) ∧
      (t.groupMask 2).getLsbD p.val = decide (t.profile p = .weather) ∧
      (t.groupMask 3).getLsbD p.val = decide (t.profile p = .toll)) ∧
    ∀ g : Fin 32, 4 ≤ g.val → t.groupMask g = 0 := by
  refine ⟨fun p => ⟨maskOf_get .., maskOf_get .., maskOf_get .., maskOf_get ..⟩, fun g hg => ?_⟩
  change (resetGroups _)[g] = 0
  unfold resetGroups
  rw [Fin.getElem_fin, Vector.getElem_set_ne _ _ (by omega), Vector.getElem_set_ne _ _ (by omega),
    Vector.getElem_set_ne _ _ (by omega), Vector.getElem_set_ne _ _ (by omega), Vector.getElem_replicate]

/-! ### The blocks -/

section

variable (pending : List Instr) (clock : Clock) (pins : Straps)

theorem resetWith_lines (l : Line) : (resetWith pending clock pins).lines.get l = resetLine clock.now := by
  cases l <;> rfl

theorem resetWith_centres : (resetWith pending clock pins).selectedCentre = none ∧
    (resetWith pending clock pins).tollCentre = none := by
  constructor <;>
  · refine List.find?_eq_none.mpr fun n _ => ?_
    simp [State.centreHeard, resetWith_heardOf, absentEntry]

theorem resetWith_displayState (p : Port) : displayState (resetWith pending clock pins) p = .noSign := by
  rw [displayState, resetWith_signs, resetWith_ports]
  rfl

theorem resetWith_expected (n : Nat) : (resetWith pending clock pins).expected n = none := by
  rw [State.expected, show (resetWith pending clock pins).toll.receive = Vector.replicate 61 none from rfl,
    Vector.getElem?_replicate]
  split <;> rfl

theorem resetWith_pollTimer : (resetWith pending clock pins).weather.pollTimer =
    (if (1 ≤ pins.number.toNat ∧ pins.number.toNat ≤ 60) ∧ ∃ p, (resetWith pending clock pins).profile p = .weather
      then some (clock.now + 10000000000) else none) := by
  have weather : ((readStraps pins.codes).map (·.1)).contains Profile.weather = true ↔
      ∃ p, (resetWith pending clock pins).profile p = .weather := by
    rw [Vector.contains_iff_exists_mem_beq]
    constructor
    · rintro ⟨k, hk, e⟩
      obtain ⟨i, hi, rfl⟩ := Vector.getElem_of_mem hk
      exact ⟨⟨i, hi⟩, (beq_iff_eq.mp e).symm⟩
    · rintro ⟨p, e⟩
      exact ⟨_, Vector.getElem_mem p.isLt, beq_iff_eq.mpr e.symm⟩
  change (if validNumber pins.number && _ then _ else none) = _
  refine ite_congr (propext ?_) (fun _ => rfl) fun _ => rfl
  rw [Bool.and_eq_true, weather, validNumber, decide_eq_true_iff]

end

/-- Settles O3: the tables of the straps and the groups, and each block's reset values. -/
theorem resetLeavesEveryBlockInItsResetState : Obligations.ResetLeavesEveryBlockInItsResetState := by
  intro pins s
  refine ⟨resetWith s.pending s.clock pins, rfl, rfl, rfl, rfl, rfl, fun _ => resetWith_honours .., rfl, rfl, fun l => ?_,
    ite_congr (propext decide_eq_true_iff) (fun _ => rfl) (fun _ => rfl), ite_congr (propext decide_eq_true_iff) (fun _ => rfl) (fun _ => rfl), rfl, rfl, rfl, rfl, rfl, rfl, rfl, rfl,
    fun n => ?_, (resetWith_groupMask ..).1, (resetWith_groupMask ..).2, (resetWith_centres ..).1,
    (resetWith_centres ..).2, rfl, fun _ => Vector.getElem_replicate .., rfl, rfl, rfl, rfl, rfl,
    fun _ => resetWith_phones .., rfl, rfl, rfl, rfl, rfl, rfl, rfl, rfl, rfl, rfl, fun _ => resetWith_expected ..,
    fun _ => Vector.getElem_replicate .., rfl, fun _ => Vector.getElem_replicate .., fun _ => Vector.getElem_replicate ..,
    fun _ => Vector.getElem_replicate .., rfl, rfl, rfl, rfl, rfl, fun p => ?_, rfl, fun _ => resetWith_responses ..,
    rfl, rfl, rfl, resetWith_pollTimer .., fun _ => resetWith_quantities .., rfl, rfl, rfl, rfl, rfl, rfl, rfl, rfl,
    fun _ => resetWith_viewOf .., rfl, rfl, rfl, fun p => ⟨resetWith_rx .., resetWith_ports ..⟩, rfl, rfl⟩
  · rw [resetWith_lines, resetWith_tx]
    exact ⟨rfl, rfl, rfl, rfl, rfl, rfl, rfl, rfl, rfl, rfl, rfl, rfl, rfl, rfl, rfl, rfl, rfl⟩
  · rw [resetWith_heardOf]
    exact ⟨rfl, rfl⟩
  · rw [resetWith_displayState, resetWith_signs]
    exact ⟨fun _ => Vector.getElem_replicate .., rfl, rfl, rfl, rfl, rfl, rfl, rfl, rfl, rfl, rfl, rfl, rfl, rfl, rfl, rfl,
      rfl, rfl, rfl, rfl, rfl⟩

end Sys2Proof.Machine
end

section
/-! PROOFS. The ring: what the next word on a line is (R1, R2, R7, R10 to R12), what a fill word and a cell that arrives do to
their line unit (R13 to R15, R24 to R29), and which cells the filter forwards, strips and counts (R16 to R19). -/

namespace Sys2Proof.Machine

variable {s : State} {l : Line} {c : Cell}

/-! ### The sending test of the toll unit (R92) -/

theorem testSend_of_idle (idle : tollWants s = false) : testSend s = s := by
  rw [testSend, Config.sendWindow, sendRecords, idle]
  rfl

theorem testSend_of_full (full : s.insertRoom .b = false) : testSend s = s := by
  rw [testSend, Config.sendWindow, sendRecords, full, Bool.and_false]
  rfl

/-- A place for one record only: one record is sent. -/
theorem testSend_once (wants : tollWants s = true) (room : s.insertRoom .b = true)
    (full : (sendRecord s).insertRoom .b = false) : testSend s = sendRecord s := by
  rw [testSend, Config.sendWindow, sendRecords, wants, room, Bool.and_true, if_pos rfl, sendRecords, full, Bool.and_false]
  rfl

/-- R92: the oldest record is NEW, and is sent. -/
theorem sendRecord_oldest {bound : Nat} {r : TollRecord} {j : List TollRecord} (hb : s.toll.bound = some bound)
    (hj : s.toll.journal = r :: j) (new : r.sent = none) (room : s.insertRoom .b = true) :
    sendRecord s = (enqueueInsert (insertLine s.fold)
        (originate kTollRec (natByte bound) (tollBodyBytes r.number r.body) s) s).setToll { s.toll with
      journal := { r with sent := some s.now } :: j, sendMark := some (newestSent s.toll.sendMark r.number) } := by
  have oldest : sendOldest s.now (r :: j) = some (r, { r with sent := some s.now } :: j) := by
    rw [sendOldest, show r.isSent = false by rw [TollRecord.isSent, new]; rfl]
    rfl
  unfold sendRecord
  rw [hb, hj, oldest]
  dsimp only
  rw [offer, show s.insertRoom (classOf kTollRec) = true from room, if_pos rfl]
  rfl

/-! ### A word ends (R1, R2, R7, R10 to R12) -/

/-- The choice of the arbiter for the next word of a line. -/
def State.next (s : State) (l : Line) : Option (Pick × Cell) := chosen (decide ((s.lines.get l).state = .up)) (s.tx.get l)

/-- The state in which a word ends. -/
def atWordEnd (l : Line) (s : State) : State := reach (s.tx.get l).endsAt s

theorem wordEnds_fill (h : s.next l = none) :
    wordEnds l s = modTx l (startFill (atWordEnd l s).now ⟨s.straps.number, s.fold, heardFlag l (atWordEnd l s)⟩)
      (atWordEnd l s) := by
  unfold wordEnds
  dsimp only
  rw [show chosen (decide (((reach (s.tx.get l).endsAt s).lines.get l).state = .up)) ((reach (s.tx.get l).endsAt s).tx.get l) =
    none from h]
  rfl

/-- A cell that starts. -/
def startPicked (l : Line) (k : Pick) (c : Cell) (s : State) : State :=
  modTx l (startCell (atWordEnd l s).now c k) (atWordEnd l s)

theorem wordEnds_cell {k : Pick} (h : s.next l = some (k, c)) :
    wordEnds l s = if k = .insert .b ∧ l = insertLine s.fold then placeFreed (startPicked l k c s) else startPicked l k c s := by
  unfold wordEnds
  dsimp only
  rw [show chosen (decide (((reach (s.tx.get l).endsAt s).lines.get l).state = .up)) ((reach (s.tx.get l).endsAt s).tx.get l) =
    some (k, c) from h]
  rfl

theorem wordEnds_otherCell {k : Pick} (h : s.next l = some (k, c)) (other : ¬(k = .insert .b ∧ l = insertLine s.fold)) :
    exec (.wordEnd l) s = .next (startPicked l k c s) :=
  congrArg Host.Outcome.next ((wordEnds_cell h).trans (if_neg other))

theorem wordEnds_bulk (h : s.next l = some (.insert .b, c)) (here : l = insertLine s.fold) :
    exec (.wordEnd l) s = .next (placeFreed (startPicked l (.insert .b) c s)) :=
  congrArg Host.Outcome.next ((wordEnds_cell h).trans (if_pos ⟨rfl, here⟩))

theorem next_of_pick {k : Pick} {q : List Cell} (up : (s.lines.get l).state = .up) (few : (s.tx.get l).consecutive < 16)
    (hk : pick (s.tx.get l) = some k) (hq : pickedQueue (s.tx.get l) k = c :: q) : s.next l = some (k, c) := by
  rw [State.next, chosen, decide_eq_true up, show decide ((s.tx.get l).consecutive < Config.maxConsecutive) = true from
    decide_eq_true few, hk]
  simp only [Bool.and_self, if_true, hq, List.head?_cons, Option.map_some]

/-- R1: the place freed is no place for the toll unit, which wants none. -/
theorem placeFreed_of_idle (idle : tollWants s = false) : placeFreed s = s := by
  unfold placeFreed
  cases s.centre.intake.length with
  | zero => exact testSend_of_idle idle
  | succ n =>
    rw [handPlace, if_neg (by rw [bothWait, idle]; nofun)]
    exact testSend_of_idle idle

/-- Settles O4: the arbiter has no choice in any of the three cases. -/
theorem wordEndSendsAFillWordWhenNoCellCanStart : Obligations.WordEndSendsAFillWordWhenNoCellCanStart := by
  intro l s h
  have none : s.next l = none := by
    rw [State.next, chosen]
    rcases h with down | sixteen | ⟨transit, insert⟩
    · rw [decide_eq_false down]; rfl
    · rw [sixteen, show decide (16 < Config.maxConsecutive) = false from rfl, Bool.and_false]; rfl
    · have : pick (s.tx.get l) = .none := by simp [pick, pickBulk, transit, insert]
      rw [this]; split <;> rfl
  refine ⟨heardFlag l (atWordEnd l s), ?_, congrArg Host.Outcome.next (wordEnds_fill none)⟩
  unfold heardFlag
  rw [show ((atWordEnd l s).lines.get l).silence = (s.lines.get l).silence from rfl]
  cases (s.lines.get l).silence with
  | none => simp
  | some d =>
    simp only [decide_eq_true_eq, Option.some.injEq, exists_eq_left']
    rfl

/-- The transmitter of a line whose picked cell starts. -/
theorem startPicked_eq (l : Line) (k : Pick) (c : Cell) (s : State) :
    startPicked l k c s = (s.setClock { s.clock with now := max s.clock.now (s.tx.get l).endsAt }).setTx
      (s.tx.set l { dropPicked (s.tx.get l) k with
        fairness := fairnessAfter (s.tx.get l).fairness k, consecutive := (s.tx.get l).consecutive + 1
        onLine := .cell c, endsAt := max s.clock.now (s.tx.get l).endsAt + 5120 }) := rfl

/-- Settles O5, by the pick in each case of the arbiter's order. -/
theorem wordEndStartsTheCellTheArbiterChooses : Obligations.WordEndStartsTheCellTheArbiterChooses := by
  intro l s c q x hx up few
  subst hx
  dsimp only
  refine ⟨fun v => ?_, fun v v' => ?_, fun v v' c1 => ?_, fun v v' c1 c2 => ?_, fun v v' c1 c2 b unfair => ?_,
    fun v v' c1 c2 b turn idle => ?_⟩
  · have next := next_of_pick (k := .transit .v) up few (by simp [pick, v]) v
    rw [wordEnds_otherCell next nofun, startPicked_eq]
    simp [dropPicked, Queues.get, Queues.set, fairnessAfter, v]
  · have next := next_of_pick (k := .insert .v) up few (by simp [pick, v, v']) v'
    rw [wordEnds_otherCell next (fun e => nomatch e.1), startPicked_eq]
    simp [dropPicked, Queues.get, Queues.set, fairnessAfter, v']
  · have next := next_of_pick (k := .transit .c) up few (by simp [pick, v, v', c1]) c1
    rw [wordEnds_otherCell next nofun, startPicked_eq]
    simp [dropPicked, Queues.get, Queues.set, fairnessAfter, c1]
  · have next := next_of_pick (k := .insert .c) up few (by simp [pick, v, v', c1, c2]) c2
    rw [wordEnds_otherCell next (fun e => nomatch e.1), startPicked_eq]
    simp [dropPicked, Queues.get, Queues.set, fairnessAfter, c2]
  · have bulk : pick (s.tx.get l) = some (.transit .b) := by
      simp only [pick, v, v', c1, c2, pickBulk, b, ne_eq, not_true_eq_false, if_false, reduceCtorEq, false_or,
        not_false_eq_true, if_true]
      exact if_neg unfair
    have next := next_of_pick up few bulk b
    rw [wordEnds_otherCell next nofun, startPicked_eq]
    simp [dropPicked, Queues.get, Queues.set, fairnessAfter, b, Config.maxFairness]
    rfl
  · have bulk : pick (s.tx.get l) = some (.insert .b) := by
      simp only [pick, v, v', c1, c2, pickBulk, b, ne_eq, not_true_eq_false, if_false, reduceCtorEq,
        not_false_eq_true, true_and]
      exact if_pos turn
    have next := next_of_pick up few bulk b
    have started : exec (.wordEnd l) s = .next (startPicked l (.insert .b) c s) := by
      rcases idle with idle | elsewhere
      · refine congrArg Host.Outcome.next ((wordEnds_cell next).trans ?_)
        split
        · exact placeFreed_of_idle idle
        · rfl
      · exact wordEnds_otherCell next fun e => elsewhere e.2
    rw [started, startPicked_eq]
    simp [dropPicked, Queues.get, Queues.set, fairnessAfter, b]

/-! ### A freed bulk place that both wait for (R7) -/

/-- R7: the queue that a cell joins. -/
theorem insertQueue_enqueue (x : Cell) (s : State) :
    (enqueueInsert (insertLine s.fold) x s).insertQueue (classOf x.kind) = s.insertQueue (classOf x.kind) ++ [x] := by
  rw [State.insertQueue, show (enqueueInsert (insertLine s.fold) x s).fold = s.fold from rfl, enqueueInsert, modTx,
    State.setTx_tx, Both.get_set_same]
  exact Queues.get_set_same ..

/-- A queue of 32 bulk cells has no room. -/
theorem insertRoom_of_full {q : List Cell} (hq : s.insertQueue .b = q ++ [c]) (long : q.length = 31) :
    s.insertRoom .b = false := by
  rw [State.insertRoom, hq, List.length_append, long]
  rfl

theorem goIfLow_intake (s : State) : (goIfLow s).centre.intake = s.centre.intake := by
  have sent (p : Port) (u : State) : (sendService p goFrame u).centre = u.centre :=
    (sendService_keeps p goFrame u).same .centre (by decide)
  unfold goIfLow
  split
  · split
    · rw [sent]; rfl
    · rfl
  · rfl

theorem addressingOf_unicast {dest : Byte} (hi : dest.toNat ≤ 60) : addressingOf dest = .unicast := by
  rw [addressingOf, if_neg (fun e => ?_), if_neg fun h => by omega]
  rw [e] at hi
  exact absurd hi (by decide)

/-- R182: the state in which the head of the FIFO has been taken and waits to be routed. -/
def headTaken (rest : List Cell) (s : State) : State := goIfLow (s.setCentre { s.centre with intake := rest })

theorem headTaken_keeps (rest : List Cell) (s : State) : SameBut [.ports, .portCounts, .centre] s (headTaken rest s) :=
  .trans (.mono State.setCentre_keeps rfl) (goIfLow_keeps _)

theorem headTaken_intake (rest : List Cell) (s : State) : (headTaken rest s).centre.intake = rest := goIfLow_intake _

theorem SameBut.own_eq {ps : List Part} {t : State} (h : SameBut ps s t) (hp : .straps ∉ ps) : t.own = s.own := by
  rw [State.own, h.same .straps hp]; rfl

theorem SameBut.fold_eq {ps : List Part} {t : State} (h : SameBut ps s t) (hp : .lines ∉ ps) : t.fold = s.fold := by
  rw [State.fold, h.same .lines hp]; rfl

theorem SameBut.insertQueue_eq {ps : List Part} {t : State} (h : SameBut ps s t) (hl : .lines ∉ ps) (ht : .tx ∉ ps)
    (k : CellClass) : t.insertQueue k = s.insertQueue k := by
  rw [State.insertQueue, h.fold_eq hl, h.same .tx ht]; rfl

theorem SameBut.originate_eq {ps : List Part} {t : State} (h : SameBut ps s t) (hp : .straps ∉ ps) (kind dest : Byte)
    (payload : List Byte) : originate kind dest payload t = originate kind dest payload s := by
  rw [originate, State.ownByte, h.same .straps hp]; rfl

/-- R182: the head of the FIFO, for another station and with room in its queue, joins the insert queue. -/
theorem moveIntake_joins {rest : List Cell} (head : s.centre.intake = c :: rest) (hi : c.dest.toNat ≤ 60)
    (away : s.own ≠ some c.dest.toNat) (room : s.insertRoom (classOf c.kind) = true) :
    moveIntake s = enqueueInsert (insertLine s.fold) (originate c.kind c.dest (clearUnused c.kind c.payload) s)
      (headTaken rest s) := by
  have kept := headTaken_keeps rest s
  have own := kept.own_eq (by decide)
  have room' : (headTaken rest s).insertRoom (classOf c.kind) = true := by
    rw [State.insertRoom, kept.insertQueue_eq (by decide) (by decide)]; exact room
  unfold moveIntake
  rw [head]
  dsimp only
  rw [routeIntake]
  change (if (headTaken rest s).own = some c.dest.toNat then _ else if addressingOf c.dest = .unicast then
    offerCounted c.kind c.dest (clearUnused c.kind c.payload) (headTaken rest s) else _) = _
  rw [if_neg (own ▸ away), if_pos (addressingOf_unicast hi), offerCounted, offer, if_pos room',
    kept.fold_eq (by decide), kept.originate_eq (by decide)]

/-- R182: a PASS cell at the head of the FIFO that is for this station takes no place. -/
theorem moveIntake_here {rest : List Cell} (head : s.centre.intake = c :: rest) (hi : c.dest.toNat ≤ 60)
    (here : s.own = some c.dest.toNat) (pass : c.kind = kPass) :
    SameBut [.ports, .portCounts, .centre] s (moveIntake s) ∧ (moveIntake s).centre.intake = rest := by
  have kept := headTaken_keeps rest s
  have own := kept.own_eq (by decide)
  have handed : moveIntake s =
      whenActive (passDelivered (intakeCell c s).source.toNat c.payload) (headTaken rest s) := by
    unfold moveIntake
    rw [head]
    dsimp only
    rw [routeIntake]
    change (if (headTaken rest s).own = some c.dest.toNat then
      (handCell true true (intakeCell c s) (headTaken rest s)).1 else _) = _
    rw [if_pos (own.trans here), handCell, show (intakeCell c s).dest = c.dest from rfl, addressingOf_unicast hi,
      show (intakeCell c s).kind = kPass from pass]
    unfold handPlain
    rw [show (intakeCell c s).kind = kPass from pass]
    rfl
  rw [handed, whenActive]
  split
  · have delivered := passDelivered_keeps (intakeCell c s).source.toNat c.payload (headTaken rest s)
    have centre : (passDelivered (intakeCell c s).source.toNat c.payload (headTaken rest s)).centre =
        (headTaken rest s).centre := delivered.same .centre (by decide)
    exact ⟨kept.trans (delivered.mono rfl), by rw [centre, headTaken_intake]⟩
  · exact ⟨kept, headTaken_intake rest s⟩

/-- R7: the turn has been taken. -/
def turned (taker : PlaceTaker) (s : State) : State := s.setToll { s.toll with lastPlace := some taker }

theorem handPlace_toll {k : Nat} (both : bothWait s = true) (turn : s.toll.lastPlace ≠ some .toll) :
    handPlace (k + 1) s = testSend (sendRecord (turned .toll s)) := by
  rw [handPlace, if_pos both, if_neg turn]; rfl

theorem handPlace_intake {k : Nat} (both : bothWait s = true) (turn : s.toll.lastPlace = some .toll)
    (away : headStaysHere s = false) : handPlace (k + 1) s = testSend (moveIntake (turned .intake s)) := by
  rw [handPlace, if_pos both, if_pos turn, away]; rfl

theorem handPlace_here {k : Nat} (both : bothWait s = true) (turn : s.toll.lastPlace = some .toll)
    (here : headStaysHere s = true) : handPlace (k + 1) s = handPlace k (moveIntake s) := by
  rw [handPlace, if_pos both, if_pos turn, if_pos here]

/-- What one record in the last bulk place leaves, the oldest record being the NEW one. -/
theorem lastPlace_sent {bound : Nat} {r : TollRecord} {j : List TollRecord} {q : List Cell} (hb : s.toll.bound = some bound)
    (hj : s.toll.journal = r :: j) (new : r.sent = none) (hq : s.insertQueue .b = q) (long : q.length = 31) :
    (sendRecord s).toll = { s.toll with
      journal := { r with sent := some s.now } :: j, sendMark := some (newestSent s.toll.sendMark r.number) } ∧
    (sendRecord s).insertQueue .b =
      q ++ [originate kTollRec (natByte bound) (tollBodyBytes r.number r.body) s] ∧
    (sendRecord s).insertRoom .b = false ∧ (sendRecord s).centre = s.centre := by
  have room : s.insertRoom .b = true := by rw [State.insertRoom, hq, long]; rfl
  have queue : (sendRecord s).insertQueue .b =
      q ++ [originate kTollRec (natByte bound) (tollBodyBytes r.number r.body) s] := by
    rw [sendRecord_oldest hb hj new room, ← hq]
    exact insertQueue_enqueue (originate kTollRec (natByte bound) (tollBodyBytes r.number r.body) s) s
  refine ⟨?_, queue, insertRoom_of_full queue long, ?_⟩ <;> rw [sendRecord_oldest hb hj new room] <;> rfl

/-- Settles O6: the freed place is handed out by the turn, and the queue is then full. -/
theorem freedBulkPlaceGoesInTurn : Obligations.FreedBulkPlaceGoesInTurn := by
  intro l s c i q rest r j bound hl up few transit insert long active opened hb hj new window head pass lo hi
  subst hl
  dsimp only
  have next : s.next (insertLine s.fold) = some (.insert .b, c) :=
    next_of_pick up few (by simp [pick, pickBulk, transit, insert]) (q := q) (by rw [pickedQueue, insert]; rfl)
  let u := startPicked (insertLine s.fold) (.insert .b) c s
  have queue : u.insertQueue .b = q := by
    simp only [u, State.insertQueue, startPicked_eq, State.setTx_fold, State.setClock_fold, State.setTx_tx]
    simp [dropPicked, insert, Queues.get, Queues.set]
  have room : u.insertRoom .b = true := by rw [State.insertRoom, queue, long]; rfl
  have wants : tollWants u = true := by
    rw [tollWants, show u.toll = s.toll from rfl, opened, hj, sentCount, List.countP_cons_of_neg (by simp [TollRecord.isSent, new])]
    simp only [List.any_cons, TollRecord.isSent, new, Option.isSome_none, Bool.not_false, Bool.true_or, decide_true,
      Bool.true_and]
    exact decide_eq_true window
  have both : bothWait u = true := by
    rw [bothWait, wants, intakeReady, show u.centre = s.centre from rfl, head, show u.phase = s.phase from rfl, active]
    simpa [show classOf i.kind = .b by rw [pass]; rfl] using room
  have placed : placeFreed u = handPlace (rest.length + 1) u := by
    rw [placeFreed, show u.centre = s.centre from rfl, head]; rfl
  have stays : headStaysHere u = decide (s.own = some i.dest.toNat) := by
    rw [headStaysHere, show u.centre = s.centre from rfl, head]; rfl
  refine ⟨_, wordEnds_bulk next rfl, fun tollTurn => ?_, fun intakeTurn away => ?_, fun intakeTurn here single => ?_⟩
  · obtain ⟨toll, sent, full, centre⟩ := lastPlace_sent (s := turned .toll u) hb hj new queue long
    rw [State.insertQueue, (sendRecord_keeps (turned .toll u)).fold_eq (by decide)] at sent
    rw [show placeFreed (startPicked (insertLine s.fold) (.insert .b) c s) = _ from placed, handPlace_toll both tollTurn,
      testSend_of_full full]
    exact ⟨toll, (congrArg _ centre).trans head, sent⟩
  · have moved := moveIntake_joins (s := turned .intake u) head hi away
      (show u.insertRoom (classOf i.kind) = true by rw [pass]; exact room)
    have kept := headTaken_keeps rest (turned .intake u)
    have toll : (headTaken rest (turned .intake u)).toll = (turned .intake u).toll := kept.same .toll (by decide)
    have sent := insertQueue_enqueue (originate i.kind i.dest (clearUnused i.kind i.payload) (turned .intake u))
      (headTaken rest (turned .intake u))
    rw [kept.fold_eq (by decide), kept.insertQueue_eq (by decide) (by decide), ← moved,
      show classOf (originate i.kind i.dest (clearUnused i.kind i.payload) (turned .intake u)).kind = .b from
        (congrArg classOf pass)] at sent
    have queued : (moveIntake (turned .intake u)).insertQueue .b = q ++ [_] := sent.trans (congrArg (· ++ [_]) queue)
    rw [show placeFreed (startPicked (insertLine s.fold) (.insert .b) c s) = _ from placed,
      handPlace_intake both intakeTurn (stays.trans (decide_eq_false away)),
      testSend_of_full (insertRoom_of_full queued long)]
    rw [State.insertQueue, show (moveIntake (turned .intake u)).fold = s.fold from
      (congrArg State.fold moved).trans (kept.fold_eq (by decide))] at queued
    refine ⟨?_, ?_, queued⟩
    · rw [moved]; exact toll
    · rw [moved]; exact headTaken_intake ..
  · obtain ⟨kept, emptied⟩ := moveIntake_here (s := u) head hi here pass
    rw [single] at emptied placed
    have now : (moveIntake u).now = u.now := congrArg Clock.now (kept.same .clock (by decide))
    have toll : (moveIntake u).toll = u.toll := kept.same .toll (by decide)
    have queue' := (kept.insertQueue_eq (by decide) (by decide) .b).trans queue
    have room' : (moveIntake u).insertRoom .b = true := by rw [State.insertRoom, queue', long]; rfl
    have sent := lastPlace_sent (s := moveIntake u) (toll ▸ hb) (toll ▸ hj) new queue' long
    rw [toll, now, kept.originate_eq (by decide)] at sent
    obtain ⟨sentToll, sent, full, centre⟩ := sent
    rw [State.insertQueue, (sendRecord_keeps _).fold_eq (by decide), kept.fold_eq (by decide)] at sent
    rw [show placeFreed (startPicked (insertLine s.fold) (.insert .b) c s) = _ from placed, List.length_nil,
      handPlace_here both intakeTurn (stays.trans (decide_eq_true here)), handPlace,
      testSend_once (by rw [tollWants, toll]; exact wants) room' full]
    exact ⟨sentToll, (congrArg _ centre).trans emptied, sent⟩

end Sys2Proof.Machine
end

section
/-! PROOFS. What reaches a line unit: fill words (R3, R24, R26, R27), the cells that the filter discards at its first
steps (R13 to R15), and the down conditions with the changes of the fold state that they bring (R24 to R29). -/

namespace Sys2Proof.Machine

variable {s t u : State} {l : Line} {c : Cell}

/-! ### Changes of one line unit -/

theorem modLine_get (f : LineUnit → LineUnit) (s : State) : (modLine l f s).lines.get l = f (s.lines.get l) :=
  Both.get_set_same ..

/-- R24: a line unit to which a valid word has been reported. -/
def heardWord (now : Time) (u : LineUnit) : LineUnit := { u with silence := some (now + Config.lineSilence) }

/-- Settles O7: a good fill word is two changes of its line unit, one after the other. -/
theorem fillWordsAreReportedToTheirLine : Obligations.FillWordsAreReportedToTheirLine := by
  intro l w s
  refine ⟨rfl, rfl, proveIfHeard s.now (hearFill s.now w (heardWord s.now (s.lines.get l))),
    ?_, ?_⟩
  · cases l <;> rfl
  · by_cases proves : (s.lines.get l).state = .down ∧ w.heard = true
    · simp [proveIfHeard, hearFill, heardWord, proves]
      exact ⟨rfl, rfl, rfl⟩
    · rw [show proveIfHeard s.now (hearFill s.now w (heardWord s.now (s.lines.get l))) =
        hearFill s.now w (heardWord s.now (s.lines.get l)) from if_neg proves]
      refine ⟨rfl, rfl, rfl, rfl, rfl, rfl, fun h => if_pos h, fun h d e => ?_, fun h e => ?_,
        fun d h => absurd ⟨d, h⟩ proves, fun _ => ⟨rfl, rfl, rfl, rfl⟩⟩ <;> simp only [hearFill, heardWord, h, e] <;> rfl

/-! ### Steps 1 to 3 of the receive filter -/

/-- R13: one more bad cell of a line. -/
def badCounted (l : Line) (r : RingCounters) : RingCounters :=
  match l with
  | .u => { r with badU := bump r.badU }
  | .d => { r with badD := bump r.badD }

theorem cellArrives_bad (bad : checkGood c = false) :
    exec (.cellArrives l c) s = .next (badCellReported l (s.setRing (badCounted l s.ring))) := by
  refine congrArg Host.Outcome.next ?_
  rw [cellArrivesOn, bad, if_neg nofun, badCell]
  cases l <;> rfl

theorem cellArrives_malformed (good : checkGood c = true) (bad : malformed c = true) :
    exec (.cellArrives l c) s = .next (modRing (fun r => { r with malformed := bump r.malformed }) (validWord l s)) := by
  refine congrArg Host.Outcome.next ?_
  rw [cellArrivesOn, if_pos good, if_pos bad]

theorem cellArrives_judged (good : checkGood c = true) (formed : malformed c = false) :
    exec (.cellArrives l c) s = .next (judgeCell l c (validWord l s)) := by
  refine congrArg Host.Outcome.next ?_
  rw [cellArrivesOn, if_pos good, formed, if_neg nofun]

/-- R13: what makes a cell with a good check malformed. -/
theorem malformed_iff (c : Cell) : malformed c = true ↔
    ¬(1 ≤ c.kind.toNat ∧ c.kind.toNat ≤ 15) ∨ ¬(1 ≤ c.source.toNat ∧ c.source.toNat ≤ 60) ∨
      ¬((1 ≤ c.dest.toNat ∧ c.dest.toNat ≤ 60) ∨ (64 ≤ c.dest.toNat ∧ c.dest.toNat ≤ 95) ∨ c.dest.toNat = 255) := by
  rw [malformed, Bool.not_eq_true', Bool.eq_false_iff, Ne, Bool.and_eq_true, Bool.and_eq_true, validDest,
    decide_eq_true_eq, decide_eq_true_eq, decide_eq_true_eq, Decidable.not_and_iff_or_not, Decidable.not_and_iff_or_not,
    or_assoc]

/-- Settles O8, step by step of the filter. -/
theorem receiveFilterDiscardsAtSteps1To3 : Obligations.ReceiveFilterDiscardsAtSteps1To3 := by
  intro l c s heard e
  subst e
  refine ⟨fun bad few => ?_, fun good bad => ?_, fun good formed down => ?_, fun good formed up last => ?_, malformed_iff c⟩
  · rw [cellArrives_bad bad, badCellReported]
    dsimp only
    rw [if_neg (show ¬(((s.setRing (badCounted l s.ring)).lines.get l).windowBad + 1 = Config.errorLimit) from fun e => few (Nat.succ.inj e))]
    cases l <;> rfl
  · exact cellArrives_malformed good bad
  · rw [cellArrives_judged good formed, judgeCell, if_pos]
    · rfl
    · rw [validWord, modLine_get]; exact down
  · rw [cellArrives_judged good formed, judgeCell, if_neg, if_pos last]
    · rfl
    · rw [validWord, modLine_get]; exact not_not_intro up

/-! ### Changes of the fold state -/

/-- R31 to R34: what the queue moves of a fold change leave as it is, apart from whole parts of the state. -/
structure TransitMoved (s t : State) : Prop where
  ring : t.ring = { s.ring with flushed := t.ring.flushed }
  insert : ∀ k, (t.tx.get k).insert = (s.tx.get k).insert

theorem TransitMoved.refl (s : State) : TransitMoved s s := ⟨rfl, fun _ => rfl⟩

theorem TransitMoved.trans (h : TransitMoved s t) (k : TransitMoved t u) : TransitMoved s u :=
  ⟨by rw [k.ring, h.ring], fun l => (k.insert l).trans (h.insert l)⟩

theorem flushTransit_moved (l : Line) (s : State) : TransitMoved s (flushTransit l s) :=
  ⟨rfl, fun k => by cases l <;> cases k <;> rfl⟩

theorem moveTransit_moved (l dest : Line) (s : State) : TransitMoved s (moveTransit l dest s) :=
  ⟨rfl, fun k => by cases l <;> cases dest <;> cases k <;> rfl⟩

theorem foldMoves_moved (before after : Fold) (s : State) : TransitMoved s (foldMoves before after s) := by
  unfold foldMoves
  split
  · exact (flushTransit_moved .u s).trans (flushTransit_moved .d _)
  · split
    · exact moveTransit_moved ..
    · split
      · exact moveTransit_moved ..
      · split
        · exact flushTransit_moved ..
        · exact .refl s

/-- R92: the sending test fills B insert queues only. -/
def BulkOnly (s t : State) : Prop :=
  ∀ k, (t.tx.get k).insert.v = (s.tx.get k).insert.v ∧ (t.tx.get k).insert.c = (s.tx.get k).insert.c

theorem BulkOnly.trans (h : BulkOnly s t) (j : BulkOnly t u) : BulkOnly s u := fun k =>
  ⟨(j k).1.trans (h k).1, (j k).2.trans (h k).2⟩

theorem enqueueInsert_bulkOnly (bulk : classOf c.kind = .b) (l : Line) (s : State) : BulkOnly s (enqueueInsert l c s) := by
  intro k
  by_cases h : k = l
  · subst h
    simp [enqueueInsert, modTx, bulk, Queues.set]
  · simp [enqueueInsert, modTx, Both.get_set_other _ _ _ _ h]

theorem offer_bulkOnly {kind dest : Byte} {payload : List Byte} (bulk : classOf kind = .b) :
    BulkOnly s (offer kind dest payload s).1 := by
  unfold offer
  split
  · exact enqueueInsert_bulkOnly (show classOf (originate kind dest payload s).kind = .b from bulk) _ s
  · exact fun _ => ⟨rfl, rfl⟩

theorem sendRecord_bulkOnly (s : State) : BulkOnly s (sendRecord s) := by
  unfold sendRecord
  split
  · exact offer_bulkOnly rfl
  · exact fun _ => ⟨rfl, rfl⟩

theorem sendRecords_bulkOnly (n : Nat) (s : State) : BulkOnly s (sendRecords n s) := by
  induction n generalizing s with
  | zero => exact fun _ => ⟨rfl, rfl⟩
  | succ n ih =>
    unfold sendRecords
    split
    · exact (sendRecord_bulkOnly s).trans (ih _)
    · exact fun _ => ⟨rfl, rfl⟩

theorem testSend_bulkOnly (s : State) : BulkOnly s (testSend s) := sendRecords_bulkOnly _ s

/-- R30: what a change of one line unit leaves, the fold state changing with it or not. -/
structure LineChanged (l : Line) (f : LineUnit → LineUnit) (s t : State) : Prop where
  keeps : SameBut [.lines, .tx, .ring, .toll] s t
  lines : t.lines = s.lines.set l (f (s.lines.get l))
  insert : BulkOnly s t
  ring : t.ring = { s.ring with flushed := t.ring.flushed }
  same_fold : (modLine l f s).fold = s.fold → t = modLine l f s

theorem changeLine_changed (l : Line) (f : LineUnit → LineUnit) (s : State) : LineChanged l f s (changeLine l f s) := by
  refine ⟨changeLine_keeps l f s, ?_, ?_, ?_, fun same => if_pos same⟩ <;> unfold changeLine <;> dsimp only <;> split
  · rfl
  · have sent : (testSend (foldMoves s.fold (modLine l f s).fold (modLine l f s))).lines = _ :=
      (testSend_keeps (foldMoves s.fold (modLine l f s).fold (modLine l f s))).same .lines (by decide)
    exact sent.trans ((foldMoves_keeps _ _ (modLine l f s)).same .lines (by decide))
  · exact fun _ => ⟨rfl, rfl⟩
  · refine BulkOnly.trans (fun k => ?_) (testSend_bulkOnly _)
    rw [(foldMoves_moved _ _ (modLine l f s)).insert k]
    exact ⟨rfl, rfl⟩
  · rfl
  · have sent : (testSend (foldMoves s.fold (modLine l f s).fold (modLine l f s))).ring = _ :=
      (testSend_keeps (foldMoves s.fold (modLine l f s).fold (modLine l f s))).same .ring (by decide)
    rw [sent]
    exact (foldMoves_moved s.fold _ (modLine l f s)).ring

/-! ### Down conditions -/

theorem fold_of_notUp {a b : LineState} (ha : a ≠ .up) (hb : b ≠ .up) (x : LineState) :
    foldOf a x = foldOf b x ∧ foldOf x a = foldOf x b := by
  simp [foldOf, ha, hb]

/-- R30: PROVING and DOWN give the same fold state. -/
theorem modLine_fold_of_notUp {f : LineUnit → LineUnit} (before : (s.lines.get l).state ≠ .up)
    (after : (f (s.lines.get l)).state ≠ .up) : (modLine l f s).fold = s.fold := by
  cases l
  · exact (fold_of_notUp after before _).1
  · exact (fold_of_notUp after before _).2

theorem lineDown_changed {cause : DownCause} (up : (s.lines.get l).state ≠ .down) :
    LineChanged l (downUnit cause) s (lineDown l cause s) := by
  rw [lineDown, if_neg up]
  exact changeLine_changed ..

theorem lineDown_down {cause : DownCause} (down : (s.lines.get l).state = .down) : lineDown l cause s = s := if_pos down

theorem silenceTimer_eq {d : Time} (timer : (s.lines.get l).silence = some d) :
    exec (.silenceTimerExpires l) s =
      .next (lineDown l .silence (modLine l (fun u => { u with silence := none }) (reach d s))) := by
  refine congrArg Host.Outcome.next ?_
  rw [silenceExpired, timer]

theorem deafTimer_eq {d : Time} (timer : (s.lines.get l).deaf = some d) :
    exec (.deafTimerExpires l) s = .next (lineDown l .farDeaf (modLine l (fun u => { u with deaf := none }) (reach d s))) := by
  refine congrArg Host.Outcome.next ?_
  rw [deafExpired, timer]

/-- Settles O12, by the equation of each timer in DOWN and the change of the fold state that the end of proving brings. -/
theorem lineTimersAndErrorWindows : Obligations.LineTimersAndErrorWindows := by
  refine ⟨⟨fun l s d c down => ⟨fun timer => ?_, fun timer => ?_, fun bad => ?_⟩, fun l s => rfl⟩,
    fun l s d timer => ⟨fun proving => ?_, fun other => ?_⟩⟩
  · rw [silenceTimer_eq timer, lineDown_down (by rw [modLine_get]; exact down)]
    rfl
  · rw [deafTimer_eq timer, lineDown_down (by rw [modLine_get]; exact down)]
    rfl
  · rw [cellArrives_bad bad, badCellReported]
    dsimp only
    rw [lineDown_down (by rw [modLine_get]; exact down), ite_self]
    cases l <;> rfl
  · have changed := changeLine_changed l (fun u => { u with state := .up, proving := none }) (reach d s)
    refine ⟨_, ?_, SameBut.trans ((reach_keeps d s).mono rfl) (changed.keeps.mono rfl), changed.lines, changed.insert⟩
    refine congrArg Host.Outcome.next ?_
    rw [provingExpired, timer]
    exact if_pos proving
  · refine congrArg Host.Outcome.next ?_
    rw [provingExpired, timer]
    exact if_neg other

theorem badCell_eighth (bad : checkGood c = false) (seven : (s.lines.get l).windowBad = 7) :
    exec (.cellArrives l c) s = .next (lineDown l .errors
      (modLine l (fun u => { u with windowBad := u.windowBad + 1 }) (s.setRing (badCounted l s.ring)))) := by
  rw [cellArrives_bad bad, badCellReported, if_pos (show ((s.setRing (badCounted l s.ring)).lines.get l).windowBad + 1 = Config.errorLimit from
    congrArg (· + 1) seven)]

/-- What stands before the fall of a line: a stopped timer or a counted cell. -/
structure Falling (l : Line) (s v : State) : Prop where
  keeps : SameBut [.clock, .lines, .ring] s v
  others : ∀ k, k ≠ l → v.lines.get k = s.lines.get k
  unit : ∃ x : LineUnit, v.lines.get l =
    { s.lines.get l with silence := x.silence, deaf := x.deaf, windowBad := x.windowBad }

theorem Falling.of_modLine {f : LineUnit → LineUnit} (keeps : SameBut [.clock, .lines, .ring] s u) (lines : u.lines = s.lines)
    (x : LineUnit) (hf : f (s.lines.get l) =
      { s.lines.get l with silence := x.silence, deaf := x.deaf, windowBad := x.windowBad }) : Falling l s (modLine l f u) where
  keeps := keeps.trans ((modLine_keeps l f u).mono rfl)
  others k hk := (Both.get_set_other _ _ _ _ hk).trans (congrArg (Both.get · k) lines)
  unit := ⟨x, by rw [modLine_get, lines, hf]⟩

/-- R24, R25, R26: each of the three down conditions is `lineDown` on a state that falls. -/
theorem downCondition_falling {e : Instr} {cause : DownCause}
    (h : (e = .silenceTimerExpires l ∧ cause = .silence ∧ (s.lines.get l).silence ≠ none) ∨
      (e = .deafTimerExpires l ∧ cause = .farDeaf ∧ (s.lines.get l).deaf ≠ none) ∨
      (∃ c, e = .cellArrives l c ∧ cause = .errors ∧ checkGood c = false ∧ (s.lines.get l).windowBad = 7)) :
    ∃ v, exec e s = .next (lineDown l cause v) ∧ Falling l s v ∧
      v.ring = if cause = .errors then badCounted l s.ring else s.ring := by
  rcases h with ⟨rfl, rfl, timer⟩ | ⟨rfl, rfl, timer⟩ | ⟨c, rfl, rfl, bad, seven⟩
  · obtain ⟨d, timer⟩ := Option.ne_none_iff_exists'.mp timer
    exact ⟨_, silenceTimer_eq timer,
      .of_modLine ((reach_keeps d s).mono rfl) rfl { s.lines.get l with silence := none } rfl, rfl⟩
  · obtain ⟨d, timer⟩ := Option.ne_none_iff_exists'.mp timer
    exact ⟨_, deafTimer_eq timer,
      .of_modLine ((reach_keeps d s).mono rfl) rfl { s.lines.get l with deaf := none } rfl, rfl⟩
  · exact ⟨_, badCell_eighth bad seven, .of_modLine (State.setRing_keeps.mono rfl) rfl
      { s.lines.get l with windowBad := (s.lines.get l).windowBad + 1 } rfl, rfl⟩

/-- Settles O11, by what a change of one line unit leaves. -/
theorem downConditionsTakeALineDown : Obligations.DownConditionsTakeALineDown := by
  intro l s e cause up h
  obtain ⟨v, exec, falling, ring⟩ := downCondition_falling h
  obtain ⟨x, unit⟩ := falling.unit
  have state : (v.lines.get l).state = (s.lines.get l).state := by rw [unit]
  have tx : v.tx = s.tx := falling.keeps.same .tx (by decide)
  have toll : v.toll = s.toll := falling.keeps.same .toll (by decide)
  have changed : LineChanged l (downUnit cause) v (lineDown l cause v) := lineDown_changed (state ▸ up)
  have fallen : (lineDown l cause v).lines.get l = downUnit cause (v.lines.get l) := by
    rw [changed.lines, Both.get_set_same]
  refine ⟨_, exec, (falling.keeps.mono rfl).trans (changed.keeps.mono rfl), ?_⟩
  rw [fallen, unit]
  refine ⟨rfl, rfl, rfl, rfl, rfl, rfl, rfl, rfl, fun k hk => ?_, fun k => tx ▸ changed.insert k, ?_, fun proving => ?_⟩
  · rw [changed.lines, Both.get_set_other _ _ _ _ hk, falling.others k hk]
  · have counted := changed.ring
    rw [ring] at counted
    exact counted
  · have same := changed.same_fold (modLine_fold_of_notUp (by rw [state, proving]; nofun) nofun)
    rw [same]
    exact ⟨tx, toll⟩

end Sys2Proof.Machine
end

section
/-! PROOFS. The receive filter behind its first steps (R16 to R20): which cells are stripped, delivered, copied and
forwarded, and what a unit that is handed a copied cell leaves of the ring. -/

namespace Sys2Proof.Machine

variable {s t u : State} {l k : Line} {c : Cell}

/-! ### Addresses and lines -/

theorem addressingOf_group {dest : Byte} (lo : 64 ≤ dest.toNat) (valid : validDest dest = true) :
    addressingOf dest ≠ .unicast := by
  have h := of_decide_eq_true valid
  unfold addressingOf
  split
  · nofun
  · next notAll =>
    split
    · nofun
    · next notGroup =>
      refine absurd (BitVec.eq_of_toNat_eq (y := allStations) ?_) notAll
      change dest.toNat = 255
      omega

theorem validDest_of_formed (formed : malformed c = false) : validDest c.dest = true := by
  rw [malformed, Bool.not_eq_false', Bool.and_eq_true] at formed
  exact formed.2

/-- A station's own number is one of 1 to 60. -/
theorem own_le (s : State) {n : Nat} (h : s.own = some n) : n ≤ 60 := by
  unfold State.own at h
  split at h
  · next valid =>
    cases h
    exact (of_decide_eq_true valid).2
  · cases h

theorem fold_eq_foldD (h : s.fold = .foldD) : s.lines.d.state ≠ .up := by
  intro up
  rw [State.fold, foldOf, up] at h
  split at h <;> simp at h

theorem fold_eq_foldU (h : s.fold = .foldU) : s.lines.u.state ≠ .up := by
  intro up
  rw [State.fold, foldOf, up, if_pos rfl] at h
  split at h <;> cases h

/-- R19: the transmitter of a forwarded cell, by the fold state of a station whose line `l` is UP. -/
theorem forwardLine_eq (up : (s.lines.get l).state = .up)
    (h : (s.fold = .normal ∧ k ≠ l) ∨ (s.fold = .foldD ∧ k = .u) ∨ (s.fold = .foldU ∧ k = .d)) :
    forwardLine s.fold l = k := by
  rcases h with ⟨fold, ne⟩ | ⟨fold, rfl⟩ | ⟨fold, rfl⟩ <;> rw [fold]
  · cases l <;> cases k <;> first | rfl | exact absurd rfl ne
  · cases l
    · rfl
    · exact absurd up (fold_eq_foldD fold)
  · cases l
    · exact absurd up (fold_eq_foldU fold)
    · rfl

/-! ### The steps -/

theorem validWord_fold (l : Line) (s : State) : (validWord l s).fold = s.fold := modLine_fold s rfl

theorem Passes.judged (h : Passes l c s) :
    exec (.cellArrives l c) s = .next (routeCell l c (showOwnHello c (validWord l s))) := by
  obtain ⟨good, formed, up, hops⟩ := h
  rw [cellArrives_judged good formed, judgeCell, if_neg (not_not_intro (by rw [validWord, modLine_get]; exact up)),
    if_neg hops]

/-- R44: nothing is shown to the station table but a HELLO of this station. -/
theorem showOwnHello_other (h : ¬(c.kind = kHello ∧ s.own = some c.source.toNat)) : showOwnHello c s = s := if_neg h

/-- R44: the own HELLO is the station's own, or the station is not ACTIVE. -/
theorem showOwnHello_same (h : c.kind = kHello → (readHello c.payload).stamp = s.station.stamp ∨ s.phase ≠ .active) :
    showOwnHello c s = s := by
  unfold showOwnHello
  split
  · next own =>
    refine if_neg fun double => ?_
    rcases h own.1 with same | inactive
    · exact double.1 same
    · exact inactive double.2
  · rfl

theorem routeCell_passing (away : s.own ≠ some c.dest.toNat)
    (passing : ¬(s.own = some c.source.toNat ∧ l = copyingLine s.fold)) : routeCell l c s = copyForward l c s := by
  rw [routeCell, if_neg away, if_neg passing]

theorem routeCell_stripped (away : s.own ≠ some c.dest.toNat) (own : s.own = some c.source.toNat)
    (here : l = copyingLine s.fold) : routeCell l c s = strip c s := by
  rw [routeCell, if_neg away, if_pos ⟨own, here⟩]

theorem copyForward_uncopied (h : ¬(l = copyingLine s.fold ∧ addressingOf c.dest ≠ .unicast)) :
    copyForward l c s = forward l c s := if_neg h

theorem copyForward_copied (here : l = copyingLine s.fold) (group : addressingOf c.dest ≠ .unicast) :
    copyForward l c s = forward l (handCell false false c s).2 (toCentre false c (handCell false false c s).1) :=
  if_pos ⟨here, group⟩

theorem forward_joins (line : forwardLine s.fold l = k)
    (room : ((s.tx.get k).transit.get (classOf c.kind)).length < transitCapacity (classOf c.kind)) :
    forward l c s = s.setTx (s.tx.set k { s.tx.get k with
      transit := (s.tx.get k).transit.set (classOf c.kind)
        ((s.tx.get k).transit.get (classOf c.kind) ++ [forwarded c]) }) := by
  subst line
  rw [forward, enqueueTransit]
  exact if_pos room

theorem forward_drops (line : forwardLine s.fold l = k)
    (full : transitCapacity (classOf c.kind) ≤ ((s.tx.get k).transit.get (classOf c.kind)).length) :
    forward l c s = s.setRing { s.ring with transitDrops := bump s.ring.transitDrops } := by
  subst line
  rw [forward, enqueueTransit]
  exact if_neg (Nat.not_lt.mpr full)

/-! ### Copied cells -/

/-- R18: a group or all-stations cell of another station on the copying receive. -/
theorem Passes.copied (h : Passes l c s) (other : s.own ≠ some c.source.toNat) (group : 64 ≤ c.dest.toNat)
    (here : l = copyingLine s.fold) :
    exec (.cellArrives l c) s = .next (forward l (handCell false false c (validWord l s)).2
      (toCentre false c (handCell false false c (validWord l s)).1)) := by
  rw [h.judged, showOwnHello_other (s := validWord l s) fun e => other e.2, routeCell_passing (s := validWord l s) (fun e => ?_) fun e => other e.1,
    copyForward_copied (by rw [validWord_fold]; exact here) (addressingOf_group group (validDest_of_formed h.2.1))]
  have := own_le _ e
  omega

/-- R20: handing a copied cell to a unit and to the centre port leaves the lines, the transit queues and the ring counters
but the insert drops. -/
structure RingKept (s t : State) : Prop where
  lines : t.lines = s.lines
  transit : ∀ l, (t.tx.get l).transit = (s.tx.get l).transit
  ring : t.ring = { s.ring with insertDrops := t.ring.insertDrops }

theorem Kept.ringKept (h : Kept s t) : RingKept s t := { h with }

theorem RingKept.toCentre (h : RingKept s t) (delivered : Bool) (c : Cell) : RingKept s (toCentre delivered c t) := by
  have kept := toCentre_keeps delivered c t
  have lines : (Machine.toCentre delivered c t).lines = t.lines := kept.same .lines (by decide)
  have tx : (Machine.toCentre delivered c t).tx = t.tx := kept.same .tx (by decide)
  have ring : (Machine.toCentre delivered c t).ring = t.ring := kept.same .ring (by decide)
  exact ⟨lines.trans h.lines, fun l => by rw [tx, h.transit], by rw [ring]; exact h.ring⟩

theorem RingKept.fold (h : RingKept s t) : t.fold = s.fold := by rw [State.fold, h.lines]; rfl

theorem handCopied_ringKept (other : s.own ≠ some c.source.toNat) (group : addressingOf c.dest ≠ .unicast) :
    RingKept s (toCentre false c (handCell false false c s).1) :=
  (handCopied_kept (.refl s) group fun _ _ => other).ringKept.toCentre false c

/-- R64: only a CLAIM is changed by the unit it is handed to. -/
theorem handCell_cell {delivered ownPort : Bool} (h : c.kind ≠ kClaim) : (handCell delivered ownPort c s).2 = c := by
  unfold handCell
  rw [if_neg h]
  split <;> rfl

theorem copyingLine_normal (fold : s.fold = .normal) : copyingLine s.fold ≠ .d := by rw [fold]; nofun

theorem copyingLine_eq (h : (l = .u ∧ (s.fold = .normal ∨ s.fold = .foldD)) ∨ (l = .d ∧ s.fold = .foldU)) :
    l = copyingLine s.fold := by
  rcases h with ⟨rfl, fold | fold⟩ | ⟨rfl, fold⟩ <;> rw [fold] <;> rfl

/-- R19: a passing cell that is not copied. -/
theorem Passes.forwards (h : Passes l c s) (away : s.own ≠ some c.dest.toNat)
    (passing : s.own ≠ some c.source.toNat ∨ (s.fold = .normal ∧ l = .d ∧
      (c.kind = 5 → (readHello c.payload).stamp = s.station.stamp ∨ s.phase ≠ .active)))
    (uncopied : c.dest.toNat ≤ 60 ∨ (s.fold = .normal ∧ l = .d)) :
    exec (.cellArrives l c) s = .next (forward l c (validWord l s)) := by
  have unshown : showOwnHello c (validWord l s) = validWord l s := by
    rcases passing with other | ⟨_, _, same⟩
    · exact showOwnHello_other fun e => other e.2
    · exact showOwnHello_same same
  rw [h.judged, unshown, routeCell_passing (s := validWord l s) away, copyForward_uncopied] <;> rw [validWord_fold]
  · rintro ⟨here, group⟩
    rcases uncopied with low | ⟨normal, rfl⟩
    · exact group (addressingOf_unicast low)
    · exact copyingLine_normal normal here.symm
  · rintro ⟨own, here⟩
    rcases passing with other | ⟨normal, rfl, _⟩
    · exact other own
    · exact copyingLine_normal normal here.symm

/-- R17: an own cell comes home. -/
theorem Passes.strips (h : Passes l c s) (own : s.own = some c.source.toNat) (dest : c.dest ≠ c.source) (hello : c.kind ≠ 5)
    (here : l = copyingLine s.fold) : exec (.cellArrives l c) s = .next (strip c (validWord l s)) := by
  rw [h.judged, showOwnHello_other fun e => hello e.1, routeCell_stripped (s := validWord l s) (fun e => ?_) own
    (by rw [validWord_fold]; exact here)]
  exact dest (BitVec.eq_of_toNat_eq (Option.some.inj (e.symm.trans own)))

/-- Settles O9, by the line a cell arrives on and the fold state. -/
theorem cellsAreForwardedOrStripped : Obligations.CellsAreForwardedOrStripped := by
  refine ⟨fun l k c s heard e h away passing uncopied line => ?_, fun l k c s h other group claim line => ?_,
    fun l c s heard e h own dest claim hello line => ?_⟩
  · subst e
    have toLine : forwardLine (validWord l s).fold l = k := by rw [validWord_fold]; exact forwardLine_eq h.2.2.1 line
    refine ⟨fun room => ?_, fun full => ?_⟩
    · rw [h.forwards away passing uncopied, forward_joins toLine room]; rfl
    · rw [h.forwards away passing uncopied, forward_drops toLine full]; rfl
  · have here : l = copyingLine s.fold := copyingLine_eq <| by
      rcases line with ⟨fold, here, _⟩ | ⟨fold, here, _⟩ | ⟨fold, here, _⟩
      · exact .inl ⟨here, .inl fold⟩
      · exact .inl ⟨here, .inr fold⟩
      · exact .inr ⟨here, fold⟩
    have addressing := addressingOf_group group (validDest_of_formed h.2.1)
    have kept := handCopied_ringKept (s := validWord l s) (c := c) other addressing
    have exec := h.copied other group here
    rw [handCell_cell claim] at exec
    generalize toCentre false c (handCell false false c (validWord l s)).1 = v at kept exec
    have fold : v.fold = s.fold := kept.fold.trans (validWord_fold l s)
    have transit (j : Line) : (v.tx.get j).transit = (s.tx.get j).transit := kept.transit j
    have toLine : forwardLine v.fold l = k := by
      rw [fold]
      exact forwardLine_eq h.2.2.1 (line.imp (fun ⟨normal, up, down⟩ => ⟨normal, by rw [up, down]; nofun⟩)
        (Or.imp (fun ⟨fold, _, up⟩ => ⟨fold, up⟩) fun ⟨fold, _, down⟩ => ⟨fold, down⟩))
    rw [← transit k]
    rcases Nat.lt_or_ge ((v.tx.get k).transit.get (classOf c.kind)).length (transitCapacity (classOf c.kind)) with room | full
    · rw [forward_joins toLine room] at exec
      refine ⟨_, exec, fold, fun j hj => ?_, fun _ => ⟨?_, kept.ring⟩, fun full => absurd room (Nat.not_lt.mpr full)⟩
      · rw [State.setTx_tx, Both.get_set_other _ _ _ _ hj, transit]
      · rw [State.setTx_tx, Both.get_set_same]; rfl
    · rw [forward_drops toLine full] at exec
      refine ⟨_, exec, fold, fun j _ => transit j, fun room => absurd room (Nat.not_lt.mpr full), fun _ => ⟨rfl, ?_⟩⟩
      rw [State.setRing_ring, kept.ring]
      rfl
  · subst e
    rw [h.strips own dest hello (copyingLine_eq line), strip]
    by_cases low : c.dest.toNat ≤ 60
    · rw [if_pos (addressingOf_unicast low), if_pos low]; rfl
    · have valid := of_decide_eq_true (validDest_of_formed h.2.1)
      rw [if_neg (addressingOf_group (by omega) (validDest_of_formed h.2.1)), if_neg (show c.kind ≠ kClaim from claim), if_neg low]
      rfl

end Sys2Proof.Machine
end

section
/-! PROOFS. Orders within half their range (R60, R141), and the circuit that a request takes (R61). -/

namespace Sys2Proof.Machine

/-! ### Orders -/

/-- Among orders within half the range after a base, "before" is the order of their distances. -/
theorem isBefore_iff {base n m : BitVec 16} (hn : (n - base).toNat < 32768) (hm : (m - base).toNat < 32768) :
    isBefore n m = true ↔ (n - base).toNat < (m - base).toNat := by
  rw [isBefore, atOrBefore, Bool.and_eq_true, decide_eq_true_eq, bne_iff_ne, ne_eq, ← BitVec.toNat_inj]
  bv_omega

/-- A list folded to its best entry, by a comparison that agrees with a key. -/
theorem foldl_best {α : Type} {better : α → α → Bool} (key : α → Int) (x : α) (rest : List α)
    (h : ∀ a ∈ x :: rest, ∀ b ∈ x :: rest, better a b = true ↔ key b < key a) :
    rest.foldl (fun best y => if better y best then y else best) x ∈ x :: rest ∧
      ∀ y ∈ x :: rest, key y ≤ key (rest.foldl (fun best y => if better y best then y else best) x) := by
  induction rest generalizing x with
  | nil => exact ⟨List.mem_cons_self .., fun y hy => List.mem_singleton.mp hy ▸ Int.le_refl _⟩
  | cons z rest ih =>
    have compare := h z (by simp) x (by simp)
    rw [List.foldl_cons]
    split
    · next better =>
      obtain ⟨mem, best⟩ := ih z fun a ha b hb => h a (List.mem_cons_of_mem _ ha) b (List.mem_cons_of_mem _ hb)
      refine ⟨List.mem_cons_of_mem _ mem, fun y hy => ?_⟩
      rcases List.mem_cons.mp hy with rfl | hy
      · exact Int.le_trans (Int.le_of_lt (compare.mp better)) (best z (List.mem_cons_self ..))
      · exact best y hy
    · next worse =>
      have sub {a : α} (ha : a ∈ x :: rest) : a ∈ x :: z :: rest := by
        rcases List.mem_cons.mp ha with rfl | ha <;> simp [*]
      obtain ⟨mem, best⟩ := ih x fun a ha b hb => h a (sub ha) b (sub hb)
      refine ⟨sub mem, fun y hy => ?_⟩
      rcases List.mem_cons.mp hy with rfl | hy
      · exact best y (List.mem_cons_self ..)
      · rcases List.mem_cons.mp hy with rfl | hy
        · exact Int.le_trans (Int.not_lt.mp fun lt => worse (compare.mpr lt)) (best x (List.mem_cons_self ..))
        · exact best y (List.mem_cons_of_mem _ hy)

/-! ### The circuit for a request -/

section Choice

variable {v : Vector Circuit 16} {prio : Nat} {avoided : Option (Fin 16)} {c k : Fin 16}

/-- R61: an entry that a claim of this priority may preempt. -/
def Lower (v : Vector Circuit 16) (prio : Nat) (k : Fin 16) (x : Nat) (o : BitVec 16) : Prop :=
  ∃ st p a, v[k] = .remote st p x a o ∧ x < prio

theorem mem_freeCircuits : c ∈ freeCircuits v ↔ v[c] = .free := by simp [freeCircuits]

/-- The head of a filtered list of the circuits is the lowest that passes. -/
theorem head_le_of_filter {f : Fin 16 → Bool} {rest : List (Fin 16)} (h : (List.finRange 16).filter f = c :: rest)
    (hk : f k = true) : c ≤ k := by
  have sorted := (List.pairwise_lt_finRange 16).filter f
  have mem : k ∈ (List.finRange 16).filter f := List.mem_filter.mpr ⟨List.mem_finRange k, hk⟩
  rw [h] at sorted mem
  rcases List.mem_cons.mp mem with rfl | mem
  · exact Nat.le_refl _
  · exact Nat.le_of_lt (List.rel_of_pairwise_cons sorted mem)

theorem mem_preemptables {x : Nat} {o : BitVec 16} :
    (k, x, o) ∈ (List.finRange 16).filterMap (preemptable v prio) ↔ Lower v prio k x o := by
  have entry (j : Fin 16) : preemptable v prio j = some (k, x, o) ↔ j = k ∧ Lower v prio k x o := by
    unfold preemptable Lower
    split
    · next st p q a o' e =>
      constructor
      · intro h
        split at h
        · next lower => cases h; exact ⟨rfl, st, p, a, e, lower⟩
        · cases h
      · rintro ⟨rfl, st', p', a', e', lower⟩
        cases e.symm.trans e'
        exact if_pos lower
    · next other =>
      refine ⟨nofun, ?_⟩
      rintro ⟨rfl, st, p, a, e, _⟩
      exact absurd e (other st p x a o)
  simp [List.mem_filterMap, entry]

/-- R61 step 2: the key that grows with a lower priority and then with a later order. -/
def preemptKey (base : BitVec 16) (x : Fin 16 × Nat × BitVec 16) : Int :=
  (x.2.2 - base).toNat - 32768 * (x.2.1 : Int)

theorem preemptBetter_iff {base : BitVec 16} {a b : Fin 16 × Nat × BitVec 16} (ha : (a.2.2 - base).toNat < 32768)
    (hb : (b.2.2 - base).toNat < 32768) : preemptBetter a b = true ↔ preemptKey base b < preemptKey base a := by
  rw [preemptBetter, Bool.or_eq_true, Bool.and_eq_true, decide_eq_true_eq, decide_eq_true_eq, isBefore_iff hb ha,
    preemptKey, preemptKey]
  omega

/-- R61 step 2: the entry taken is one of the list, and no other has a greater key. -/
theorem bestPreempt_some {base : BitVec 16} {xs : List (Fin 16 × Nat × BitVec 16)}
    (near : ∀ x ∈ xs, (x.2.2 - base).toNat < 32768) (h : bestPreempt xs = some c) :
    ∃ x o, (c, x, o) ∈ xs ∧ ∀ y ∈ xs, preemptKey base y ≤ preemptKey base (c, x, o) := by
  cases xs with
  | nil => cases h
  | cons x rest =>
    obtain ⟨mem, best⟩ := foldl_best (preemptKey base) x rest fun a ha b hb =>
      preemptBetter_iff (near a ha) (near b hb)
    cases h
    exact ⟨_, _, mem, best⟩

theorem bestPreempt_none {xs : List (Fin 16 × Nat × BitVec 16)} : bestPreempt xs = none ↔ xs = [] := by
  cases xs <;> simp [bestPreempt]

/-- What `chooseCircuit` answers, by which lists are empty. -/
inductive Chosen (v : Vector Circuit 16) (prio : Nat) (avoided : Option (Fin 16)) : Option (Fin 16 × Bool) → Prop
  | free {c : Fin 16} {rest : List (Fin 16)} :
      (freeCircuits v).filter (fun c => decide (some c ≠ avoided)) = c :: rest → Chosen v prio avoided (some (c, false))
  | avoidedFree {c : Fin 16} {rest : List (Fin 16)} :
      (freeCircuits v).filter (fun c => decide (some c ≠ avoided)) = [] → freeCircuits v = c :: rest →
      Chosen v prio avoided (some (c, false))
  | preempts {c : Fin 16} : freeCircuits v = [] →
      bestPreempt (((List.finRange 16).filterMap (preemptable v prio)).filter (fun x => decide (some x.1 ≠ avoided))) = some c →
      Chosen v prio avoided (some (c, true))
  | preemptsAvoided {c : Fin 16} : freeCircuits v = [] →
      ((List.finRange 16).filterMap (preemptable v prio)).filter (fun x => decide (some x.1 ≠ avoided)) = [] →
      bestPreempt ((List.finRange 16).filterMap (preemptable v prio)) = some c → Chosen v prio avoided (some (c, true))
  | nothing : freeCircuits v = [] → (List.finRange 16).filterMap (preemptable v prio) = [] → Chosen v prio avoided none

theorem chooseCircuit_chosen (v : Vector Circuit 16) (prio : Nat) (avoided : Option (Fin 16)) :
    Chosen v prio avoided (chooseCircuit v prio avoided) := by
  unfold chooseCircuit
  dsimp only
  split
  · next e => exact .free e
  · next e e' => exact .avoidedFree e e'
  · next e e' =>
    split
    · next best => exact .preempts e' best
    · next none =>
      have only := bestPreempt_none.mp none
      cases h : bestPreempt ((List.finRange 16).filterMap (preemptable v prio)) with
      | none => exact .nothing e' (bestPreempt_none.mp h)
      | some c => exact .preemptsAvoided e' only h

end Choice

/-- Settles O21, by the five cases of `Chosen`. -/
theorem circuitsAreChosenAsR61Says : Obligations.CircuitsAreChosenAsR61Says := by
  intro v prio avoided base near
  dsimp only
  change (∀ c, chooseCircuit v prio avoided = some (c, false) → _) ∧
    (∀ c, chooseCircuit v prio avoided = some (c, true) → _ ∧ ∃ x o, Lower v prio c x o ∧
      (∀ k y o', Lower v prio k y o' → _) ∧ (_ → ∀ k y o', Lower v prio k y o' → _)) ∧
    (_ ↔ _ ∧ ∀ k x o, ¬Lower v prio k x o)
  have noFree (h : freeCircuits v = []) (k : Fin 16) : v[k] ≠ .free := fun free => by
    have := mem_freeCircuits.mpr free
    rw [h] at this
    cases this
  have window (x : Fin 16 × Nat × BitVec 16) (hx : x ∈ (List.finRange 16).filterMap (preemptable v prio)) :
      (x.2.2 - base).toNat < 32768 := by
    obtain ⟨st, p, a, e, _⟩ := mem_preemptables.mp hx
    exact near _ _ _ _ _ _ e
  have chosen := chooseCircuit_chosen v prio avoided
  have notAvoided {x : Fin 16 × Nat × BitVec 16} {xs : List (Fin 16 × Nat × BitVec 16)} :
      x ∈ xs.filter (fun x => decide (some x.1 ≠ avoided)) ↔ x ∈ xs ∧ avoided ≠ some x.1 := by
    rw [List.mem_filter, decide_eq_true_eq, ne_comm]
  refine ⟨fun c hc => ?_, fun c hc => ?_, ?_⟩
  · rw [hc] at chosen
    cases chosen with
    | free e =>
      have mem := List.mem_filter.mp (e ▸ List.mem_cons_self .. : c ∈ (freeCircuits v).filter _)
      rw [freeCircuits, List.filter_filter] at e
      refine ⟨mem_freeCircuits.mp mem.1, fun k lt free => ?_, fun a => absurd a.symm (of_decide_eq_true mem.2)⟩
      refine Decidable.byContradiction fun other => ?_
      refine absurd lt (Fin.not_lt.mpr (head_le_of_filter e ?_))
      simp [free, Ne.symm other]
    | avoidedFree only e =>
      have mem : c ∈ freeCircuits v := e ▸ List.mem_cons_self ..
      have avoids (k : Fin 16) (free : v[k] = .free) : avoided = some k := by
        refine Decidable.byContradiction fun other => ?_
        have : k ∈ (freeCircuits v).filter (fun c => decide (some c ≠ avoided)) :=
          List.mem_filter.mpr ⟨mem_freeCircuits.mpr free, decide_eq_true (Ne.symm other)⟩
        rw [only] at this
        cases this
      exact ⟨mem_freeCircuits.mp mem, fun k _ free => avoids k free,
        fun a k free => Option.some.inj ((avoids k free).symm.trans a)⟩
  · rw [hc] at chosen
    cases chosen with
    | preempts none best =>
      obtain ⟨x, o, mem, greatest⟩ := bestPreempt_some (fun x hx => window x (notAvoided.mp hx).1) best
      obtain ⟨all, ne⟩ := notAvoided.mp mem
      refine ⟨noFree none, x, o, mem_preemptables.mp all, fun k y o' lower other => ?_, fun a => absurd a ne⟩
      have entry := mem_preemptables.mpr lower
      have := greatest (k, y, o') (notAvoided.mpr ⟨entry, other⟩)
      have := window _ entry
      have := window _ all
      simp only [preemptKey] at *
      omega
    | preemptsAvoided none only best =>
      obtain ⟨x, o, mem, _⟩ := bestPreempt_some window best
      have avoids {k : Fin 16} {y : Nat} {o' : BitVec 16} (lower : Lower v prio k y o') : avoided = some k := by
        refine Decidable.byContradiction fun other => ?_
        have : (k, y, o') ∈ List.filter _ _ := notAvoided.mpr ⟨mem_preemptables.mpr lower, other⟩
        rw [only] at this
        cases this
      exact ⟨noFree none, x, o, mem_preemptables.mp mem, fun k y o' lower other => absurd (avoids lower) other,
        fun a k y o' lower => Option.some.inj ((avoids lower).symm.trans a)⟩
  · generalize chooseCircuit v prio avoided = answer at chosen
    cases chosen with
    | @free c rest e =>
      have mem := List.mem_filter.mp (e ▸ List.mem_cons_self .. : c ∈ (freeCircuits v).filter _)
      exact iff_of_false nofun fun h => h.1 c (mem_freeCircuits.mp mem.1)
    | @avoidedFree c rest only e =>
      exact iff_of_false nofun fun h => h.1 c (mem_freeCircuits.mp (e ▸ List.mem_cons_self ..))
    | preempts none best =>
      obtain ⟨x, o, mem, _⟩ := bestPreempt_some (fun x hx => window x (notAvoided.mp hx).1) best
      exact iff_of_false nofun fun h => h.2 _ _ _ (mem_preemptables.mp (notAvoided.mp mem).1)
    | preemptsAvoided none only best =>
      obtain ⟨x, o, mem, _⟩ := bestPreempt_some window best
      exact iff_of_false nofun fun h => h.2 _ _ _ (mem_preemptables.mp mem)
    | nothing none empty =>
      refine iff_of_true rfl ⟨noFree none, fun k x o lower => ?_⟩
      have := mem_preemptables.mpr lower
      rw [empty] at this
      cases this

end Sys2Proof.Machine
end

section
/-! PROOFS. The call unit's shared operations: the C insert queue that other units' cells join too, the indications that
`settle` sends (R76), and the claim test (R59), which changes one entry of the circuit view at most. -/

namespace Sys2Proof.Machine

variable {s t u : State} {n m : Nat}

/-! ### Cells that join the C insert queue -/

/-- R7: the transmitters with cells at the tail of the C insert queue that R7 names. -/
def State.withQueued (s : State) (xs : List Cell) : Both Transmitter :=
  s.tx.set (insertLine s.fold) { s.tx.get (insertLine s.fold) with
    insert := { (s.tx.get (insertLine s.fold)).insert with c := s.insertQueue .c ++ xs } }

/-- At most `n` cells have joined the C insert queue that R7 names, and nothing else of the transmitters has changed. -/
structure Queued (n : Nat) (s t : State) : Prop where
  lines : t.lines = s.lines
  straps : t.straps = s.straps
  grows : ∃ xs : List Cell, xs.length ≤ n ∧ t.tx = s.withQueued xs

theorem Both.set_get_self {α : Type} (b : Both α) (l : Line) : b.set l (b.get l) = b := by cases l <;> rfl

theorem Both.set_set {α : Type} (b : Both α) (l : Line) (x y : α) : (b.set l x).set l y = b.set l y := by cases l <;> rfl

theorem withQueued_nil (s : State) : s.withQueued [] = s.tx := by
  rw [State.withQueued, List.append_nil]
  exact Both.set_get_self ..

theorem Queued.of_same (lines : t.lines = s.lines) (straps : t.straps = s.straps) (tx : t.tx = s.tx) : Queued 0 s t :=
  ⟨lines, straps, [], Nat.le_refl _, by rw [tx, withQueued_nil]⟩

theorem Queued.refl (s : State) : Queued 0 s s := .of_same rfl rfl rfl

theorem Queued.fold (h : Queued n s t) : t.fold = s.fold := by rw [State.fold, h.lines]; rfl

theorem Queued.trans (h : Queued n s t) (k : Queued m t u) : Queued (n + m) s u := by
  obtain ⟨xs, hx, tx⟩ := h.grows
  obtain ⟨ys, hy, ux⟩ := k.grows
  refine ⟨k.lines.trans h.lines, k.straps.trans h.straps, xs ++ ys, by rw [List.length_append]; omega, ?_⟩
  rw [ux, State.withQueued, State.withQueued, State.insertQueue, h.fold, tx, State.withQueued, Both.get_set_same, Both.set_set]
  simp only [Queues.get, List.append_assoc]

theorem Queued.mono (h : Queued n s t) (le : n ≤ m) : Queued m s t :=
  { h with grows := h.grows.imp fun _ x => ⟨Nat.le_trans x.1 le, x.2⟩ }

theorem Queued.of_keeps {ps : List Part} (h : SameBut ps s t) (hl : .lines ∉ ps) (hs : .straps ∉ ps) (ht : .tx ∉ ps) :
    Queued 0 s t := .of_same (h.same .lines hl) (h.same .straps hs) (h.same .tx ht)

/-- R7: the C insert queue, with the cells that have joined it. -/
theorem Queued.queue (h : Queued n s t) :
    ∃ xs, xs.length ≤ n ∧ (t.tx.get (insertLine s.fold)).insert.c = s.insertQueue .c ++ xs := by
  obtain ⟨xs, hx, tx⟩ := h.grows
  exact ⟨xs, hx, by rw [tx, State.withQueued, Both.get_set_same]⟩

theorem Queued.insertQueue (h : Queued n s t) : ∃ xs, xs.length ≤ n ∧ t.insertQueue .c = s.insertQueue .c ++ xs := by
  obtain ⟨xs, hx, queue⟩ := h.queue
  exact ⟨xs, hx, by rw [State.insertQueue, h.fold]; exact queue⟩

/-- A cell of class C that has room joins the queue. -/
theorem offer_room {kind dest : Byte} {bytes : List Byte} (signal : classOf kind = .c)
    (room : (s.insertQueue .c).length < 32) :
    offer kind dest bytes s = (s.setTx (s.withQueued [originate kind dest bytes s]), true) := by
  have e : s.insertRoom (classOf kind) = true := by rw [signal]; exact decide_eq_true room
  rw [offer, if_pos e, enqueueInsert, modTx, show classOf (originate kind dest bytes s).kind = .c from signal]
  rfl

/-- A cell of class C that finds the queue full is refused. -/
theorem offer_full {kind dest : Byte} {bytes : List Byte} (signal : classOf kind = .c)
    (full : 32 ≤ (s.insertQueue .c).length) : offer kind dest bytes s = (s, false) := by
  have e : s.insertRoom (classOf kind) = false := by rw [signal]; exact decide_eq_false (Nat.not_lt.mpr full)
  rw [offer, e, if_neg nofun]

theorem setTx_withQueued (x : Cell) (s : State) : Queued 1 s (s.setTx (s.withQueued [x])) :=
  ⟨rfl, rfl, [x], Nat.le_refl _, rfl⟩

/-- A cell of class C that has room joins the queue; nothing is counted. -/
theorem offerCounted_room {kind dest : Byte} {bytes : List Byte} (signal : classOf kind = .c)
    (room : (s.insertQueue .c).length < 32) :
    offerCounted kind dest bytes s = s.setTx (s.withQueued [originate kind dest bytes s]) := by
  rw [offerCounted, offer_room signal room]

theorem offerCounted_full {kind dest : Byte} {bytes : List Byte} (signal : classOf kind = .c)
    (full : 32 ≤ (s.insertQueue .c).length) :
    offerCounted kind dest bytes s = s.setRing { s.ring with insertDrops := bump s.ring.insertDrops } := by
  rw [offerCounted, offer_full signal full]
  rfl

theorem offerCounted_queued {kind dest : Byte} {bytes : List Byte} (signal : classOf kind = .c) :
    Queued 1 s (offerCounted kind dest bytes s) := by
  rcases Nat.lt_or_ge (s.insertQueue .c).length 32 with room | full
  · rw [offerCounted_room signal room]; exact setTx_withQueued ..
  · rw [offerCounted_full signal full]; exact (Queued.of_same (s := s)
      (t := s.setRing { s.ring with insertDrops := bump s.ring.insertDrops }) rfl rfl rfl).mono (Nat.zero_le _)

/-! ### Indications (R76) -/

/-- The call records have changed in their indication only. -/
structure Indicated (s t : State) : Prop where
  call : t.call = { s.call with phones := t.call.phones }
  phones : ∀ p : Port, ∃ x, t.call.phones[p] = { s.call.phones[p] with indicated := x }

theorem Indicated.of_call (h : t.call = s.call) : Indicated s t := ⟨by rw [h], fun p => ⟨_, by rw [h]⟩⟩

theorem Indicated.trans (h : Indicated s t) (k : Indicated t u) : Indicated s u where
  call := by rw [k.call, h.call]
  phones p := by
    obtain ⟨x, hx⟩ := h.phones p
    obtain ⟨y, hy⟩ := k.phones p
    exact ⟨y, by rw [hy, hx]⟩

theorem modPhone_phones (p q : Port) (f : Phone → Phone) (s : State) :
    (modPhone p f s).call.phones[q] = if q = p then f s.call.phones[p] else s.call.phones[q] := by
  split
  · next e => subst e; exact vector_get_set ..
  · next e => exact vector_get_set_ne _ _ _ _ e

theorem settlePort_indicated (p : Port) (s : State) : Indicated s (settlePort p s) := by
  unfold settlePort
  split
  · have sent : (sendService p (indicateFrame (s.indication p))
        (modPhone p (fun ph => { ph with indicated := s.indication p }) s)).call = _ :=
      (sendService_keeps p (indicateFrame (s.indication p))
        (modPhone p (fun ph => { ph with indicated := s.indication p }) s)).same .call (by decide)
    refine ⟨by rw [sent]; rfl, fun q => ?_⟩
    rw [sent, modPhone_phones]
    split
    · next e => subst e; exact ⟨_, rfl⟩
    · exact ⟨_, rfl⟩
  · exact .of_call rfl

theorem settle_indicated (s : State) : Indicated s (settle s) :=
  (((settlePort_indicated 0 s).trans (settlePort_indicated 1 _)).trans (settlePort_indicated 2 _)).trans
    (settlePort_indicated 3 _)

/-! ### The claim test (R59) -/

/-- R59, R62: one claim has been started: the circuit it takes is FREE or of a lower priority. -/
structure Claimed (s t : State) (c : Fin 16) (r : Request) (m : BitVec 4) : Prop where
  circuits : t.call.circuits = s.call.circuits.set c (.ownClaiming r.port r.priority m)
  takes : s.call.circuits[c] = .free ∨ ∃ x o, Lower s.call.circuits r.priority c x o
  request : r ∈ s.call.requests
  active : s.phase = .active
  centre : s.selectedCentre ≠ none
  idle : s.call.attempt = none

/-- R59, R69: what the claim test can do. -/
structure Tested (s t : State) : Prop where
  keeps : SameBut [.tx, .call, .signs, .responses, .ports, .portCounts] s t
  floor : t.call.floor = s.call.floor
  requests : t.call.requests = s.call.requests
  holdAt : t.call.holdAt = s.call.holdAt
  phones : ∀ p : Port, ∃ x : Phone, t.call.phones[p] = { s.call.phones[p] with
    state := x.state, failed := x.failed, circuit := x.circuit, target := x.target, backoff := x.backoff }
  circuits : (t.call.circuits = s.call.circuits ∧ t.call.attempt = s.call.attempt) ∨ ∃ c r m, Claimed s t c r m
  queued : Queued 1 s t

theorem testClaim_none (h : claimHead s = none) : testClaim s = s := by
  rw [testClaim, Config.maxFailed, claimTests, h]

theorem claimHead_of_phase (h : s.phase ≠ .active) : claimHead s = none := if_neg fun c => h c.1

theorem claimHead_of_attempt (h : s.call.attempt ≠ none) : claimHead s = none := if_neg fun c => h c.2

theorem claimHead_of_requests (h : s.call.requests = []) : claimHead s = none := by
  unfold claimHead
  rw [h]
  exact ite_self none

theorem claimHead_of_centre (h : s.selectedCentre = none) : claimHead s = none := by
  unfold claimHead
  rw [h]
  cases s.call.requests <;> exact ite_self none

/-- R59: the head of the list that may claim. -/
theorem claimHead_some {r : Request} {centre : Nat} (h : claimHead s = some (r, centre)) :
    s.phase = .active ∧ s.call.attempt = none ∧ (∃ rest, s.call.requests = r :: rest) ∧ s.selectedCentre = some centre := by
  unfold claimHead at h
  split at h
  · next c =>
    split at h
    · next requests selected =>
      split at h
      · cases h
        exact ⟨c.1, c.2, ⟨_, requests⟩, selected⟩
      · cases h
    · cases h
  · cases h

theorem chooseCircuit_takes {v : Vector Circuit 16} {prio : Nat} {avoided : Option (Fin 16)} {c : Fin 16} {preempt : Bool}
    (h : chooseCircuit v prio avoided = some (c, preempt)) : v[c] = .free ∨ ∃ x o, Lower v prio c x o := by
  have chosen := chooseCircuit_chosen v prio avoided
  rw [h] at chosen
  have best {xs : List (Fin 16 × Nat × BitVec 16)} (taken : bestPreempt xs = some c) : ∃ x o, (c, x, o) ∈ xs := by
    cases xs with
    | nil => cases taken
    | cons x rest =>
      cases taken
      exact ⟨_, _, List.foldlRecOn (motive := (· ∈ x :: rest)) rest _ (List.mem_cons_self ..)
        fun b hb a ha => by
          split
          · exact List.mem_cons_of_mem _ ha
          · exact hb⟩
  cases chosen with
  | free e =>
    have mem := List.mem_filter.mp (e ▸ List.mem_cons_self .. : c ∈ (freeCircuits v).filter _)
    exact .inl (mem_freeCircuits.mp mem.1)
  | avoidedFree _ e => exact .inl (mem_freeCircuits.mp (e ▸ List.mem_cons_self ..))
  | preempts _ taken =>
    obtain ⟨x, o, mem⟩ := best taken
    exact .inr ⟨x, o, mem_preemptables.mp (List.mem_filter.mp mem).1⟩
  | preemptsAvoided _ _ taken =>
    obtain ⟨x, o, mem⟩ := best taken
    exact .inr ⟨x, o, mem_preemptables.mp mem⟩

/-- R60: an entry is written; the response table is told, which touches no call record. -/
theorem setCircuit_call (c : Fin 16) (e : Circuit) (s : State) :
    (setCircuit c e s).call = { s.call with circuits := s.call.circuits.set c e } :=
  (respond_keeps (s.setCall { s.call with circuits := s.call.circuits.set c e })).same .call (by decide)

/-- R62: the claim that a request sends. -/
def claimFor (r : Request) (centre : Nat) (c : Fin 16) (preempt : Bool) (s : State) : Claim :=
  { circuit := c, priority := r.priority, port := r.port, preempt := preempt, ring := s.call.phones[r.port].ringFlag,
    target := centre, number := s.call.claimCounter + 1, beaten := false }

/-- R62: the attempt that a claim starts. -/
def attemptFor (r : Request) (centre : Nat) (c : Fin 16) (s : State) : Attempt :=
  { port := r.port, circuit := c, priority := r.priority, number := s.call.claimCounter + 1, hangUp := false,
    target := centre, expires := s.now + Config.attemptTime }

/-- R62: the call unit behind a claim that was accepted. -/
def claimed (r : Request) (centre : Nat) (c : Fin 16) (s : State) : CallUnit :=
  { s.call with
    claimCounter := s.call.claimCounter + 1
    phones := s.call.phones.set r.port { s.call.phones[r.port] with state := .claiming, circuit := some c, target := some centre }
    attempt := some (attemptFor r centre c s)
    circuits := s.call.circuits.set c (.ownClaiming r.port r.priority (s.call.claimCounter + 1)) }

theorem sendClaim_room {r : Request} {centre : Nat} {c : Fin 16} {preempt : Bool} (room : (s.insertQueue .c).length < 32) :
    ∃ t, sendClaim r centre c preempt s = (t, true) ∧ t.call = claimed r centre c s ∧
      t.tx = s.withQueued [originate kClaim allStations (claimBytes (claimFor r centre c preempt s)) s] := by
  unfold sendClaim
  dsimp only
  rw [offer_room rfl (show (State.insertQueue (s.setCall { s.call with claimCounter := s.call.claimCounter + 1 }) .c).length < 32 from room)]
  refine ⟨_, rfl, setCircuit_call .., ?_⟩
  exact (setCircuit_keeps _ _ _).same .tx (by decide)

theorem sendClaim_full {r : Request} {centre : Nat} {c : Fin 16} {preempt : Bool} (full : 32 ≤ (s.insertQueue .c).length) :
    sendClaim r centre c preempt s = (s.setCall { s.call with claimCounter := s.call.claimCounter + 1 }, false) := by
  unfold sendClaim
  dsimp only
  rw [offer_full rfl (show 32 ≤ (State.insertQueue (s.setCall { s.call with claimCounter := s.call.claimCounter + 1 }) .c).length from full)]

/-- A port of which the claim is refused, and nothing else, before the claim test goes on. -/
theorem Tested.of_refused {p : Port}
    (h : Tested (failPort p (s.setCall { s.call with claimCounter := s.call.claimCounter + 1 })) t) : Tested s t := by
  have kept : SameBut [.tx, .call, .signs, .responses, .ports, .portCounts] s
      (failPort p (s.setCall { s.call with claimCounter := s.call.claimCounter + 1 })) :=
    (State.setCall_keeps.mono rfl).trans ((failPort_keeps p _).mono rfl)
  have unsent : Queued 0 s (failPort p (s.setCall { s.call with claimCounter := s.call.claimCounter + 1 })) :=
    .of_same rfl rfl rfl
  refine ⟨kept.trans h.keeps, h.floor, h.requests, h.holdAt, fun q => ?_, h.circuits.imp id ?_,
    unsent.trans h.queued |>.mono (by omega)⟩
  · obtain ⟨x, hx⟩ := h.phones q
    refine ⟨x, ?_⟩
    rw [hx, failPort, modPhone_phones]
    split
    · next e => subst e; dsimp only; split <;> rfl
    · rfl
  · rintro ⟨c, r, m, claim⟩
    exact ⟨c, r, m, claim.circuits, claim.takes, claim.request, claim.active, claim.centre, claim.idle⟩

theorem Tested.refl (s : State) : Tested s s :=
  ⟨.refl _ _, rfl, rfl, rfl, fun p => ⟨s.call.phones[p], rfl⟩, .inl ⟨rfl, rfl⟩, (Queued.refl s).mono (Nat.zero_le _)⟩

theorem claimTests_tested (k : Nat) (s : State) : Tested s (claimTests k s) := by
  induction k generalizing s with
  | zero => exact .refl s
  | succ k ih =>
    unfold claimTests
    split
    · exact .refl s
    · next r centre head =>
      obtain ⟨active, idle, ⟨rest, requests⟩, selected⟩ := claimHead_some head
      split
      · exact .refl s
      · next c preempt circuit =>
        rcases Nat.lt_or_ge (s.insertQueue .c).length 32 with room | full
        · obtain ⟨t, sent, call, tx⟩ := sendClaim_room (r := r) (centre := centre) (c := c) (preempt := preempt) room
          have keeps := sendClaim_keeps r centre c preempt s
          rw [sent] at keeps ⊢
          refine ⟨keeps, by rw [call]; rfl, by rw [call]; rfl, by rw [call]; rfl, fun p => ?_, .inr ?_, ?_⟩
          · rw [call]
            by_cases own : p = r.port
            · subst own
              exact ⟨{ s.call.phones[r.port] with state := .claiming, circuit := some c, target := some centre },
                vector_get_set ..⟩
            · exact ⟨s.call.phones[p], vector_get_set_ne _ _ _ _ own⟩
          · exact ⟨c, r, _, by rw [call]; rfl, chooseCircuit_takes circuit, requests ▸ List.mem_cons_self .., active,
              by rw [selected]; nofun, idle⟩
          · exact ⟨keeps.same .lines (by decide), keeps.same .straps (by decide), _, Nat.le_refl _, tx⟩
        · rw [sendClaim_full full]
          exact .of_refused (ih _)

theorem testClaim_tested (s : State) : Tested s (testClaim s) := claimTests_tested ..

end Sys2Proof.Machine
end

section
/-! PROOFS. Commands of a centre: their admission (R50, R52), the ways in which a COMMAND cell reaches the station table,
the ports that a target names (R53), group masks (R51) and the call floor (R56). -/

namespace Sys2Proof.Machine

variable {s : State} {via : Via} {c : Command} {i : Instr}

/-! ### Admission -/

/-- A row that stands for a COMMAND is that command at the station table. -/
theorem exec_command (h : commandOf i = some (via, c)) : exec i s = .next (commandArrives via c s) := by
  cases i <;> cases h <;> rfl

theorem command_known (h : commandOf i = some (via, c)) : c.isUnknown = false := by
  cases i <;> cases h <;> rfl

theorem isRestart_iff : c.isRestart = true ↔ c = .restart := by cases c <;> simp [Command.isRestart]

theorem fromCentre_iff : fromCentre via s = true ↔ FromCentre via s := by
  simp [fromCentre, FromCentre, State.centreHeard]

theorem addressed_iff : addressed via.addressing s = true ↔ Concerns via s := by
  unfold addressed Concerns
  split <;> simp_all

theorem commandArrives_unconcerned (h : s.phase = .strapFault ∨ ¬Concerns via s) : commandArrives via c s = s := by
  refine if_pos (h.imp id fun n => ?_)
  rw [← Bool.not_eq_true, addressed_iff]
  exact n

/-- R52: what becomes of a command that concerns the station. -/
theorem commandArrives_eq (numbered : s.phase ≠ .strapFault) (concerns : Concerns via s) :
    commandArrives via c s = match commandRefused via c s with
      | some r => rejected r s
      | none => commandEffect via c s := by
  refine if_neg fun h => h.elim numbered fun n => ?_
  rw [addressed_iff.mpr concerns] at n
  cases n

theorem commandRefused_notCentre (h : ¬FromCentre via s) : commandRefused via c s = some .notCentre := by
  rw [commandRefused, Bool.eq_false_iff.mpr fun e => h (fromCentre_iff.mp e)]
  rfl

theorem commandRefused_unknown (h : FromCentre via s) (unknown : c.isUnknown = true) :
    commandRefused via c s = some .unknown := by
  rw [commandRefused, fromCentre_iff.mpr h, unknown]
  rfl

theorem commandRefused_state (h : FromCentre via s) (known : c.isUnknown = false) (restart : c ≠ .restart)
    (inactive : s.phase ≠ .active) : commandRefused via c s = some .state := by
  have : c.isRestart = false := Bool.eq_false_iff.mpr fun e => restart (isRestart_iff.mp e)
  simp [commandRefused, fromCentre_iff.mpr h, known, this, inactive]

theorem commandRefused_restart (h : FromCentre via s) :
    commandRefused via .restart s = if via.addressing = .unicast then none else some .range := by
  simp [commandRefused, fromCentre_iff.mpr h, Command.isUnknown, Command.isRestart]

theorem readCommand_unknown {b : List Byte} (h : (byteAt b 0).toNat = 0 ∨ 15 < (byteAt b 0).toNat) :
    readCommand b = .unknown (byteAt b 0) := by
  have ne (k : Byte) (lo : 1 ≤ k.toNat) (hi : k.toNat ≤ 15) : byteAt b 0 ≠ k := fun e => by
    rw [e] at h; omega
  unfold readCommand
  rw [if_neg (ne 1 (by decide) (by decide)), if_neg (ne 2 (by decide) (by decide)), if_neg (ne 3 (by decide) (by decide)),
    if_neg (ne 4 (by decide) (by decide)), if_neg (ne 5 (by decide) (by decide)), if_neg (ne 6 (by decide) (by decide)),
    if_neg (ne 7 (by decide) (by decide)), if_neg (ne 8 (by decide) (by decide)), if_neg (ne 9 (by decide) (by decide)),
    if_neg (ne 10 (by decide) (by decide)), if_neg (ne 11 (by decide) (by decide)), if_neg (ne 12 (by decide) (by decide)),
    if_neg (ne 13 (by decide) (by decide)), if_neg (ne 14 (by decide) (by decide)), if_neg (ne 15 (by decide) (by decide))]

/-! ### COMMAND cells -/

/-- R50, R52: a COMMAND cell is handed to the station table; where R50 holds it back the command concerns nobody. -/
theorem handCell_command {delivered ownPort : Bool} {x : Cell} (command : x.kind = kCommand) (s : State) :
    handCell delivered ownPort x s =
      (commandArrives ⟨ownPort, x.source, addressingOf x.dest⟩ (readCommand x.payload) s, x) := by
  have claim : x.kind ≠ kClaim := by rw [command]; decide
  unfold handCell
  rw [if_neg claim, handPlain_command command]
  split
  · rfl
  · next held =>
    rw [commandArrives_unconcerned (.inr fun concerns => held ?_)]
    unfold handedOn
    split
    · next g e =>
      rw [command, Bool.and_eq_true, decide_eq_true_eq]
      exact ⟨concerns g e, rfl⟩
    · rfl
    · rfl

/-- R20: the centre port is offered no unicast COMMAND. -/
theorem toCentre_command {x : Cell} (command : x.kind = kCommand) (s : State) : toCentre true x s = s := by
  unfold toCentre offerCentre
  rw [command]
  exact ite_self s

theorem Passes.delivered {l : Line} {x : Cell} (h : Passes l x s) (own : s.own = some x.dest.toNat)
    (other : s.own ≠ some x.source.toNat) :
    exec (.cellArrives l x) s = .next (toCentre true x (handCell true false x (validWord l s)).1) := by
  rw [h.judged, showOwnHello_other (s := validWord l s) fun e => other e.2, routeCell,
    if_pos (show (validWord l s).own = _ from own), deliver]

/-- R16: a COMMAND that is delivered. -/
theorem Passes.command_delivered {l : Line} {x : Cell} (h : Passes l x s) (own : s.own = some x.dest.toNat)
    (other : s.own ≠ some x.source.toNat) (command : x.kind = kCommand) :
    exec (.cellArrives l x) s = .next
      (commandArrives ⟨false, x.source, addressingOf x.dest⟩ (readCommand x.payload) (validWord l s)) := by
  rw [h.delivered own other, handCell_command command, toCentre_command command]

/-- R18: a COMMAND that is copied passes on behind what the station table does with it. -/
theorem Passes.command_copied {l : Line} {x : Cell} (h : Passes l x s) (other : s.own ≠ some x.source.toNat)
    (group : 64 ≤ x.dest.toNat) (here : l = copyingLine s.fold) (command : x.kind = kCommand) :
    exec (.cellArrives l x) s = .next (forward l x (toCentre false x
      (commandArrives ⟨false, x.source, addressingOf x.dest⟩ (readCommand x.payload) (validWord l s)))) := by
  rw [h.copied other group here, handCell_command command]

theorem enqueueTransit_insert (l k : Line) (x : Cell) (s : State) :
    ((enqueueTransit l x s).tx.get k).insert = (s.tx.get k).insert := by
  unfold enqueueTransit
  split
  · cases l <;> cases k <;> rfl
  · rfl

theorem routeIntake_here {x : Cell} (own : s.own = some x.dest.toNat) : routeIntake x s = (handCell true true x s).1 :=
  if_pos own

theorem routeIntake_group {x : Cell} (away : s.own ≠ some x.dest.toNat) (group : addressingOf x.dest ≠ .unicast) :
    routeIntake x s = insertIntake (handCell false true x s).2 (handCell false true x s).1 := by
  rw [routeIntake, if_neg away, if_neg group]

/-- R182: a COMMAND at the head of the FIFO that moves on. -/
theorem intakeAdvance_command {x : Cell} {rest : List Cell} (active : s.phase = .active) (head : s.centre.intake = x :: rest)
    (going : s.centre.paused = false) (command : x.kind = kCommand) (room : (s.insertQueue .c).length < 32) :
    exec .intakeAdvance s = .next (routeIntake (intakeCell x s) (s.setCentre { s.centre with intake := rest })) := by
  refine congrArg Host.Outcome.next ?_
  have ready : intakeReady s = true := by
    rw [intakeReady, head]
    dsimp only
    rw [active, command]
    exact decide_eq_true room
  have still : goIfLow (s.setCentre { s.centre with intake := rest }) = s.setCentre { s.centre with intake := rest } := by
    unfold goIfLow
    split
    · exact if_neg fun h => by
        rw [State.setCentre_centre, going] at h
        cases h.1
    · rfl
  rw [advanceIntake, if_pos ready, moveIntake, head]
  dsimp only
  rw [still]

/-- R52: a COMMAND of a code outside the table, at a station that it concerns. -/
theorem commandArrives_unknown {b : List Byte} (numbered : s.phase ≠ .strapFault) (concerns : Concerns via s)
    (code : (byteAt b 0).toNat = 0 ∨ 15 < (byteAt b 0).toNat) :
    (FromCentre via s → commandArrives via (readCommand b) s = rejected .unknown s) ∧
      (¬FromCentre via s → commandArrives via (readCommand b) s = rejected .notCentre s) := by
  rw [commandArrives_eq numbered concerns, readCommand_unknown code]
  refine ⟨fun centre => ?_, fun notCentre => ?_⟩
  · rw [commandRefused_unknown centre rfl]
  · rw [commandRefused_notCentre notCentre]

theorem addressingOf_all : addressingOf 255 = .all := rfl

/-- R16, R18: a COMMAND cell that is delivered or copied to all stations, and what its command leaves. -/
theorem command_received {l : Line} {x : Cell} (way : Delivered l x s ∨ Copied l x s) (command : x.kind = kCommand) :
    ∃ t, exec (.cellArrives l x) s = .next t ∧ Concerns ⟨false, x.source, addressingOf x.dest⟩ (validWord l s) ∧
      SameBut [.tx, .ring, .ports, .portCounts, .centre]
        (commandArrives ⟨false, x.source, addressingOf x.dest⟩ (readCommand x.payload) (validWord l s)) t := by
  rcases way with ⟨passes, own, other⟩ | ⟨passes, all, other, here⟩
  · refine ⟨_, passes.command_delivered own other command, fun g e => ?_, .refl _ _⟩
    rw [addressingOf_unicast (own_le s own)] at e
    cases e
  · refine ⟨_, passes.command_copied other (by rw [all]; decide) (copyingLine_eq here) command, fun g e => ?_,
      .trans ((toCentre_keeps false x _).mono rfl) ((forward_keeps l x _).mono rfl)⟩
    rw [all, addressingOf_all] at e
    cases e

theorem group_of_not_unicast {x : Cell} (h : 64 ≤ x.dest.toNat) (formed : malformed x = false) :
    addressingOf x.dest ≠ .unicast := addressingOf_group h (validDest_of_formed formed)

/-- Settles O16, by the tests of `commandRefused` and the three ways of a COMMAND cell. -/
theorem commandsAreAdmittedByTheTestsOfR52 : Obligations.CommandsAreAdmittedByTheTestsOfR52 := by
  refine ⟨fun i via c s h => ⟨fun away => ?_, fun numbered concerns => ⟨fun notCentre => ?_,
    fun centre restart inactive => ?_, fun centre restart group => ?_⟩⟩, fun l c s way command numbered code => ?_,
    fun via s numbered centre unicast => ?_, fun l c s i h other command row => ⟨fun own => ?_, fun group here => ?_⟩,
    fun s c rest i active head going command room row => ⟨fun own => ?_, fun group => ?_⟩⟩
  · rw [exec_command h, commandArrives_unconcerned away]
  · rw [exec_command h, commandArrives_eq numbered concerns, commandRefused_notCentre notCentre]
  · rw [exec_command h, commandArrives_eq numbered concerns,
      commandRefused_state centre (command_known h) restart inactive]
  · subst restart
    rw [exec_command h, commandArrives_eq numbered concerns, commandRefused_restart centre, if_neg group]
  · obtain ⟨t, exec, concerns, kept⟩ := command_received way command
    obtain ⟨unknown, notCentre⟩ := commandArrives_unknown (s := validWord l s) numbered concerns code
    have station : t.station = _ := kept.same .station (by decide)
    have rejects (r : RejectReason) : SameBut [.lines, .tx, .ring, .station, .ports, .portCounts, .centre] s
        (rejected r (validWord l s)) := ((validWord_keeps l s).mono rfl).trans (State.setStation_keeps.mono rfl)
    by_cases centre : s.centreHeard c.source.toNat = true
    · rw [unknown (fromCentre_iff.mp centre)] at kept station
      exact ⟨t, exec, (rejects _).trans (kept.mono rfl), fun _ => station, fun other => by rw [centre] at other; cases other⟩
    · rw [notCentre fun from' => centre (fromCentre_iff.mpr from')] at kept station
      exact ⟨t, exec, (rejects _).trans (kept.mono rfl), fun from' => absurd from' centre, fun _ => station⟩
  · refine (congrArg Host.Outcome.next ?_ : exec (.restart via) s = _)
    rw [commandArrives_eq numbered (fun g e => nomatch unicast.symm.trans e), commandRefused_restart centre, if_pos unicast]
    rfl
  · rw [h.command_delivered own other command, ← exec_command row]
    rfl
  · refine ⟨_, _, exec_command row, h.command_copied other group here command,
      .trans ((toCentre_keeps false c _).mono rfl) ((forward_keeps l c _).mono rfl), fun k => ?_, fun noCentre => ?_⟩
    · rw [forward, enqueueTransit_insert]
      exact congrArg (fun tx : Both Transmitter => (tx.get k).insert) ((toCentre_keeps false c _).same .tx (by decide))
    · have straps := (commandArrives_kept (.refl (validWord l s)) fun _ => group_of_not_unicast group h.2.1 :
        Kept _ (commandArrives ⟨false, c.source, addressingOf c.dest⟩ (readCommand c.payload) (validWord l s))).straps
      have none : State.isCentre (commandArrives ⟨false, c.source, addressingOf c.dest⟩ (readCommand c.payload)
          (validWord l s)) = false := by
        simp only [State.isCentre, State.portOf, State.profile, straps]
        exact congrArg Option.isSome noCentre
      rw [toCentre, none, if_neg nofun]
      have kept := forward_keeps l c (commandArrives ⟨false, c.source, addressingOf c.dest⟩ (readCommand c.payload)
        (validWord l s))
      exact ⟨kept.same .ports (by decide), kept.same .portCounts (by decide), kept.same .centre (by decide)⟩
  · rw [intakeAdvance_command active head going command room, exec_command row,
      routeIntake_here (s := s.setCentre { s.centre with intake := rest }) (x := intakeCell c s) own, handCell_command (x := intakeCell c s) command]
    rfl
  · have away : s.own ≠ some c.dest.toNat := fun own => group (addressingOf_unicast (own_le s own))
    refine ⟨_, _, exec_command row, intakeAdvance_command active head going command room, ?_⟩
    rw [routeIntake_group (s := s.setCentre { s.centre with intake := rest }) (x := intakeCell c s) away group, handCell_command (x := intakeCell c s) command]
    exact insertIntake_keeps ..

/-! ### The ports that a target names (R53) -/

theorem actOnPorts_eq_foldl (act : Port → State → State) (ps : List Port) (s : State) :
    actOnPorts act ps s = ps.foldl (fun s p => act p s) s := by
  induction ps generalizing s with
  | nil => rfl
  | cons p rest ih => exact ih (act p s)

theorem concerned_iff {a : Addressing} {p : Port} :
    concerned a s p = true ↔ ∀ g, a = .group g → (s.groupMask g).getLsbD p.val = true := by
  unfold concerned inMask
  split <;> simp_all

theorem fits_iff {fit : List Profile} {p : Port} : fits fit s p = true ↔ s.profile p ∈ fit := by simp [fits]

theorem resolve_port {a : Addressing} {fit : List Profile} {target : Byte} {p : Port} (h : target.toNat = p.val) :
    resolve a fit target s = resolveOne a fit p s := by
  have lt : target.toNat < 4 := h ▸ p.isLt
  rw [resolve, dif_pos lt]
  congr

theorem resolve_all {a : Addressing} {fit : List Profile} : resolve a fit 255 s =
    if (fittingPorts a fit s).isEmpty && decide (a = .unicast) then .refused .port else .ports (fittingPorts a fit s) := by
  rw [resolve, dif_neg (by decide), if_pos rfl]

theorem mem_fittingPorts {a : Addressing} {fit : List Profile} {p : Port} : p ∈ fittingPorts a fit s ↔
    s.profile p ∈ fit ∧ ∀ g, a = .group g → (s.groupMask g).getLsbD p.val = true := by
  rw [fittingPorts, List.mem_filter, Bool.and_eq_true, concerned_iff, fits_iff, and_comm (a := ∀ g, _ → _)]
  simp

theorem fittingPorts_sorted (a : Addressing) (fit : List Profile) (s : State) :
    (fittingPorts a fit s).Pairwise (· < ·) := (List.pairwise_lt_finRange 4).filter _

/-- R53: an admitted port command, by what its target resolves to. -/
theorem portCommand_resolved {a : Addressing} {fit : List Profile} {target : Byte} {act : Port → State → State}
    {t : State} (h : t = portCommand a fit target act s) :
    (∀ ps, resolve a fit target s = .ports ps → t = ps.foldl (fun s p => act p s) s) ∧
      (∀ r, resolve a fit target s = .refused r → t = rejected r s) := by
  subst h
  refine ⟨fun ps e => ?_, fun r e => ?_⟩
  · rw [portCommand, e]; exact actOnPorts_eq_foldl ..
  · rw [portCommand, e]; rfl

theorem exec_admitted (admitted : Admitted via s) (h : commandOf i = some (via, c)) (restart : c.isRestart = false) :
    exec i s = .next (commandEffect via c s) := by
  rw [exec_command h, commandArrives_admitted admitted restart (command_known h)]

theorem commandSource_eq (via : Via) (s : State) :
    commandSource via s = if via.ownPort then s.straps.number.toNat else via.source.toNat := by
  have : s.ownByte.toNat = s.straps.number.toNat := by
    rw [State.ownByte, BitVec.toNat_setWidth]
    omega
  rw [commandSource, this]

/-- Settles O17, by the cases of the target, and for the eight port commands by `portCommand`. -/
theorem portCommandsActOnTheResolvedPorts : Obligations.PortCommandsActOnTheResolvedPorts := by
  refine ⟨fun a fit target s => ⟨fun p h fitting concerns => ?_, fun p h unfitting concerns => ?_, fun p h other => ?_,
    fun lo hi => ?_, fun all unicast nobody => ?_, fun all somebody => ?_⟩, fun via target s admitted i fit act way => ?_⟩
  · rw [resolve_port h, resolveOne, if_pos (concerned_iff.mpr concerns), if_pos (fits_iff.mpr fitting)]
  · rw [resolve_port h, resolveOne, if_pos (concerned_iff.mpr concerns), if_neg (fun e => unfitting (fits_iff.mp e))]
  · rw [resolve_port h, resolveOne, if_neg (fun e => other (concerned_iff.mp e))]
  · rw [resolve, dif_neg (by omega), if_neg]
    rintro rfl
    exact absurd hi (by decide)
  · have empty : fittingPorts a fit s = [] := List.eq_nil_iff_forall_not_mem.mpr fun p hp =>
      nobody p (mem_fittingPorts.mp hp).1
    rw [all, resolve_all, empty, unicast]
    rfl
  · refine ⟨fittingPorts a fit s, ?_, fittingPorts_sorted a fit s, fun p => mem_fittingPorts⟩
    rw [all, resolve_all, if_neg]
    rw [Bool.and_eq_true, decide_eq_true_eq]
    rintro ⟨empty, unicast⟩
    obtain ⟨p, fitting⟩ := somebody unicast
    have mem : p ∈ fittingPorts a fit s := mem_fittingPorts.mpr ⟨fitting, fun g e => nomatch unicast.symm.trans e⟩
    rw [List.isEmpty_iff.mp empty] at mem
    cases mem
  · have effect {c : Command} (row : commandOf i = some (via, c)) (restart : c.isRestart = false)
        (port : commandEffect via c s = portCommand via.addressing fit target act s) :
        (∀ ps, resolve via.addressing fit target s = .ports ps → exec i s = .next (ps.foldl (fun s p => act p s) s)) ∧
          (∀ r, resolve via.addressing fit target s = .refused r → exec i s = .next (rejected r s)) := by
      obtain ⟨ports, refused⟩ := portCommand_resolved port
      rw [exec_admitted admitted row restart]
      exact ⟨fun ps e => congrArg _ (ports ps e), fun r e => congrArg _ (refused r e)⟩
    rcases way with ⟨prio, rfl, rfl, rfl⟩ | ⟨q, rfl, rfl, rfl⟩ | ⟨page, prio, rfl, rfl, rfl⟩ | ⟨rfl, rfl, rfl⟩ |
      ⟨n, rfl, rfl, rfl⟩ | ⟨q, rfl, rfl, rfl⟩ | ⟨x, rfl, rfl, rfl⟩ | ⟨rfl, rfl, rfl⟩
    · exact effect rfl rfl rfl
    · exact effect rfl rfl rfl
    · exact effect rfl rfl rfl
    · exact effect rfl rfl rfl
    · exact effect rfl rfl rfl
    · exact effect rfl rfl rfl
    · refine effect rfl rfl ?_
      rw [← commandSource_eq]
      rfl
    · exact effect rfl rfl rfl

/-! ### Group masks and the call floor -/

theorem tested_ownHeld {t : State} (h : Tested s t) {k : Fin 16} {p : Port} {x : Nat}
    (held : s.call.circuits[k] = .ownHeld p x) : t.call.circuits[k] = .ownHeld p x := by
  rcases h.circuits with ⟨same, _⟩ | ⟨c, r, m, claim⟩
  · rw [same, held]
  · rw [claim.circuits, vector_get_set_ne _ _ _ _ ?_, held]
    rintro rfl
    rcases claim.takes with free | ⟨x', o, st, q, a, remote, _⟩
    · cases held.symm.trans free
    · cases held.symm.trans remote

theorem vector_setIfInBounds {α : Type} {n i : Nat} {v : Vector α n} {x : α} (h : i < n) :
    v.setIfInBounds i x = v.set i x := by
  ext j hj
  simp [Vector.getElem_set, Vector.getElem_setIfInBounds]

/-- Settles O18: GROUP-SET is one update, and CALL-FLOOR a claim test behind an update. -/
theorem groupSetAndCallFloor : Obligations.GroupSetAndCallFloor := by
  refine ⟨fun via g m s admitted => ⟨fun lo hi => ⟨m.setWidth 4 &&& usedPorts s, ?_, fun p => ?_⟩, fun bad => ?_⟩,
    fun via f s admitted => ⟨fun bad => ?_, fun good => ?_⟩⟩
  · rw [exec_admitted (c := .groupSet g m) admitted rfl rfl]
    have effect : commandEffect via (.groupSet g m) s = s.setStation { s.station with
        groups := s.station.groups.set (Fin.ofNat 32 g.toNat) (m.setWidth 4 &&& usedPorts s) } := if_pos ⟨lo, hi⟩
    rw [effect, vector_setIfInBounds (show g.toNat < 32 by omega)]
    have index : (Fin.ofNat 32 g.toNat).val = g.toNat := Nat.mod_eq_of_lt (by omega)
    simp only [index]
  · rw [BitVec.getLsbD_and, BitVec.getLsbD_setWidth, usedPorts, BitVec.getLsbD_not, maskOf_get]
    by_cases none : s.straps.profiles[p] = .none <;> simp [p.isLt, State.profile, -Fin.getElem_fin, none]
  · rw [exec_admitted (c := .groupSet g m) admitted rfl rfl]
    exact congrArg _ (if_neg bad)
  · rw [exec_admitted (c := .callFloor f) admitted rfl rfl]
    exact congrArg _ (if_neg (by omega))
  · rw [exec_admitted (c := .callFloor f) admitted rfl rfl]
    have effect : commandEffect via (.callFloor f) s = settle (testClaim (s.setCall { s.call with floor := f.toNat })) :=
      if_pos good
    rw [effect]
    have tested := testClaim_tested (s.setCall { s.call with floor := f.toNat })
    have settled := settle_indicated (testClaim (s.setCall { s.call with floor := f.toNat }))
    have keeps := settle_keeps (testClaim (s.setCall { s.call with floor := f.toNat }))
    have tx : (settle (testClaim (s.setCall { s.call with floor := f.toNat }))).tx = _ := keeps.same .tx (by decide)
    refine ⟨_, rfl, .trans (.trans (State.setCall_keeps.mono rfl) tested.keeps) (keeps.mono rfl), ?_,
      fun k p x held => ?_, fun a attempt => ?_, fun none => ?_⟩
    · rw [settled.call]; exact tested.floor
    · rw [settled.call]; exact tested_ownHeld tested held
    · rw [settled.call, testClaim_none (claimHead_of_attempt (by rw [State.setCall_call, attempt]; nofun))]
      exact attempt
    · rw [tx, settled.call, testClaim_none (claimHead_of_requests (s := s.setCall { s.call with floor := f.toNat }) none)]
      exact ⟨rfl, rfl, rfl, none⟩

end Sys2Proof.Machine
end

section
/-! PROOFS. Frames that a port takes whole (R176, R177), and the phone events of the call unit: requests, answers, voice and
the ends of calls (R58, R62, R74, R77 to R80, R82 to R84). -/

namespace Sys2Proof.Machine

variable {s t u : State} {p q : Port} {i : Instr} {f : RxFrame} {k : Profile}

/-! ### Frames that a port takes whole -/

theorem exec_frame (h : frameOf i = some (p, f)) : exec i s = .next (frameArrives p f s) := by
  cases i <;> cases h <;> rfl

/-- R176: a frame of the port's profile, at a port that waits for a start flag. -/
theorem frameArrives_whole (profile : s.profile p ≠ .none) (reads : s.ports[p].link ≠ .pass) (idle : s.rx[p] = none)
    (type : receives (s.profile p) f = true) (good : lengthGood f = true) : frameArrives p f s = validFrame p f s := by
  refine if_pos ?_
  rw [readsWhole, type, good, decide_eq_true ⟨profile, reads, idle⟩]
  rfl

/-- R177: the silence timer of the port's link, restarted. -/
theorem restartSilence_eq (p : Port) (s : State) : restartSilence p s =
    s.setPorts (s.ports.set p { s.ports[p] with silence := some (s.clock.now + 1000000000) }) := rfl

theorem restartSilence_keeps' (p : Port) (s : State) : SameBut [.ports] s (restartSilence p s) := State.setPorts_keeps

/-- R177: a frame of a service reaches it at a port that is UP. -/
theorem frame_served (serving : Serving k p s) (idle : s.rx[p] = none) (h : frameOf i = some (p, f))
    (type : rxProfile f = some k) (known : k ≠ .none) (good : lengthGood f = true) :
    exec i s = .next (serviceFrame p f (restartSilence p s)) := by
  obtain ⟨profile, up⟩ := serving
  have receives : receives (s.profile p) f = true := by
    rw [profile, receives, type]
    exact decide_eq_true rfl
  rw [exec_frame h, frameArrives_whole (by rw [profile]; exact known) (by rw [up]; nofun) idle receives good]
  have served : frameIn p f s = serviceFrame p f (restartSilence p s) := by rw [frameIn, up]
  cases f <;> first | exact congrArg _ served | cases type

/-! ### Requests -/

/-- R61: the lowest FREE circuit, none being avoided. -/
theorem chooseCircuit_lowest {v : Vector Circuit 16} {prio : Nat} {c : Fin 16} (free : v[c] = .free)
    (lowest : ∀ k : Fin 16, k < c → v[k] ≠ .free) : chooseCircuit v prio none = some (c, false) := by
  have mem := mem_freeCircuits.mpr free
  have chosen := chooseCircuit_chosen v prio none
  generalize chooseCircuit v prio none = answer at chosen
  cases chosen with
  | @free c' rest e =>
    have taken := List.mem_filter.mp (e ▸ List.mem_cons_self .. : c' ∈ (freeCircuits v).filter _)
    rw [freeCircuits, List.filter_filter] at e
    have le : c' ≤ c := head_le_of_filter e (by simp [free])
    rcases Nat.lt_or_eq_of_le le with lt | eq
    · exact absurd (mem_freeCircuits.mp taken.1) (lowest c' lt)
    · rw [Fin.ext eq]
  | avoidedFree none e =>
    have : c ∈ (freeCircuits v).filter (fun c => decide (some c ≠ .none)) := List.mem_filter.mpr ⟨mem, rfl⟩
    rw [none] at this
    cases this
  | preempts none _ => rw [none] at mem; cases mem
  | preemptsAvoided none _ _ => rw [none] at mem; cases mem
  | nothing none _ => rw [none] at mem; cases mem

theorem testClaim_claims {r : Request} {centre : Nat} {c : Fin 16} {preempt : Bool}
    (head : claimHead s = some (r, centre))
    (circuit : chooseCircuit s.call.circuits r.priority s.call.phones[r.port].avoided = some (c, preempt))
    (room : (s.insertQueue .c).length < 32) :
    (testClaim s).call = claimed r centre c s ∧
      (testClaim s).tx = s.withQueued [originate kClaim allStations (claimBytes (claimFor r centre c preempt s)) s] := by
  obtain ⟨t, sent, call, tx⟩ := sendClaim_room (r := r) (centre := centre) (c := c) (preempt := preempt) room
  rw [testClaim, Config.maxFailed, claimTests, head]
  dsimp only
  rw [circuit]
  dsimp only
  rw [sent]
  exact ⟨call, tx⟩

theorem mem_insertRequest (r x : Request) (rs : List Request) : x ∈ insertRequest r rs ↔ x = r ∨ x ∈ rs := by
  induction rs with
  | nil => simp [insertRequest]
  | cons y rest ih =>
    unfold insertRequest
    split
    · rw [List.mem_cons, ih, List.mem_cons, or_left_comm]
    · rw [List.mem_cons]

/-- R77, R80: the state with a new request, before the claim test. -/
def requested (p : Port) (prio : Nat) (ring : Bool) (s : State) : State :=
  joinRequest p prio (modPhone p (fun ph =>
    { ph with state := .waiting, priority := prio, ringFlag := ring, reason := .none, failed := 0 }) s)

theorem requested_phone (p : Port) (prio : Nat) (ring : Bool) (s : State) : (requested p prio ring s).call.phones[p] =
    { s.call.phones[p] with state := .waiting, priority := prio, ringFlag := ring, reason := .none, failed := 0 } :=
  vector_get_set ..

theorem Tested.phone_eq (h : Tested s t) (p : Port) : t.call.phones[p].priority = s.call.phones[p].priority ∧
    t.call.phones[p].ringFlag = s.call.phones[p].ringFlag ∧ t.call.phones[p].reason = s.call.phones[p].reason := by
  obtain ⟨x, hx⟩ := h.phones p
  rw [hx]
  exact ⟨rfl, rfl, rfl⟩

/-- What `settle` leaves of the call unit, field by field. -/
theorem Indicated.fields (h : Indicated s t) : t.call.requests = s.call.requests ∧ t.call.circuits = s.call.circuits ∧
    t.call.attempt = s.call.attempt ∧ t.call.claimCounter = s.call.claimCounter := by
  rw [h.call]
  exact ⟨rfl, rfl, rfl, rfl⟩

/-- R77, R80: a new request of an IDLE port; `w` is the state it is made in. -/
structure RequestMade (p : Port) (x : Nat) (ring : Bool) (w t : State) : Prop where
  keeps : SameBut [.tx, .call, .signs, .responses, .ports, .portCounts] w t
  priority : t.call.phones[p].priority = x
  ringFlag : t.call.phones[p].ringFlag = ring
  reason : t.call.phones[p].reason = .none
  request : ∃ r ∈ t.call.requests, r.port = p ∧ r.priority = x
  starting : w.phase = .starting → t.call.phones[p].state = .waiting ∧ t.tx = w.tx ∧
    t.call.circuits = w.call.circuits ∧ t.call.attempt = w.call.attempt
  claims : ∀ (centre : Nat) (c : Fin 16), w.phase = .active → w.call.requests = [] → w.call.attempt = none →
    w.call.floor ≤ x → w.selectedCentre = some centre → w.call.phones[p].avoided = none →
    w.call.circuits[c] = .free → (∀ k : Fin 16, k < c → w.call.circuits[k] ≠ .free) → (w.insertQueue .c).length < 32 →
    t.call.phones[p].state = .claiming ∧ t.call.claimCounter = w.call.claimCounter + 1 ∧
    t.call.circuits[c] = .ownClaiming p x (w.call.claimCounter + 1) ∧
    t.call.attempt = some { port := p, circuit := c, priority := x, number := w.call.claimCounter + 1,
                            hangUp := false, target := centre, expires := w.clock.now + 200000000 } ∧
    t.tx = w.withQueued [originate 2 255 (claimBytes
      { circuit := c, priority := x, port := p, preempt := false, ring := ring, target := centre,
        number := w.call.claimCounter + 1, beaten := false }) w]

theorem newRequest_made (p : Port) (x : Nat) (ring : Bool) (w : State) :
    RequestMade p x ring w (settle (newRequest p x ring w)) := by
  have made : newRequest p x ring w = testClaim (requested p x ring w) := rfl
  rw [made]
  have tested := testClaim_tested (requested p x ring w)
  have settled := settle_indicated (testClaim (requested p x ring w))
  have keeps := settle_keeps (testClaim (requested p x ring w))
  have tx : (settle (testClaim (requested p x ring w))).tx = (testClaim (requested p x ring w)).tx :=
    keeps.same .tx (by decide)
  obtain ⟨y, phone⟩ := settled.phones p
  obtain ⟨priority, ringFlag, reason⟩ := tested.phone_eq p
  obtain ⟨requests, circuits, attempt, counter⟩ := settled.fields
  rw [requested_phone] at priority ringFlag reason
  refine ⟨?_, by rw [phone]; exact priority, by rw [phone]; exact ringFlag, by rw [phone]; exact reason, ?_, fun starting => ?_,
    fun centre c active alone idle floor selected avoided free lowest room => ?_⟩
  · exact (State.setCall_keeps.mono rfl).trans ((State.setCall_keeps.mono rfl).trans (tested.keeps.trans (keeps.mono rfl)))
  · refine ⟨⟨p, x, w.call.joins⟩, ?_, rfl, rfl⟩
    rw [requests, tested.requests]
    exact (mem_insertRequest _ _ _).mpr (.inl rfl)
  · have inactive : claimHead (requested p x ring w) = none :=
      claimHead_of_phase (by rw [show (requested p x ring w).phase = w.phase from rfl, starting]; nofun)
    rw [phone, tx, circuits, attempt, testClaim_none inactive]
    exact ⟨by rw [requested_phone], rfl, rfl, rfl⟩
  · have list : (requested p x ring w).call.requests = [⟨p, x, w.call.joins⟩] := by
      rw [show (requested p x ring w).call.requests = insertRequest ⟨p, x, w.call.joins⟩ w.call.requests from rfl, alone]
      rfl
    have head : claimHead (requested p x ring w) = some (⟨p, x, w.call.joins⟩, centre) := by
      unfold claimHead
      rw [if_pos ⟨active, idle⟩, list, show (requested p x ring w).selectedCentre = w.selectedCentre from rfl, selected]
      exact if_pos ⟨by rw [requested_phone], floor⟩
    obtain ⟨call, queued⟩ := testClaim_claims (c := c) (preempt := false) head
      (by rw [requested_phone]; dsimp only; rw [avoided]; exact chooseCircuit_lowest free lowest) room
    have caller : (testClaim (requested p x ring w)).call.phones[p].state = .claiming := by
      rw [call]; exact congrArg Phone.state (vector_get_set ..)
    have entry : (testClaim (requested p x ring w)).call.circuits[c] = .ownClaiming p x (w.call.claimCounter + 1) := by
      rw [call]; exact vector_get_set ..
    refine ⟨by rw [phone]; exact caller, by rw [counter, call]; rfl, by rw [circuits]; exact entry,
      by rw [attempt, call]; rfl, ?_⟩
    rw [tx, queued, claimFor, requested_phone]
    rfl

theorem withQueued_get (s : State) (xs : List Cell) :
    ((s.withQueued xs).get (insertLine s.fold)).insert.c = s.insertQueue .c ++ xs := by
  rw [State.withQueued, Both.get_set_same]

/-- Settles O20: both rows make a new request, OFF-HOOK behind the restart of the silence timer. -/
theorem newRequestsJoinTheListAndClaim : Obligations.NewRequestsJoinTheListAndClaim := by
  intro p s i key via prio x ring serving idle way
  have made : ∃ ports, exec i s = .next (settle (newRequest p x ring (s.setPorts ports))) := by
    rcases way with ⟨rfl, rx, rfl, rfl, taken⟩ | ⟨rfl, rfl, lo, hi, rfl, admitted, unicast⟩
    · refine ⟨s.ports.set p { s.ports[p] with silence := some (s.clock.now + 1000000000) }, ?_⟩
      rw [frame_served (k := .phone) serving rx rfl rfl nofun rfl]
      have key : readKey (keyByte key) = some key := by cases key <;> rfl
      have calls : callsTaken (restartSilence p s) = true := by
        rw [callsTaken, show (restartSilence p s).phase = s.phase from rfl]
        rcases taken with h | h <;> rw [h] <;> rfl
      rw [serviceFrame, key]
      dsimp only
      rw [phoneOffHook, if_pos calls, show (restartSilence p s).call = s.call from rfl, idle]
      rfl
    · refine ⟨s.ports, ?_⟩
      rw [exec_admitted (c := .callPhone (natByte p.val) prio) admitted rfl rfl]
      have one : commandEffect via (.callPhone (natByte p.val) prio) s = callPhoneOn prio p s := by
        rw [commandEffect, unicast]
        exact portCommand_one (by rw [serving.1]; simp)
      rw [one, callPhoneOn, if_neg (not_not_intro ⟨lo, hi⟩), if_neg (not_not_intro ⟨serving.2, idle⟩)]
      rfl
  obtain ⟨ports, exec⟩ := made
  have h := newRequest_made p x ring (s.setPorts ports)
  refine ⟨_, exec, (State.setPorts_keeps.mono rfl).trans h.keeps, h.priority, h.ringFlag, h.reason, h.request, h.starting,
    fun centre c active alone idle floor selected avoided free lowest room => ?_⟩
  obtain ⟨state, counter, entry, attempt, tx⟩ := h.claims centre c active alone idle floor selected avoided free lowest room
  exact ⟨state, counter, entry, attempt, by rw [tx]; exact withQueued_get ..⟩

/-! ### Attempts that fail (R69, R70) -/

/-- R69: the circuit view when an attempt ends: its entry is FREE again. -/
def circuitsFailed (a : Attempt) (s : State) : Vector Circuit 16 :=
  if claimsFor s.call.circuits[a.circuit] a then s.call.circuits.set a.circuit .free else s.call.circuits

/-- R69, R70: the call record of a port whose attempt fails. -/
def phoneFailed (now : Time) (beaten : Option (Fin 16)) (ph : Phone) : Phone :=
  let ph := match beaten with
    | some c => { ph with avoided := some c }
    | none => ph
  if 4 ≤ ph.failed + 1 then
    { ph with state := .backoff, failed := ph.failed + 1, circuit := none, target := none, backoff := some (now + 1000000000) }
  else { ph with state := .waiting, failed := ph.failed + 1, circuit := none, target := none }

theorem freedAttempt_call (a : Attempt) (s : State) :
    (if claimsFor (s.setCall { s.call with attempt := none }).call.circuits[a.circuit] a then
        setCircuit a.circuit .free (s.setCall { s.call with attempt := none }) else s.setCall { s.call with attempt := none }).call =
      { s.call with attempt := none, circuits := circuitsFailed a s } := by
  unfold circuitsFailed
  rw [State.setCall_call]
  split
  · exact setCircuit_call ..
  · rfl

theorem failAttempt_eq (a : Attempt) (beaten : Option (Fin 16)) (s : State) (on : a.hangUp = false) :
    ∃ v, failAttempt a beaten s = testClaim v ∧ SameBut [.call, .signs, .responses, .ports, .portCounts] s v ∧
      v.call = { s.call with
        attempt := none, circuits := circuitsFailed a s
        phones := s.call.phones.set a.port (phoneFailed s.clock.now beaten s.call.phones[a.port]) } := by
  unfold failAttempt
  dsimp only
  rw [on, if_neg nofun]
  have freed := freedAttempt_call a s
  have kept : SameBut [.call, .signs, .responses, .ports, .portCounts] s
      (if claimsFor (s.setCall { s.call with attempt := none }).call.circuits[a.circuit] a then
        setCircuit a.circuit .free (s.setCall { s.call with attempt := none }) else s.setCall { s.call with attempt := none }) :=
    .of_ite (.trans (State.setCall_keeps.mono rfl) (setCircuit_keeps _ _ _)) (State.setCall_keeps.mono rfl)
  generalize (if claimsFor (s.setCall { s.call with attempt := none }).call.circuits[a.circuit] a then
    setCircuit a.circuit .free (s.setCall { s.call with attempt := none }) else s.setCall { s.call with attempt := none }) = y
    at freed kept
  have now : y.now = s.clock.now := congrArg Clock.now (kept.same .clock (by decide))
  refine ⟨_, rfl, (kept.trans ((avoidCircuit_keeps a.port beaten y).mono rfl)).trans ((failPort_keeps _ _).mono rfl), ?_⟩
  cases beaten with
  | none =>
    rw [avoidCircuit, failPort, modPhone, now, State.setCall_call, freed]
    rfl
  | some c =>
    rw [avoidCircuit, failPort, modPhone, modPhone, State.setCall_now, now, State.setCall_call, State.setCall_call, freed]
    dsimp only
    rw [vector_set_set, vector_get_set]
    rfl

/-- R59: nobody may claim where the only requests are those of a port that is not WAITING. -/
theorem claimHead_of_waiting (only : ∀ r ∈ s.call.requests, r.port = p) (h : s.call.phones[p].state ≠ .waiting) :
    claimHead s = none := by
  unfold claimHead
  split
  · split
    · next r rest centre requests _ =>
      refine if_neg fun c => h ?_
      rw [← only r (requests ▸ List.mem_cons_self ..)]
      exact c.1
    · rfl
  · rfl

theorem SameBut.selectedCentre_eq {ps : List Part} (h : SameBut ps s t) (hp : .station ∉ ps) :
    t.selectedCentre = s.selectedCentre := by
  simp only [State.selectedCentre, State.centreHeard, State.heardOf]
  rw [show t.station = s.station from h.same .station hp]

theorem attemptTimer_eq {a : Attempt} (h : s.call.attempt = some a) :
    exec .attemptTimerExpires s = .next (settle (failAttempt a none (withdrawClaim a (reach a.expires s)).1)) := by
  refine congrArg (fun t => Host.Outcome.next (settle t)) ?_
  rw [attemptExpired, h]

theorem withdrawClaim_keeps' (a : Attempt) (s : State) : SameBut [.tx] s (withdrawClaim a s).1 := withdrawC_keeps ..

theorem circuitsFailed_own {a : Attempt} {q : Port} {x : Nat} (h : s.call.circuits[a.circuit] = .ownClaiming q x a.number) :
    (circuitsFailed a s)[a.circuit] = .free := by
  rw [circuitsFailed, h, claimsFor, if_pos (decide_eq_true rfl)]
  exact vector_get_set ..

theorem circuitsFailed_other {a : Attempt} {k : Fin 16} (h : k ≠ a.circuit) : (circuitsFailed a s)[k] = s.call.circuits[k] := by
  unfold circuitsFailed
  split
  · exact vector_get_set_ne _ _ _ _ h
  · rfl

theorem phoneFailed_fourth {now : Time} {ph : Phone} (h : 3 ≤ ph.failed) : phoneFailed now none ph =
    { ph with state := .backoff, failed := ph.failed + 1, circuit := none, target := none, backoff := some (now + 1000000000) } :=
  if_pos (Nat.succ_le_succ h)

theorem phoneFailed_earlier {now : Time} {ph : Phone} {beaten : Option (Fin 16)} (h : ph.failed < 3) :
    phoneFailed now beaten ph = { ph with
      state := .waiting, failed := ph.failed + 1, circuit := none, target := none
      avoided := if beaten.isSome then beaten else ph.avoided } := by
  cases beaten <;> exact if_neg (by dsimp only; omega)

theorem attemptTimer_fails {a : Attempt} (attempt : s.call.attempt = some a) (own : a.port = p) (on : a.hangUp = false)
    (only : ∀ r ∈ s.call.requests, r.port = p) :
    ∃ t, exec .attemptTimerExpires s = .next t ∧
      SameBut [.clock, .tx, .call, .signs, .responses, .ports, .portCounts] s t ∧
      (3 ≤ s.call.phones[p].failed ∨ s.selectedCentre = none → t.call.attempt = none ∧
        t.call.circuits = circuitsFailed a s ∧ ∃ x, t.call.phones[p] =
          { phoneFailed (max s.clock.now a.expires) none s.call.phones[p] with indicated := x }) := by
  subst own
  have withdrawn : SameBut [.clock, .tx] s (withdrawClaim a (reach a.expires s)).1 :=
    .trans ((reach_keeps a.expires s).mono rfl) ((withdrawClaim_keeps' a _).mono rfl)
  have clock : (withdrawClaim a (reach a.expires s)).1.clock = (reach a.expires s).clock :=
    (withdrawClaim_keeps' a (reach a.expires s)).same .clock (by decide)
  have exec := attemptTimer_eq attempt
  generalize (withdrawClaim a (reach a.expires s)).1 = w at withdrawn clock exec
  have call : w.call = s.call := withdrawn.same .call (by decide)
  obtain ⟨v, failed, kept, vcall⟩ := failAttempt_eq a none w on
  rw [failed] at exec
  have settled := settle_indicated (testClaim v)
  refine ⟨_, exec, ?_, fun idle => ?_⟩
  · exact (withdrawn.mono rfl).trans ((kept.mono rfl).trans (((testClaim_keeps v).mono rfl).trans ((settle_keeps _).mono rfl)))
  · have none : claimHead v = none := by
      rcases idle with fourth | centre
      · refine claimHead_of_waiting (p := a.port) (by rw [vcall, call]; exact only) ?_
        rw [vcall, vector_get_set, call, phoneFailed_fourth fourth]
        nofun
      · refine claimHead_of_centre ?_
        rw [kept.selectedCentre_eq (by decide), withdrawn.selectedCentre_eq (by decide), centre]
    rw [testClaim_none none] at settled ⊢
    obtain ⟨x, phone⟩ := settled.phones a.port
    obtain ⟨_, circuits, attempt', _⟩ := settled.fields
    refine ⟨by rw [attempt', vcall], by rw [circuits, vcall, circuitsFailed, call]; rfl, x, ?_⟩
    rw [phone, vcall, vector_get_set, call, clock]
    rfl

theorem backoffTimer_eq {d : Time} (timer : s.call.phones[p].backoff = some d) (backoff : s.call.phones[p].state = .backoff) :
    exec (.backoffTimerExpires p) s = .next (settle (testClaim (modPhone p (fun ph =>
      { ph with state := .waiting, failed := 0, avoided := none, backoff := none }) (reach d s)))) := by
  refine congrArg (fun t => Host.Outcome.next (settle t)) ?_
  rw [backoffExpired, timer]
  exact if_pos backoff

/-- Settles O24: the attempt timer is a failed attempt, the backoff timer one update of the call record. -/
theorem attemptAndBackoffTimers : Obligations.AttemptAndBackoffTimers := by
  refine fun p s => ⟨fun a attempt own on only => ?_, fun d timer backoff centre => ?_⟩
  · obtain ⟨t, exec, keeps, ended⟩ := attemptTimer_fails attempt own on only
    refine ⟨t, exec, keeps, fun claiming idle => ?_, fun fourth => ?_, fun earlier centre => ?_⟩
    · rw [(ended idle).2.1, circuitsFailed_own claiming]
    · obtain ⟨attempt', _, x, phone⟩ := ended (.inl fourth)
      rw [phoneFailed_fourth fourth] at phone
      rw [phone]
      exact ⟨attempt', rfl, rfl, rfl, rfl⟩
    · obtain ⟨attempt', _, x, phone⟩ := ended (.inr centre)
      rw [phoneFailed_earlier earlier] at phone
      rw [phone]
      exact ⟨attempt', rfl, rfl, rfl, rfl⟩
  · let w := modPhone p (fun ph => { ph with state := .waiting, failed := 0, avoided := none, backoff := none }) (reach d s)
    have none : claimHead w = none := claimHead_of_centre centre
    have settled := settle_indicated w
    obtain ⟨x, phone⟩ := settled.phones p
    obtain ⟨requests, circuits, _, _⟩ := settled.fields
    rw [show w.call.phones[p] = _ from vector_get_set ..] at phone
    rw [backoffTimer_eq timer backoff, testClaim_none none]
    refine ⟨_, rfl, ?_, ?_⟩
    · exact ((reach_keeps d s).mono rfl).trans ((State.setCall_keeps.mono rfl).trans ((settle_keeps w).mono rfl))
    · change (settle w).call.phones[p].state = _ ∧ (settle w).call.phones[p].failed = _ ∧ (settle w).call.phones[p].avoided = _ ∧
        (settle w).call.phones[p].backoff = _ ∧ (settle w).call.requests = _ ∧ (settle w).call.circuits = _
      rw [phone, requests, circuits]
      exact ⟨rfl, rfl, rfl, rfl, rfl, rfl⟩

/-! ### Calls that end (R74, R78, R79) -/

theorem offerCounted_call (kind dest : Byte) (bytes : List Byte) (s : State) : (offerCounted kind dest bytes s).call = s.call :=
  (offerCounted_keeps kind dest bytes s).same .call (by decide)

/-- R74: a RELEASE is offered, and the entry becomes FREE. -/
theorem sendRelease_call (c : Fin 16) (p : Port) (s : State) :
    (sendRelease c p s).call = { s.call with circuits := s.call.circuits.set c .free } := by
  rw [sendRelease, setCircuit_call, offerCounted_call]

theorem sendRelease_ring (c : Fin 16) (p : Port) (s : State) :
    (sendRelease c p s).tx = (offerCounted kRelease allStations (releaseBytes c p) s).tx ∧
      (sendRelease c p s).ring = (offerCounted kRelease allStations (releaseBytes c p) s).ring :=
  have kept := setCircuit_keeps c .free (offerCounted kRelease allStations (releaseBytes c p) s)
  ⟨kept.same .tx (by decide), kept.same .ring (by decide)⟩

/-- R74: the state behind a RELEASE, the call record of the port changed by `f`, and no request waiting. -/
structure CallEnded (p : Port) (c : Fin 16) (f : Phone → Phone) (w t : State) : Prop where
  keeps : SameBut [.tx, .ring, .call, .signs, .responses, .ports, .portCounts] w t
  phone : ∃ x, t.call.phones[p] = { f w.call.phones[p] with indicated := x }
  circuits : t.call.circuits = w.call.circuits.set c .free
  requests : t.call.requests = []
  attempt : t.call.attempt = w.call.attempt
  room : (w.insertQueue .c).length < 32 →
    t.tx = w.withQueued [originate 3 255 [natByte c.val, natByte p.val] w] ∧ t.ring = w.ring
  full : 32 ≤ (w.insertQueue .c).length →
    t.tx = w.tx ∧ t.ring = { w.ring with insertDrops := bump w.ring.insertDrops }

theorem release_ended {c : Fin 16} (f : Phone → Phone) (w : State) (held : w.call.phones[p].circuit = some c)
    (alone : w.call.requests = []) :
    CallEnded p c f w (settle (testClaim (modPhone p f (releaseHeld p w)))) := by
  have released : releaseHeld p w = sendRelease c p w := by rw [releaseHeld, held]
  have call := sendRelease_call c p w
  obtain ⟨tx, ring⟩ := sendRelease_ring c p w
  have keeps := sendRelease_keeps c p w
  rw [released]
  generalize sendRelease c p w = y at call tx ring keeps
  have none : claimHead (modPhone p f y) = none :=
    claimHead_of_requests (show y.call.requests = [] by rw [call]; exact alone)
  have settled := settle_indicated (modPhone p f y)
  have kept := settle_keeps (modPhone p f y)
  obtain ⟨x, phone⟩ := settled.phones p
  obtain ⟨requests, circuits, attempt, _⟩ := settled.fields
  have stx : (settle (modPhone p f y)).tx = y.tx := kept.same .tx (by decide)
  have sring : (settle (modPhone p f y)).ring = y.ring := kept.same .ring (by decide)
  rw [testClaim_none none]
  refine ⟨(keeps.mono rfl).trans ((State.setCall_keeps.mono rfl).trans (kept.mono rfl)), ⟨x, ?_⟩, ?_, ?_, ?_, fun room => ?_,
    fun full => ?_⟩
  · rw [phone, modPhone_phones, if_pos rfl, call]
  · rw [circuits]; exact congrArg CallUnit.circuits call
  · rw [requests]; exact (congrArg CallUnit.requests call).trans alone
  · rw [attempt, show (modPhone p f y).call.attempt = y.call.attempt from rfl, call]
  · rw [stx, sring, tx, ring, offerCounted_room rfl room]
    exact ⟨rfl, rfl⟩
  · rw [stx, sring, tx, ring, offerCounted_full rfl full]
    exact ⟨rfl, rfl⟩

/-- R79: the call record of a ringing phone that nobody answers. -/
def unansweredPhone (ph : Phone) : Phone := { quietPhone ph with state := .idle, reason := .none }

/-- Settles O25: both rows release the circuit that the port holds. -/
theorem endedCallsReleaseTheirCircuit : Obligations.EndedCallsReleaseTheirCircuit := by
  intro p s i c way held alone
  rcases way with ⟨rfl, serving, rx, taken, holds⟩ | ⟨rfl, ringing, timer⟩
  · let w := s.setPorts (s.ports.set p { s.ports[p] with silence := some (s.clock.now + 1000000000) })
    have calls : callsTaken w = true := by
      rw [callsTaken, show w.phase = s.phase from rfl]
      rcases taken with h | h <;> rw [h] <;> rfl
    have exec : exec (.onHook p) s = .next (settle (testClaim (modPhone p idlePhone (releaseHeld p w)))) := by
      rw [frame_served (k := .phone) serving rx rfl rfl nofun rfl]
      refine congrArg (fun t => Host.Outcome.next (settle t)) ((if_pos calls).trans ?_)
      rw [endCall]
      rcases holds with h | h <;> rw [show (restartSilence p s).call.phones[p].state = _ from h] <;> rfl
    obtain ⟨keeps, ⟨x, phone⟩, circuits, requests, attempt, room, full⟩ := release_ended (p := p) idlePhone w held alone
    refine ⟨_, exec, (State.setPorts_keeps.mono rfl).trans (keeps.mono rfl), ?_⟩
    rw [phone]
    refine ⟨rfl, rfl, rfl, rfl, rfl, rfl, rfl, circuits, requests, attempt, fun h => ?_, full⟩
    obtain ⟨tx, ring⟩ := room h
    exact ⟨by rw [tx]; exact withQueued_get .., ring⟩
  · obtain ⟨d, timer⟩ := Option.ne_none_iff_exists'.mp timer
    have exec : exec (.ringingTimerExpires p) s =
        .next (settle (testClaim (modPhone p unansweredPhone (releaseHeld p (reach d s))))) := by
      refine congrArg (fun t => Host.Outcome.next (settle t)) ?_
      rw [ringingExpired, timer]
      exact if_pos ringing
    obtain ⟨keeps, ⟨x, phone⟩, circuits, requests, attempt, room, full⟩ :=
      release_ended (p := p) unansweredPhone (reach d s) held alone
    refine ⟨_, exec, ((reach_keeps d s).mono rfl).trans (keeps.mono rfl), ?_⟩
    rw [phone]
    refine ⟨rfl, rfl, rfl, rfl, rfl, rfl, rfl, circuits, requests, attempt, fun h => ?_, full⟩
    obtain ⟨tx, ring⟩ := room h
    exact ⟨by rw [tx]; exact withQueued_get .., ring⟩

/-! ### Answers and voice -/

/-- R76: an indication does not depend on the one last worked out. -/
theorem indication_eq (call : Indicated s t) (phase : t.phase = s.phase) (centre : t.selectedCentre = s.selectedCentre)
    (p : Port) : t.indication p = s.indication p := by
  obtain ⟨x, phone⟩ := call.phones p
  rw [State.indication, State.indication, phase, centre, phone]
  rfl

theorem settlePort_indication (q p : Port) (s : State) : (settlePort q s).indication p = s.indication p :=
  have kept := settlePort_keeps q s
  indication_eq (settlePort_indicated q s) (congrArg Station.phase (kept.same .station (by decide)))
    (kept.selectedCentre_eq (by decide)) p

/-- R76: the indication last worked out for a port is the one that its record gives. -/
def Shown (p : Port) (s : State) : Prop := s.call.phones[p].indicated = s.indication p

theorem settlePort_call (p : Port) (s : State) :
    (settlePort p s).call = (modPhone p (fun ph => { ph with indicated := s.indication p }) s).call ∨
      ((settlePort p s).call = s.call ∧ (s.profile p = .phone → Shown p s)) := by
  by_cases h : s.profile p = .phone ∧ s.indication p ≠ s.call.phones[p].indicated
  · exact .inl ((congrArg State.call (if_pos h)).trans ((sendService_keeps ..).same .call (by decide)))
  · refine .inr ⟨congrArg State.call (if_neg h), fun phone => ?_⟩
    exact Classical.byContradiction fun ne => h ⟨phone, Ne.symm ne⟩

theorem settlePort_shows (phone : s.profile p = .phone) : Shown p (settlePort p s) := by
  rw [Shown, settlePort_indication]
  rcases settlePort_call p s with call | ⟨call, shown⟩ <;> rw [call]
  · rw [modPhone_phones, if_pos rfl]
  · exact shown phone

theorem Shown.settlePort (h : Shown p s) (q : Port) : Shown p (settlePort q s) := by
  rw [Shown, settlePort_indication]
  rcases settlePort_call q s with call | ⟨call, _⟩ <;> rw [call]
  · rw [modPhone_phones]
    split
    · next own => subst own; rfl
    · exact h
  · exact h

theorem settlePort_profile (q p : Port) (s : State) : (settlePort q s).profile p = s.profile p := by
  rw [State.profile, show (settlePort q s).straps = s.straps from (settlePort_keeps q s).same .straps (by decide)]; rfl

/-- R76: `settle` leaves a phone port the indication that its record gives. -/
theorem settle_phone (phone : s.profile p = .phone) : (settle s).call.phones[p].indicated = s.indication p := by
  have shown : Shown p (settle s) := by
    unfold settle forPorts
    match p with
    | 0 => exact (((settlePort_shows phone).settlePort 1).settlePort 2).settlePort 3
    | 1 => exact ((settlePort_shows ((settlePort_profile ..).trans phone)).settlePort 2).settlePort 3
    | 2 => exact (settlePort_shows ((settlePort_profile ..).trans ((settlePort_profile ..).trans phone))).settlePort 3
    | 3 => exact settlePort_shows ((settlePort_profile ..).trans ((settlePort_profile ..).trans
        ((settlePort_profile ..).trans phone)))
  have kept := settle_keeps s
  exact shown.trans (indication_eq (settle_indicated s) (congrArg Station.phase (kept.same .station (by decide)))
    (kept.selectedCentre_eq (by decide)) p)

/-- R77: what ANSWER leaves of the call unit, its indication worked out. -/
structure Answered (p : Port) (s t : State) : Prop where
  keeps : SameBut [.call, .ports, .portCounts] s t
  circuits : t.call.circuits = s.call.circuits
  requests : t.call.requests = s.call.requests
  attempt : t.call.attempt = s.call.attempt
  connects : s.call.phones[p].state = .ringing → t.call.phones[p] = { s.call.phones[p] with
    state := .connected, ringing := none, sendSeq := 0, recvSeq := none, playout := [], playing := false,
    priming := 0, playTimer := some (s.clock.now + 5000000), indicated := .connected }
  ignored : s.call.phones[p].state ≠ .ringing → ∃ x, t.call.phones[p] = { s.call.phones[p] with indicated := x }

theorem callsTaken_of (h : s.phase = .starting ∨ s.phase = .active) : callsTaken s = true := by
  rw [callsTaken]
  rcases h with h | h <;> rw [h] <;> rfl

theorem phoneAnswer_ringing (taken : callsTaken s = true) (h : s.call.phones[p].state = .ringing) :
    phoneAnswer p s = modPhone p (connectPhone s.now) s :=
  if_pos (by rw [taken, decide_eq_true h]; rfl)

theorem phoneAnswer_else (h : s.call.phones[p].state ≠ .ringing) : phoneAnswer p s = s :=
  if_neg (by rw [decide_eq_false h, Bool.and_false]; nofun)

/-- R76: a CONNECTED phone of a station that takes calls shows CONNECTED. -/
theorem indication_connected (taken : s.phase = .starting ∨ s.phase = .active)
    (h : s.call.phones[p].state = .connected) : s.indication p = .connected := by
  have calls : ¬(s.phase = .mute ∨ s.phase = .strapFault) := by
    rcases taken with phase | phase <;> rw [phase] <;> nofun
  rw [State.indication, indicationOf, if_neg calls, h]

theorem settle_answered (taken : s.phase = .starting ∨ s.phase = .active) (phone : s.profile p = .phone) :
    Answered p s (settle (phoneAnswer p s)) := by
  have keeps : SameBut [.call, .ports, .portCounts] s (settle (phoneAnswer p s)) :=
    ((phoneAnswer_keeps p s).mono rfl).trans ((settle_keeps _).mono rfl)
  by_cases ringing : s.call.phones[p].state = .ringing
  · rw [phoneAnswer_ringing (callsTaken_of taken) ringing] at keeps ⊢
    have record : (modPhone p (connectPhone s.now) s).call.phones[p] = connectPhone s.now s.call.phones[p] :=
      vector_get_set ..
    have settled := settle_indicated (modPhone p (connectPhone s.now) s)
    obtain ⟨requests, circuits, attempt, _⟩ := settled.fields
    obtain ⟨x, phones⟩ := settled.phones p
    have shown := settle_phone (s := modPhone p (connectPhone s.now) s) phone
    rw [indication_connected (s := modPhone p (connectPhone s.now) s) taken (congrArg Phone.state record), phones,
      record] at shown
    have shows : x = .connected := shown
    refine ⟨keeps, circuits, requests, attempt, fun _ => ?_, fun other => absurd ringing other⟩
    rw [phones, record, shows]
    rfl
  · rw [phoneAnswer_else ringing] at keeps ⊢
    have settled := settle_indicated s
    obtain ⟨requests, circuits, attempt, _⟩ := settled.fields
    exact ⟨keeps, circuits, requests, attempt, fun h => absurd h ringing, fun _ => settled.phones p⟩

/-- R82: the VOICE cell that a CONNECTED phone's samples make. -/
def spoken (p : Port) (c : Fin 16) (target : Nat) (voice : List Byte) (s : State) : State :=
  modPhone p (fun ph => { ph with sendSeq := ph.sendSeq + 1 })
    (offerCounted kVoice (natByte target) (voiceBytes c s.call.phones[p].sendSeq voice) s)

theorem phoneSamples_spoken (connected : s.call.phones[p].state = .connected) (circuit : s.call.phones[p].circuit = some c)
    (aim : s.call.phones[p].target = some target) : phoneSamples p voice s = spoken p c target voice s := by
  rw [phoneSamples, connected, circuit, aim]
  rfl

theorem spoken_keeps : SameBut [.tx, .ring, .call] s (spoken p c target voice s) :=
  ((offerCounted_keeps ..).mono rfl).trans (State.setCall_keeps.mono rfl)

theorem spoken_call : (spoken p c target voice s).call = { s.call with
    phones := s.call.phones.set p { s.call.phones[p] with sendSeq := s.call.phones[p].sendSeq + 1 } } := by
  rw [spoken, modPhone, State.setCall_call, offerCounted_call]

theorem spoken_room (room : (s.insertQueue .v).length < 16) :
    (spoken p c target voice s).ring = s.ring ∧ ((spoken p c target voice s).tx.get (insertLine s.fold)).insert.v =
      s.insertQueue .v ++ [originate 1 (natByte target) (voiceBytes c s.call.phones[p].sendSeq voice) s] := by
  have joined := offerCounted_joins (kind := kVoice) (dest := natByte target)
    (bytes := voiceBytes c s.call.phones[p].sendSeq voice) (s := s) room
  rw [spoken, joined]
  refine ⟨rfl, ?_⟩
  rw [modPhone, State.setCall_tx, State.setTx_tx, Both.get_set_same]
  rfl

theorem spoken_full (full : 16 ≤ (s.insertQueue .v).length) :
    (spoken p c target voice s).tx = s.tx ∧
      (spoken p c target voice s).ring = { s.ring with insertDrops := bump s.ring.insertDrops } := by
  rw [spoken, offerCounted_drops (kind := kVoice) (dest := natByte target)
    (bytes := voiceBytes c s.call.phones[p].sendSeq voice) (s := s) full]
  exact ⟨rfl, rfl⟩

theorem answer_effect (taken : s.phase = .starting ∨ s.phase = .active) (phone : s.profile p = .phone)
    (ports : Vector PortUnit 4) : ∃ t, settle (phoneAnswer p (s.setPorts ports)) = t ∧
      SameBut [.call, .ports, .portCounts] s t ∧
       t.call.circuits = s.call.circuits ∧ t.call.requests = s.call.requests ∧ t.call.attempt = s.call.attempt ∧
       (s.call.phones[p].state = .ringing → t.call.phones[p] = { s.call.phones[p] with
         state := .connected, ringing := none, sendSeq := 0, recvSeq := none, playout := [], playing := false,
         priming := 0, playTimer := some (s.clock.now + 5000000), indicated := .connected }) ∧
       (s.call.phones[p].state ≠ .ringing → ∃ x, t.call.phones[p] = { s.call.phones[p] with indicated := x }) := by
  have a := settle_answered (s := s.setPorts ports) taken phone
  generalize settle (phoneAnswer p (s.setPorts ports)) = t at a ⊢
  exact ⟨t, rfl, (State.setPorts_keeps.mono rfl).trans a.keeps, a.circuits, a.requests, a.attempt, a.connects, a.ignored⟩

/-- Settles O26: ANSWER is one update of the call record, SAMPLES an offer and an update. -/
theorem phonesAnswerAndSpeak : Obligations.PhonesAnswerAndSpeak := by
  refine ⟨fun p s serving rx taken => ?_, fun p voice s c target serving rx long connected circuit aim => ?_⟩
  · have exec : exec (.answer p) s = .next (settle (phoneAnswer p (restartSilence p s))) :=
      frame_served (i := .answer p) (f := .answer) (k := .phone) serving rx rfl rfl nofun rfl
    obtain ⟨t, e, effect⟩ := answer_effect taken serving.1
      (s.ports.set p { s.ports[p] with silence := some (s.clock.now + 1000000000) })
    exact ⟨t, exec.trans (congrArg Host.Outcome.next e), effect⟩
  · have exec : exec (.samples p voice) s = .next (spoken p c target voice (restartSilence p s)) :=
      (frame_served (i := .samples p voice) (f := .samples voice) (k := .phone) serving rx rfl rfl nofun
        (show lengthGood (.samples voice) = true from decide_eq_true long)).trans
        (congrArg Host.Outcome.next (phoneSamples_spoken (s := restartSilence p s) connected circuit aim))
    refine ⟨_, exec, (State.setPorts_keeps.mono rfl).trans (spoken_keeps.mono rfl), ?_, spoken_call,
      fun room => spoken_room room, fun full => spoken_full full⟩
    exact spoken_keeps.same .ports (by decide)

end Sys2Proof.Machine
end

section
/-! PROOFS. Cells delivered to a unit, voice (R83, R84). -/

namespace Sys2Proof.Machine

variable {p : Port} {s t : State}

/-! ### Delivery -/

/-- R16: a delivered cell, other than a CLAIM, goes to the unit that owns its kind. -/
theorem handCell_delivered {c : Cell} {own : Bool} (claim : c.kind ≠ kClaim) (here : s.own = some c.dest.toNat) :
    handCell true own c s = (handPlain true own c s, c) := by
  rw [handCell, addressingOf_unicast (own_le _ here), if_pos (show handedOn c.kind .unicast s = true from rfl),
    if_neg claim]

theorem Delivered.exec {l : Line} {c : Cell} (h : Delivered l c s) (claim : c.kind ≠ kClaim) :
    exec (.cellArrives l c) s = .next (toCentre true c (handPlain true false c (validWord l s))) := by
  obtain ⟨passes, own, other⟩ := h
  rw [passes.delivered own other, handCell_delivered (s := validWord l s) claim own]

theorem toCentre_of_not {c : Cell} {d : Bool} (h : s.isCentre = false) : toCentre d c s = s :=
  if_neg (by rw [h]; nofun)

theorem whenActive_active {f : State → State} (h : s.phase = .active) : whenActive f s = f s := if_pos h

theorem handPlain_voice {c : Cell} {d own : Bool} (h : c.kind = kVoice) : handPlain d own c s =
    if d then whenActive (voiceDelivered c.source.toNat (circuitAt c.payload 0) (byteAt c.payload 1) (readVoice c.payload)) s
    else s := if_pos h

/-! ### Playout -/

theorem find?_first {α : Type} {q : α → Bool} {l₁ l₂ : List α} {a : α} (before : ∀ x ∈ l₁, q x = false) (here : q a = true) :
    (l₁ ++ a :: l₂).find? q = some a := by
  rw [List.find?_append, List.find?_eq_none.mpr fun x hx => by rw [before x hx]; nofun, List.find?_cons_of_pos here]
  rfl

/-- The first port with a property. -/
theorem find_port {q : Port → Bool} (here : q p = true) (before : ∀ k : Port, k < p → q k = false) :
    (List.finRange 4).find? q = some p := by
  have low (k : Port) (l : List Port) (hl : ∀ x ∈ l, x < p) : ∀ x ∈ l, q x = false := fun x hx => before x (hl x hx)
  match p with
  | 0 => exact find?_first (l₁ := []) nofun here
  | 1 => exact find?_first (l₁ := [0]) (low 0 _ (by decide)) here
  | 2 => exact find?_first (l₁ := [0, 1]) (low 0 _ (by decide)) here
  | 3 => exact find?_first (l₁ := [0, 1, 2]) (low 0 _ (by decide)) here

/-- R83: a cell is late unless its number is one of the 127 behind the last one taken. -/
def LateVoice (seq : BitVec 8) (ph : Phone) : Prop :=
  ∃ r, ph.recvSeq = some r ∧ ¬(1 ≤ (seq - r).toNat ∧ (seq - r).toNat ≤ 127)

theorem takeVoice_late {voice : List Byte} {seq : BitVec 8} {ph : Phone} (h : LateVoice seq ph) :
    takeVoice seq voice ph = { ph with late := bump ph.late } := by
  obtain ⟨r, last, old⟩ := h
  have notNewer : isNewer seq r = false := decide_eq_false old
  simp only [takeVoice, last, notNewer]
  rfl

theorem takeVoice_fresh {voice : List Byte} {seq : BitVec 8} {ph : Phone} (h : ¬LateVoice seq ph) :
    takeVoice seq voice ph = if ph.playout.length < 8 then
        { ph with playout := ph.playout ++ [⟨seq, voice⟩], recvSeq := some seq, priming := ph.priming + 1 }
      else { ph with playout := ph.playout.drop 1 ++ [⟨seq, voice⟩], recvSeq := some seq, priming := ph.priming + 1,
                     overflow := bump ph.overflow } := by
  cases last : ph.recvSeq with
  | none => rw [takeVoice, last]; rfl
  | some r =>
    have newer : isNewer seq r = true := decide_eq_true (Decidable.byContradiction fun old => h ⟨r, last, old⟩)
    simp only [takeVoice, last, newer]
    rfl

theorem voiceDelivered_eq {source : Nat} {c : Fin 16} {seq : BitVec 8} {voice : List Byte} (here : voicePort c source s p = true)
    (before : ∀ q : Port, q < p → voicePort c source s q = false) :
    voiceDelivered source c seq voice s = modPhone p (takeVoice seq voice) s := by
  rw [voiceDelivered, find_port here before]

/-- R84: an expiry of a CONNECTED port's playout timer. -/
theorem playoutExpired_eq {d : Time} (timer : s.call.phones[p].playTimer = some d)
    (connected : s.call.phones[p].state = .connected) :
    playoutExpired p s = sendService p (playNext s.call.phones[p]).1
      (modPhone p (fun _ => { (playNext s.call.phones[p]).2 with playTimer := some (d + 5000000) }) (reach d s)) := by
  rw [playoutExpired, timer]
  exact if_pos connected

/-- Settles O27: a delivered VOICE cell is one update of its phone's record, a playout expiry one update and one frame. -/
theorem voiceIsQueuedAndPlayedOut : Obligations.VoiceIsQueuedAndPlayedOut := by
  refine ⟨fun l cell s p ph h kind active centre record profile connected circuit target first => ?_,
    fun p s d ph record timer connected => ?_⟩
  · subst record
    have exec : exec (.cellArrives l cell) s = .next (modPhone p
        (takeVoice (byteAt cell.payload 1) (readVoice cell.payload)) (validWord l s)) := by
      have here : voicePort (circuitAt cell.payload 0) cell.source.toNat (validWord l s) p = true :=
        decide_eq_true ⟨profile, connected, circuit, target⟩
      have before (q : Port) (below : q < p) : voicePort (circuitAt cell.payload 0) cell.source.toNat (validWord l s) q = false :=
        decide_eq_false fun ⟨a, b, c, _⟩ => first q below ⟨a, b, c⟩
      rw [h.exec (by rw [kind]; decide), handPlain_voice kind, if_pos rfl, whenActive_active (s := validWord l s) active,
        voiceDelivered_eq here before]
      exact congrArg Host.Outcome.next (toCentre_of_not centre)
    intro seq late joined
    refine ⟨_, exec, (show SameBut [.lines, .call] s _ from ((validWord_keeps ..).mono rfl).trans (State.setCall_keeps.mono rfl)), ?_, ?_⟩
    · rw [modPhone_phones, if_pos rfl]
      rfl
    · rw [modPhone_phones, if_pos rfl, show (validWord l s).call = s.call from rfl]
      refine ⟨takeVoice_late, fun fresh room => ?_, fun fresh full => ?_⟩ <;> rw [takeVoice_fresh fresh]
      · exact if_pos room
      · exact if_neg (Nat.not_lt.mpr full)
  · subst record
    refine ⟨(playNext s.call.phones[p]).1, (playNext s.call.phones[p]).2, ?_, ?_⟩
    · exact congrArg Host.Outcome.next (playoutExpired_eq timer connected)
    · refine ⟨fun quiet few => ?_, fun v rest quiet primed queue => ?_, fun v rest playing queue => ?_, fun playing queue => ?_⟩
      · cases queue : s.call.phones[p].playout with
        | nil => rw [playNext, quiet, queue]; exact ⟨rfl, rfl⟩
        | cons v rest => rw [playNext, quiet, queue]; simp only [if_neg (Nat.not_le.mpr few), and_self]
      · rw [playNext, quiet, queue]; simp only [if_pos primed, and_self]
      · rw [playNext, playing, queue]; exact ⟨rfl, rfl⟩
      · rw [playNext, playing, queue]; exact ⟨rfl, rfl⟩

end Sys2Proof.Machine
end

section
/-! PROOFS. Claims of other stations that pass (R63 to R66) and own claims that come home (R67 to R69). -/

namespace Sys2Proof.Machine

variable {p : Port} {s t : State} {k c : Fin 16} {n x : Nat}

/-! ### Entries that become REMOTE (R60, R66) -/

/-- R60, R66, R72: the circuit view after an entry was set to REMOTE. -/
structure RemoteSet (c : Fin 16) (n : Nat) (p : Port) (x : Nat) (s t : State) : Prop where
  keeps : SameBut [.call, .signs, .responses, .ports, .portCounts] s t
  call : t.call = { s.call with circuits := t.call.circuits, orderCount := t.call.orderCount }
  entry : ∃ o, t.call.circuits[c] = .remote n p x s.clock.now o
  same : ∀ q y a o, s.call.circuits[c] = .remote n q y a o →
    t.call.circuits = s.call.circuits.set c (.remote n p x s.clock.now o)
  others : ∀ k : Fin 16, k ≠ c → ∃ f, t.call.circuits[k] = (s.call.circuits[k]).renumber f

/-- R60: the orders of the other REMOTE entries are renumbered, where the count comes round. -/
def remoteEntered (c : Fin 16) (n : Nat) (p : Port) (x : Nat) (s : State) : CallUnit :=
  let a := advanceOrder s.call.orderCount (s.call.circuits.toList.filterMap Circuit.order?)
  { s.call with circuits := (s.call.circuits.map (Circuit.renumber a.1)).set c (.remote n p x s.now a.2), orderCount := a.2 }

theorem enterRemote_call (c : Fin 16) (n : Nat) (p : Port) (x : Nat) (s : State) :
    (enterRemote c n p x s).call = remoteEntered c n p x s :=
  (respond_keeps (s.setCall (remoteEntered c n p x s))).same .call (by decide)

theorem renumber_id (e : Circuit) : e.renumber id = e := by cases e <;> rfl

theorem enterRemote_set (h : ∀ q y a o, s.call.circuits[c] ≠ .remote n q y a o) :
    RemoteSet c n p x s (enterRemote c n p x s) := by
  have call := enterRemote_call c n p x s
  refine ⟨enterRemote_keeps .., by rw [call]; rfl, ⟨_, by rw [call]; exact vector_get_set ..⟩,
    fun q y a o e => absurd e (h q y a o), fun k hk =>
      ⟨(advanceOrder s.call.orderCount (s.call.circuits.toList.filterMap Circuit.order?)).1, ?_⟩⟩
  rw [call]
  refine (vector_get_set_ne _ _ _ _ hk).trans ?_
  exact Vector.getElem_map ..

theorem setRemote_set (c : Fin 16) (n : Nat) (p : Port) (x : Nat) (s : State) : RemoteSet c n p x s (setRemote c n p x s) := by
  cases e : s.call.circuits[c] with
  | remote st q y a o =>
    by_cases own : st = n
    · subst own
      have set : setRemote c st p x s = setCircuit c (.remote st p x s.now o) s := by
        rw [setRemote, e]; exact if_pos rfl
      have call := setCircuit_call c (.remote st p x s.now o) s
      rw [set]
      refine ⟨setCircuit_keeps .., by rw [call], ⟨o, by rw [call]; exact vector_get_set ..⟩, fun q' y' a' o' e' => ?_,
        fun k hk => ⟨id, ?_⟩⟩
      · obtain ⟨_, _, _, _, rfl⟩ := Circuit.remote.inj (e.symm.trans e')
        rw [call]
        rfl
      · rw [call, renumber_id]
        exact vector_get_set_ne _ _ _ _ hk
    · have set : setRemote c n p x s = enterRemote c n p x s := by
        rw [setRemote, e]; exact if_neg own
      rw [set]
      exact enterRemote_set fun q' y' a' o' e' => own (Circuit.remote.inj (e.symm.trans e')).1
  | _ =>
    have set : setRemote c n p x s = enterRemote c n p x s := by rw [setRemote, e]
    rw [set]
    exact enterRemote_set fun q' y' a' o' e' => by rw [e] at e'; cases e'

/-- R61: the claim test takes no entry of a priority that no request exceeds. -/
theorem Tested.remote_stays (h : Tested s t) (low : ∀ r ∈ s.call.requests, r.priority ≤ x) {a : Time} {o : BitVec 16}
    (e : s.call.circuits[k] = .remote n p x a o) : t.call.circuits[k] = .remote n p x a o := by
  rcases h.circuits with ⟨circuits, _⟩ | ⟨c, r, m, claim⟩
  · rw [circuits, e]
  · have away : k ≠ c := by
      rintro rfl
      rcases claim.takes with free | ⟨y, o', st, q, a', e', lt⟩
      · rw [e] at free; cases free
      · obtain ⟨_, _, rfl, _⟩ := Circuit.remote.inj (e.symm.trans e')
        exact absurd lt (Nat.not_lt.mpr (low r claim.request))
    rw [claim.circuits, ← e]
    exact vector_get_set_ne _ _ _ _ away

theorem RemoteSet.tested (h : RemoteSet c n p x s t) (low : ∀ r ∈ s.call.requests, r.priority ≤ x) :
    ∃ o, (testClaim t).call.circuits[c] = .remote n p x s.clock.now o := by
  obtain ⟨o, e⟩ := h.entry
  exact ⟨o, (testClaim_tested t).remote_stays (by rw [h.call]; exact low) e⟩

/-! ### Calls that are lost (R75, R79) -/

theorem loseCall_circuits (q : Port) (reason : CallReason) (s : State) :
    (loseCall q reason s).call.circuits = s.call.circuits := by
  unfold loseCall
  split <;> rfl

theorem loseCall_requests {q : Port} {reason : CallReason} {r : Request} (h : r ∈ (loseCall q reason s).call.requests) :
    r ∈ s.call.requests ∨ r.priority = s.call.phones[q].priority := by
  unfold loseCall at h
  split at h
  · exact .inl h
  · rcases (mem_insertRequest _ _ _).mp h with rfl | old
    · exact .inr rfl
    · exact .inl old

theorem RemoteSet.lost (h : RemoteSet c n p x s t) (low : ∀ r ∈ s.call.requests, r.priority ≤ x)
    (phones : ∀ q : Port, s.call.phones[q].priority ≤ x) (q : Port) (reason : CallReason) :
    ∃ o, (testClaim (loseCall q reason t)).call.circuits[c] = .remote n p x s.clock.now o := by
  obtain ⟨o, e⟩ := h.entry
  refine ⟨o, (testClaim_tested _).remote_stays (fun r mem => ?_) (by rw [loseCall_circuits]; exact e)⟩
  rcases loseCall_requests mem with old | lost
  · exact low r (by rw [h.call] at old; exact old)
  · rw [lost, h.call]
    exact phones q

/-! ### Passing claims (R63 to R66) -/

/-- R69: a failed attempt frees its own entry at most, and tests the claims. -/
theorem failAttempt_tested (a : Attempt) (beaten : Option (Fin 16)) (s : State) :
    ∃ v, failAttempt a beaten s = testClaim v ∧ v.call.requests = s.call.requests ∧ v.call.circuits = circuitsFailed a s := by
  have freed := freedAttempt_call a s
  unfold failAttempt
  dsimp only
  generalize (if claimsFor (s.setCall { s.call with attempt := none }).call.circuits[a.circuit] a then
    setCircuit a.circuit .free (s.setCall { s.call with attempt := none }) else s.setCall { s.call with attempt := none }) = y
    at freed
  refine ⟨_, rfl, ?_⟩
  have avoided : (avoidCircuit a.port beaten y).call.requests = y.call.requests ∧
      (avoidCircuit a.port beaten y).call.circuits = y.call.circuits := by
    cases beaten <;> exact ⟨rfl, rfl⟩
  rw [freed] at avoided
  split
  · exact avoided
  · exact avoided

theorem circuitsFailed_remote {a : Attempt} {y : Time} {o : BitVec 16} (e : s.call.circuits[k] = .remote n p x y o) :
    (circuitsFailed a s)[k] = .remote n p x y o := by
  by_cases here : k = a.circuit
  · subst here
    rw [circuitsFailed, e]
    exact e
  · rw [circuitsFailed_other here, e]

theorem failAttempt_remote {a : Attempt} {beaten : Option (Fin 16)} {y : Time} {o : BitVec 16}
    (low : ∀ r ∈ s.call.requests, r.priority ≤ x) (e : s.call.circuits[k] = .remote n p x y o) :
    (failAttempt a beaten s).call.circuits[k] = .remote n p x y o := by
  obtain ⟨v, failed, requests, circuits⟩ := failAttempt_tested a beaten s
  rw [failed]
  exact (testClaim_tested v).remote_stays (by rw [requests]; exact low) (by rw [circuits]; exact circuitsFailed_remote e)

/-- R66: the claim takes the entry of its circuit. -/
def TakesEntry (n : Nat) (cl : Claim) (s : State) (r : State × Bool) : Prop :=
  r.2 = false ∧ ∃ o, r.1.call.circuits[cl.circuit] = .remote n cl.port cl.priority s.clock.now o

section
variable {cl : Claim} (view : viewKept s = true) (good : cl.beaten = false)
  (low : ∀ r ∈ s.call.requests, r.priority ≤ cl.priority) (phones : ∀ q : Port, s.call.phones[q].priority ≤ cl.priority)
include view good low phones

omit phones in
theorem claimCopied_stronger {q : Port} {y : Nat} {m : BitVec 4} (e : s.call.circuits[cl.circuit] = .ownClaiming q y m)
    (wins : beats cl.priority n y (s.own.getD 0) = true) : TakesEntry n cl s (claimCopied n cl s) := by
  have set := setRemote_set cl.circuit n cl.port cl.priority s
  have low' : ∀ r ∈ (setRemote cl.circuit n cl.port cl.priority s).call.requests, r.priority ≤ cl.priority := by
    rw [set.call]; exact low
  obtain ⟨o, entry⟩ := set.entry
  rw [claimCopied, if_neg (by rw [view, good]; nofun), e]
  dsimp only
  rw [if_pos wins]
  cases (setRemote cl.circuit n cl.port cl.priority s).call.attempt with
  | none => exact ⟨rfl, set.tested low⟩
  | some a =>
    have call : (withdrawClaim a (setRemote cl.circuit n cl.port cl.priority s)).1.call =
        (setRemote cl.circuit n cl.port cl.priority s).call := (withdrawClaim_keeps' a _).same .call (by decide)
    dsimp only
    generalize withdrawClaim a (setRemote cl.circuit n cl.port cl.priority s) = w at call
    obtain ⟨w, withdrawn⟩ := w
    rw [← call] at low' entry
    cases withdrawn with
    | true => exact ⟨rfl, o, failAttempt_remote low' entry⟩
    | false => exact ⟨rfl, o, (testClaim_tested w).remote_stays low' entry⟩

omit low phones in
theorem claimCopied_weaker {q : Port} {y : Nat} {m : BitVec 4} (e : s.call.circuits[cl.circuit] = .ownClaiming q y m)
    (loses : beats cl.priority n y (s.own.getD 0) = false) : claimCopied n cl s = (s, true) := by
  rw [claimCopied, if_neg (by rw [view, good]; nofun), e]
  dsimp only
  rw [if_neg (by rw [loses]; nofun)]

theorem claimCopied_preempts {q : Port} {y : Nat} (e : s.call.circuits[cl.circuit] = .ownHeld q y) (wins : y < cl.priority) :
    TakesEntry n cl s (claimCopied n cl s) := by
  rw [claimCopied, if_neg (by rw [view, good]; nofun), e]
  dsimp only
  rw [if_pos wins]
  exact ⟨rfl, (setRemote_set cl.circuit n cl.port cl.priority s).lost low phones q .preempted⟩

omit low phones in
theorem claimCopied_held {q : Port} {y : Nat} (e : s.call.circuits[cl.circuit] = .ownHeld q y) (loses : cl.priority ≤ y) :
    claimCopied n cl s = (s, true) := by
  rw [claimCopied, if_neg (by rw [view, good]; nofun), e]
  exact if_neg (Nat.not_lt.mpr loses)

omit phones in
theorem claimCopied_free (e : s.call.circuits[cl.circuit] = .free) : TakesEntry n cl s (claimCopied n cl s) := by
  rw [claimCopied, if_neg (by rw [view, good]; nofun), e]
  exact ⟨rfl, (setRemote_set cl.circuit n cl.port cl.priority s).tested low⟩

omit low phones in
theorem claimCopied_remote {st : Nat} {q : Port} {y : Nat} {a : Time} {o : BitVec 16}
    (e : s.call.circuits[cl.circuit] = .remote st q y a o) (wins : st = n ∨ beats cl.priority n y st = true) :
    claimCopied n cl s = (testClaim (setRemote cl.circuit n cl.port cl.priority s), false) := by
  rw [claimCopied, if_neg (by rw [view, good]; nofun), e]
  exact if_pos wins

omit low phones in
theorem claimCopied_other {st : Nat} {q : Port} {y : Nat} {a : Time} {o : BitVec 16}
    (e : s.call.circuits[cl.circuit] = .remote st q y a o) (other : st ≠ n) (loses : beats cl.priority n y st = false) :
    claimCopied n cl s = (s, false) := by
  rw [claimCopied, if_neg (by rw [view, good]; nofun), e]
  exact if_neg fun h => h.elim other fun wins => by rw [loses] at wins; cases wins

end

theorem claimCopied_beaten {cl : Claim} (h : cl.beaten = true) : claimCopied n cl s = (s, false) := by
  rw [claimCopied, if_pos (by rw [h, Bool.or_true])]

/-- R64: the payload of a CLAIM as it goes on. -/
def judgedPayload (c : Cell) (beaten : Bool) : List Byte := if beaten then markBeaten c.payload else c.payload

theorem handClaim_eq (c : Cell) (s : State) : handClaim c s =
    (settle (claimCopied c.source.toNat (readClaim c.payload) s).1,
      { c with payload := judgedPayload c (claimCopied c.source.toNat (readClaim c.payload) s).2 }) := by
  rw [handClaim]
  generalize claimCopied c.source.toNat (readClaim c.payload) s = r
  obtain ⟨v, b⟩ := r
  cases b <;> rfl

theorem handCell_claim {c : Cell} (claim : c.kind = kClaim) (all : c.dest = 255) :
    handCell false false c s = handClaim c s := by
  rw [handCell, show addressingOf c.dest = .all from if_pos all, if_pos (show handedOn c.kind .all s = true from rfl),
    if_pos claim]
  rfl

theorem Copied.passes {l : Line} {x : Cell} (h : Copied l x s) : exec (.cellArrives l x) s =
    .next (forward l (handCell false false x (validWord l s)).2 (toCentre false x (handCell false false x (validWord l s)).1)) := by
  obtain ⟨passes, all, other, line⟩ := h
  exact passes.copied other (by rw [all]; decide) (copyingLine_eq line)

/-- R18, R64: a copied CLAIM, judged by the call unit, passes on. -/
theorem Copied.claim {l : Line} {x : Cell} (h : Copied l x s) (claim : x.kind = kClaim)
    (room : ((s.tx.get (forwardLine s.fold l)).transit.c).length < 32) :
    ∃ t, exec (.cellArrives l x) s = .next t ∧ (t.tx.get (forwardLine s.fold l)).transit.c =
        (s.tx.get (forwardLine s.fold l)).transit.c ++ [forwarded { x with
          payload := judgedPayload x (claimCopied x.source.toNat (readClaim x.payload) (validWord l s)).2 }] ∧
      t.call.circuits = (claimCopied x.source.toNat (readClaim x.payload) (validWord l s)).1.call.circuits := by
  have exec := h.passes
  obtain ⟨passes, all, other, line⟩ := h
  have group : addressingOf x.dest ≠ .unicast := by rw [all]; nofun
  have kept := handCopied_ringKept (s := validWord l s) (c := x) other group
  rw [handCell_claim claim all, handClaim_eq] at exec kept
  generalize claimCopied x.source.toNat (readClaim x.payload) (validWord l s) = r at exec kept ⊢
  have call : (toCentre false x (settle r.1)).call.circuits = r.1.call.circuits :=
    (congrArg CallUnit.circuits ((toCentre_keeps false x (settle r.1)).same .call (by decide))).trans
      (settle_indicated r.1).fields.2.1
  dsimp only at exec kept
  generalize toCentre false x (settle r.1) = v at exec kept call
  have fold : v.fold = s.fold := kept.fold.trans (validWord_fold l s)
  have signal : classOf x.kind = .c := by rw [claim]; rfl
  have transit : (v.tx.get (forwardLine s.fold l)).transit = (s.tx.get (forwardLine s.fold l)).transit := kept.transit _
  rw [forward_joins (k := forwardLine s.fold l) (by rw [fold]) (by rw [transit, signal]; exact room)] at exec
  refine ⟨_, exec, ?_, call⟩
  rw [State.setTx_tx, Both.get_set_same, transit]
  dsimp only
  rw [signal]
  rfl

/-- Settles O22, by the entry of the claim's circuit. -/
theorem passingClaimsAreJudged : Obligations.PassingClaimsAreJudged := by
  intro l c s cl k n h claim body circuit source phase low phones room
  subst body circuit source
  obtain ⟨t, exec, transit, circuits⟩ := h.claim claim room
  have view : viewKept (validWord l s) = true := callsTaken_of phase.symm
  refine ⟨t, _, exec, transit, fun beaten => ?_, fun good => ⟨fun p x m e wins => ?_, fun p x m e loses => ?_, fun p x e wins => ?_,
    fun p x e loses => ?_, fun e => ?_, fun st p x a o e => ?_⟩⟩ <;> rw [circuits]
  · rw [claimCopied_beaten beaten]
    exact ⟨rfl, rfl⟩
  · have beats : beats (readClaim c.payload).priority c.source.toNat x (s.own.getD 0) = true :=
      decide_eq_true (wins.imp id fun ⟨same, _, lt⟩ => ⟨same.symm, lt⟩)
    obtain ⟨unmarked, entry⟩ := claimCopied_stronger (s := validWord l s) view good low e beats
    exact ⟨by rw [unmarked]; rfl, entry⟩
  · have beats : beats (readClaim c.payload).priority c.source.toNat x (s.own.getD 0) = false :=
      decide_eq_false (by omega)
    rw [claimCopied_weaker (s := validWord l s) view good e beats]
    exact ⟨rfl, rfl⟩
  · obtain ⟨unmarked, entry⟩ := claimCopied_preempts (n := c.source.toNat) (s := validWord l s) view good low phones e wins
    exact ⟨by rw [unmarked]; rfl, entry⟩
  · rw [claimCopied_held (s := validWord l s) view good e loses]
    exact ⟨rfl, rfl⟩
  · obtain ⟨unmarked, entry⟩ := claimCopied_free (n := c.source.toNat) (s := validWord l s) view good low e
    exact ⟨by rw [unmarked]; rfl, entry⟩
  · by_cases wins : st = c.source.toNat ∨ beats (readClaim c.payload).priority c.source.toNat x st = true
    · have set := setRemote_set (readClaim c.payload).circuit c.source.toNat (readClaim c.payload).port
        (readClaim c.payload).priority (validWord l s)
      rw [claimCopied_remote (s := validWord l s) view good e wins]
      refine ⟨rfl, fun own => ?_, fun _ _ => set.tested low, fun other loses => absurd wins ?_⟩
      · subst own
        refine (testClaim_tested _).remote_stays (x := (readClaim c.payload).priority) (by rw [set.call]; exact low) ?_
        rw [set.same _ _ _ _ e]
        exact vector_get_set ..
      · rw [beats, decide_eq_true_iff]
        omega
    · have loses : beats (readClaim c.payload).priority c.source.toNat x st = false :=
        Bool.eq_false_iff.mpr fun b => wins (.inr b)
      rw [claimCopied_other (s := validWord l s) view good e (fun own => wins (.inl own)) loses]
      refine ⟨rfl, fun own => absurd (.inl own) wins, fun other stronger => absurd (.inr (decide_eq_true ?_)) wins, fun _ _ => rfl⟩
      omega

/-! ### Claims that come home (R67 to R69) -/

theorem claimsFor_own {e : Circuit} {a : Attempt} {q : Port} (h : e = .ownClaiming q x a.number) : claimsFor e a = true := by
  rw [h]
  exact decide_eq_true rfl

theorem claimsFor_other {e : Circuit} {a : Attempt} (h : ∀ q x, e ≠ .ownClaiming q x a.number) : claimsFor e a = false := by
  cases e with
  | ownClaiming q x m => exact decide_eq_false fun same => h q x (by rw [same])
  | _ => rfl

/-- R17, R67: an own CLAIM that comes home. -/
theorem Passes.claim_home {l : Line} {x : Cell} (h : Passes l x s) (claim : x.kind = 2) (all : x.dest = 255)
    (own : s.own = some x.source.toNat) (here : l = copyingLine s.fold) :
    exec (.cellArrives l x) s = .next (settle (claimReturned (readClaim x.payload) (validWord l s))) := by
  have other : x.dest ≠ x.source := fun e => by
    have := own_le s own
    rw [← e, all] at this
    exact absurd this (by decide)
  rw [h.strips own other (by rw [claim]; decide) here, strip, if_neg (by rw [all]; nofun), if_pos (show x.kind = kClaim from claim)]

/-- R67: a return that matches no attempt in flight is ignored. -/
theorem claimReturned_unmatched {cl : Claim} (h : ∀ a, s.call.attempt = some a → s.phase ≠ .active ∨ cl.number ≠ a.number) :
    claimReturned cl s = s := by
  unfold claimReturned
  split
  · rfl
  · next a attempt => exact if_neg fun ⟨active, number⟩ => (h a attempt).elim (· active) (· number)

/-- R68: the call record of a port whose attempt succeeds. -/
def phoneWon (now : Time) (ph : Phone) : Phone :=
  let ph := { ph with failed := 0, avoided := none, reason := .none }
  if ph.ringFlag then { ph with state := .ringing, ringing := some (now + 60000000000) } else connectPhone now ph

theorem phoneWon_ring {now : Time} {ph : Phone} (h : ph.ringFlag = true) : phoneWon now ph = { ph with
    failed := 0, avoided := none, reason := .none, state := .ringing, ringing := some (now + 60000000000) } := if_pos h

theorem phoneWon_caller {now : Time} {ph : Phone} (h : ph.ringFlag = false) :
    phoneWon now ph = connectPhone now { ph with failed := 0, avoided := none, reason := .none } :=
  if_neg (by dsimp only; rw [h]; nofun)

/-- R68: the call unit behind a won claim. -/
def callWon (a : Attempt) (c : Fin 16) (s : State) : CallUnit :=
  { s.call with
    attempt := none, circuits := s.call.circuits.set c (.ownHeld a.port a.priority)
    requests := s.call.requests.filter (fun r => decide (r.port ≠ a.port))
    phones := s.call.phones.set a.port (phoneWon s.clock.now s.call.phones[a.port]) }

theorem claimWon_eq {a : Attempt} (on : a.hangUp = false) (only : ∀ r ∈ s.call.requests, r.port = a.port) :
    (claimWon a c s).call = callWon a c s ∧ (callWon a c s).requests = [] ∧ (claimWon a c s).tx = s.tx := by
  have empty : (callWon a c s).requests = [] := List.filter_eq_nil_iff.mpr fun r mem => by simp [only r mem]
  have call := setCircuit_call c (.ownHeld a.port a.priority) (s.setCall { s.call with attempt := none })
  have kept := setCircuit_keeps c (.ownHeld a.port a.priority) (s.setCall { s.call with attempt := none })
  have now : (setCircuit c (.ownHeld a.port a.priority) (s.setCall { s.call with attempt := none })).now = s.clock.now :=
    congrArg Clock.now (kept.same .clock (by decide))
  have tx : (setCircuit c (.ownHeld a.port a.priority) (s.setCall { s.call with attempt := none })).tx = s.tx :=
    kept.same .tx (by decide)
  rw [claimWon]
  dsimp only
  rw [on, if_neg nofun]
  generalize setCircuit c (.ownHeld a.port a.priority) (s.setCall { s.call with attempt := none }) = v at call now tx
  have won : (modPhone a.port (fun ph =>
      let ph := { ph with failed := 0, avoided := none, reason := .none }
      if ph.ringFlag then { ph with state := .ringing, ringing := some ((leaveRequest a.port v).now + Config.ringingTime) }
      else connectPhone (leaveRequest a.port v).now ph) (leaveRequest a.port v)).call = callWon a c s := by
    rw [modPhone, leaveRequest, State.setCall_now, now, State.setCall_call, State.setCall_call, call]
    rfl
  rw [testClaim_none (claimHead_of_requests (by rw [won, empty]))]
  exact ⟨won, empty, tx⟩

theorem claimReturned_won {cl : Claim} {a : Attempt} (active : s.phase = .active) (attempt : s.call.attempt = some a)
    (number : cl.number = a.number) (unbeaten : cl.beaten = false) (entry : claimsFor s.call.circuits[cl.circuit] a = true)
    (heard : (s.heardOf a.target).present = true) : claimReturned cl s = claimWon a cl.circuit s := by
  rw [claimReturned, attempt]
  dsimp only
  rw [if_pos ⟨active, number⟩, unbeaten, if_neg nofun, if_pos entry, if_pos heard]

theorem claimReturned_lost {cl : Claim} {a : Attempt} (active : s.phase = .active) (attempt : s.call.attempt = some a)
    (number : cl.number = a.number) (lost : cl.beaten = true ∨ claimsFor s.call.circuits[cl.circuit] a = false) :
    claimReturned cl s = failAttempt a (if cl.beaten then some cl.circuit else none) s := by
  rw [claimReturned, attempt]
  dsimp only
  rw [if_pos ⟨active, number⟩]
  cases beaten : cl.beaten with
  | true => rfl
  | false =>
    rcases lost with b | entry
    · rw [beaten] at b; cases b
    · rw [if_neg nofun, entry]; rfl

/-- Settles O23: a return is ignored, wins its circuit or fails its attempt. -/
theorem unbeatenClaimsWinTheirCircuit : Obligations.UnbeatenClaimsWinTheirCircuit := by
  refine ⟨fun l c s h claim all own here unmatched => ?_, fun l c s a p cl h claim all own here active attempt port on body number =>
    ⟨fun x unbeaten same entry heard only => ?_, fun lost few centre => ?_⟩⟩
  · have exec := h.claim_home claim all own here
    rw [claimReturned_unmatched (s := validWord l s) unmatched] at exec
    have settled := settle_indicated (validWord l s)
    exact ⟨_, exec, ((validWord_keeps l s).mono rfl).trans ((settle_keeps _).mono rfl), settled.call, settled.phones⟩
  · subst port body
    have exec := h.claim_home claim all own here
    rw [claimReturned_won (s := validWord l s) active attempt number unbeaten (by simp only [same]; exact claimsFor_own entry) heard,
      same] at exec
    obtain ⟨call, empty, tx⟩ := claimWon_eq (c := a.circuit) (s := validWord l s) on only
    have settled := settle_indicated (claimWon a a.circuit (validWord l s))
    have kept : (settle (claimWon a a.circuit (validWord l s))).tx = (claimWon a a.circuit (validWord l s)).tx :=
      (settle_keeps _).same .tx (by decide)
    generalize settle (claimWon a a.circuit (validWord l s)) = t at exec settled kept
    obtain ⟨requests, circuits, attempt', _⟩ := settled.fields
    obtain ⟨y, phone⟩ := settled.phones a.port
    rw [call] at requests circuits attempt' phone
    rw [show (callWon a a.circuit (validWord l s)).phones[a.port] = phoneWon s.clock.now s.call.phones[a.port] from
      vector_get_set ..] at phone
    refine ⟨t, exec, by rw [kept, tx]; rfl, circuits, attempt', requests.trans empty, ?_⟩
    rw [phone]
    cases ring : s.call.phones[a.port].ringFlag with
    | true => rw [phoneWon_ring ring]; exact ⟨rfl, rfl, rfl, rfl, rfl, fun _ => ⟨rfl, rfl⟩, nofun⟩
    | false => rw [phoneWon_caller ring]; exact ⟨rfl, rfl, rfl, rfl, rfl, nofun, fun _ => ⟨rfl, rfl, rfl, rfl, rfl⟩⟩
  · subst port body
    have exec := h.claim_home claim all own here
    have entry : (readClaim c.payload).beaten = true ∨
        claimsFor (validWord l s).call.circuits[(readClaim c.payload).circuit] a = false := lost.imp id claimsFor_other
    rw [claimReturned_lost (s := validWord l s) active attempt number entry] at exec
    obtain ⟨v, failed, kept, call⟩ := failAttempt_eq a
      (if (readClaim c.payload).beaten then some (readClaim c.payload).circuit else none) (validWord l s) on
    have idle : claimHead v = none := claimHead_of_centre ((kept.selectedCentre_eq (by decide)).trans centre)
    rw [failed, testClaim_none idle] at exec
    have settled := settle_indicated v
    have settledTx : (settle v).tx = v.tx := (settle_keeps v).same .tx (by decide)
    have tx : v.tx = (validWord l s).tx := kept.same .tx (by decide)
    generalize settle v = t at exec settled settledTx
    obtain ⟨requests, circuits, attempt', _⟩ := settled.fields
    obtain ⟨y, phone⟩ := settled.phones a.port
    have earlier := phoneFailed_earlier (now := (validWord l s).clock.now)
      (beaten := if (readClaim c.payload).beaten then some (readClaim c.payload).circuit else none) few
    rw [call] at requests circuits attempt' phone
    rw [vector_get_set, show (validWord l s).call = s.call from rfl, earlier] at phone
    refine ⟨t, exec, settledTx.trans tx, attempt', by rw [phone], by rw [phone], by rw [phone], requests, ?_, fun q x claiming => ?_,
      fun k away => ?_⟩
    · rw [phone]
      cases (readClaim c.payload).beaten <;> rfl
    · rw [circuits]
      exact circuitsFailed_own (s := validWord l s) claiming
    · rw [circuits]
      exact circuitsFailed_other (s := validWord l s) away

end Sys2Proof.Machine
end

section
/-! PROOFS. HOLD and RELEASE (R71 to R74). -/

namespace Sys2Proof.Machine

variable {p : Port} {s t u : State} {k c : Fin 16} {n x : Nat}

/-! ### HOLD periods and entries that age (R71, R73) -/

theorem mem_heldCircuits {v : Vector Circuit 16} : (c, x, p) ∈ heldCircuits v ↔ v[c] = .ownHeld p x := by
  simp only [heldCircuits, List.mem_filterMap, List.mem_finRange, true_and]
  constructor
  · rintro ⟨k, e⟩
    split at e
    · next q y held => cases e; exact held
    · cases e
  · intro e
    exact ⟨c, by rw [e]⟩

theorem heldCircuits_ascending (v : Vector Circuit 16) : (heldCircuits v).Pairwise (fun a b => a.1 < b.1) := by
  refine List.Pairwise.filterMap _ (fun a b lt x ex y ey => ?_) (List.pairwise_lt_finRange 16)
  have own {c : Fin 16} {z : Fin 16 × Nat × Port} (e : z ∈ (match v[c] with
      | .ownHeld p prio => some (c, prio, p)
      | _ => none)) : z.1 = c := by
    split at e <;> cases e
    rfl
  rw [own ex, own ey]
  exact lt

/-- R71: the circuits held, in ascending order. -/
theorem heldCircuits_eq {v : Vector Circuit 16} {held : List (Fin 16 × Nat × Port)}
    (ascending : held.Pairwise (fun a b => a.1 < b.1)) (all : ∀ c x p, (c, x, p) ∈ held ↔ v[c] = .ownHeld p x) :
    heldCircuits v = held := by
  have nodup {l : List (Fin 16 × Nat × Port)} (h : l.Pairwise (fun a b => a.1 < b.1)) : l.Nodup :=
    h.imp fun lt e => by rw [e] at lt; exact Nat.lt_irrefl _ lt
  refine ((List.perm_ext_iff_of_nodup (nodup (heldCircuits_ascending v)) (nodup ascending)).mpr fun ⟨c, x, p⟩ => ?_).eq_of_pairwise
    (fun a b _ _ ab ba => absurd (Nat.lt_trans ab ba) (Nat.lt_irrefl _)) (heldCircuits_ascending v) ascending
  rw [mem_heldCircuits, all]

/-- R71: the state in which the HOLD of a period is offered. -/
def heldLater (d : Time) (s : State) : State := (atMoment d s).setCall { s.call with holdAt := some (d + 1000000000) }

theorem holdPeriod_eq {d : Time} (active : s.phase = .active) (timer : s.call.holdAt = some d) : exec .holdPeriod s =
    .next (if (heldCircuits s.call.circuits).isEmpty then heldLater d s
      else offerCounted kHold allStations (holdBytes (heldCircuits s.call.circuits)) (heldLater d s)) := by
  refine congrArg Host.Outcome.next ?_
  rw [holdPeriodEnds, timer]
  exact if_pos active

/-- R73: an entry whose age reaches 3.5 s becomes FREE. -/
theorem remoteEntryExpires_eq {a : Time} {o : BitVec 16} (e : s.call.circuits[c] = .remote n p x a o) :
    exec (.remoteEntryExpires c) s =
      .next (settle (testClaim (setCircuit c .free (reach (a + 3500000000) s)))) := by
  refine congrArg (fun t => Host.Outcome.next (settle t)) ?_
  rw [remoteExpired, e]
  rfl

/-! ### Entries of the circuit view, their order apart -/

/-- An entry as it was, but for its place in the order of entry. -/
def SameEntry (e e' : Circuit) : Prop := ∃ f, e' = e.renumber f

theorem SameEntry.refl (e : Circuit) : SameEntry e e := ⟨id, (renumber_id e).symm⟩

theorem SameEntry.trans {e e' e'' : Circuit} (h : SameEntry e e') (k : SameEntry e' e'') : SameEntry e e'' := by
  obtain ⟨f, rfl⟩ := h
  obtain ⟨g, rfl⟩ := k
  exact ⟨g ∘ f, by cases e <;> rfl⟩

theorem SameEntry.remote {st : Nat} {q : Port} {y : Nat} {a : Time} {o : BitVec 16} {e' : Circuit}
    (h : SameEntry (.remote st q y a o) e') : ∃ o, e' = .remote st q y a o := by
  obtain ⟨f, rfl⟩ := h
  exact ⟨_, rfl⟩

theorem SameEntry.eq {e e' : Circuit} (h : SameEntry e e') (other : ∀ st q y a o, e ≠ .remote st q y a o) : e' = e := by
  obtain ⟨f, rfl⟩ := h
  cases e with
  | remote st q y a o => exact absurd rfl (other st q y a o)
  | _ => rfl

/-! ### Circuits that a HOLD lists (R72) -/

/-- R79: the call record of a port whose call is lost. -/
def lostPhone (reason : CallReason) (ph : Phone) : Phone :=
  if ph.ringFlag then { quietPhone ph with state := .idle, reason := reason }
  else { quietPhone ph with state := .waiting, failed := 0, reason := reason }

theorem lostPhone_ringFlag (reason : CallReason) (ph : Phone) : (lostPhone reason ph).ringFlag = ph.ringFlag := by
  unfold lostPhone
  split <;> rfl

theorem loseCall_phone (q : Port) (reason : CallReason) (s : State) :
    (loseCall q reason s).call.phones[q] = lostPhone reason s.call.phones[q] := by
  unfold loseCall lostPhone
  split <;> exact vector_get_set ..

theorem loseCall_other {q j : Port} (reason : CallReason) (s : State) (h : j ≠ q) :
    (loseCall q reason s).call.phones[j] = s.call.phones[j] := by
  unfold loseCall
  split <;> exact vector_get_set_ne _ _ _ _ h

theorem loseCall_requests_kept {q : Port} {reason : CallReason} {r : Request} (h : r ∈ s.call.requests) :
    r ∈ (loseCall q reason s).call.requests := by
  unfold loseCall
  split
  · exact h
  · exact (mem_insertRequest _ _ _).mpr (.inr h)

theorem loseCall_joins {q : Port} {reason : CallReason} (caller : s.call.phones[q].ringFlag = false) :
    ∃ r ∈ (loseCall q reason s).call.requests, r.port = q := by
  rw [loseCall, if_neg (by rw [caller]; nofun)]
  exact ⟨_, (mem_insertRequest _ _ _).mpr (.inl rfl), rfl⟩

/-- R72, R79: the call record of a call that lost its circuit to a HOLD. -/
structure LostPhone (ph : Phone) : Prop where
  reason : ph.reason = .reconnecting
  playout : ph.playout = []
  ringing : ph.ringing = none
  called : ph.ringFlag = true → ph.state = .idle
  caller : ph.ringFlag = false → ph.state = .waiting ∧ ph.failed = 0

theorem lostPhone_lost (ph : Phone) : LostPhone (lostPhone .reconnecting ph) := by
  unfold lostPhone
  split
  · next ring => exact ⟨rfl, rfl, rfl, fun _ => rfl, fun other => absurd (ring.symm.trans other) (by decide)⟩
  · next ring => exact ⟨rfl, rfl, rfl, fun other => absurd other ring, fun _ => ⟨rfl, rfl⟩⟩

/-- R72, R79: a call that lost its circuit to a HOLD: a caller's is a request again. -/
structure LostCall (q : Port) (t : State) : Prop where
  phone : LostPhone t.call.phones[q]
  request : t.call.phones[q].ringFlag = false → ∃ r ∈ t.call.requests, r.port = q

theorem loseCall_lost (q : Port) (s : State) : LostCall q (loseCall q .reconnecting s) := by
  refine ⟨by rw [loseCall_phone]; exact lostPhone_lost .., fun caller => loseCall_joins ?_⟩
  rwa [loseCall_phone, lostPhone_ringFlag] at caller

theorem LostCall.loseCall {q : Port} (h : LostCall q s) (j : Port) : LostCall q (loseCall j .reconnecting s) := by
  by_cases own : q = j
  · subst own
    exact loseCall_lost q s
  · refine ⟨by rw [loseCall_other _ _ own]; exact h.phone, fun caller => ?_⟩
    rw [loseCall_other _ _ own] at caller
    obtain ⟨r, mem, port⟩ := h.request caller
    exact ⟨r, loseCall_requests_kept mem, port⟩

theorem LostCall.of_call {q : Port} (h : LostCall q s) (phones : t.call.phones = s.call.phones)
    (requests : t.call.requests = s.call.requests) : LostCall q t :=
  ⟨by rw [phones]; exact h.phone, by rw [phones, requests]; exact h.request⟩

/-- R72: what the entry of a circuit becomes that a HOLD of station `n` lists, with priority `x` and holder port `p`. -/
def ListedEntry (n mine : Nat) (now : Time) (x : Nat) (p : Port) (e e' : Circuit) : Prop :=
  match e with
  | .free => ∃ o, e' = .remote n p x now o
  | .remote st q y a _ => if st = n then ∃ o, e' = .remote n p x now o else ∃ o, e' = .remote st q y a o
  | .ownClaiming _ _ _ => e' = e
  | .ownHeld _ y => if beats x n y mine then ∃ o, e' = .remote n p x now o else e' = e

theorem ListedEntry.before {mine : Nat} {now : Time} {e e' e'' : Circuit} (same : SameEntry e e')
    (h : ListedEntry n mine now x p e' e'') : ListedEntry n mine now x p e e'' := by
  obtain ⟨f, rfl⟩ := same
  cases e <;> exact h

theorem ListedEntry.after {mine : Nat} {now : Time} {e e' e'' : Circuit} (h : ListedEntry n mine now x p e e')
    (same : SameEntry e' e'') : ListedEntry n mine now x p e e'' := by
  have named {st : Nat} {q : Port} {y : Nat} {a : Time} (h : ∃ o, e' = .remote st q y a o) : ∃ o, e'' = .remote st q y a o := by
    obtain ⟨o, rfl⟩ := h
    exact same.remote
  cases e with
  | free => exact named h
  | remote st q y a o =>
    unfold ListedEntry at h ⊢
    dsimp only at h ⊢
    split at h
    · next own => rw [if_pos own]; exact named h
    · next other => rw [if_neg other]; exact named h
  | ownClaiming q y m =>
    cases h
    exact same.eq nofun
  | ownHeld q y =>
    unfold ListedEntry at h ⊢
    dsimp only at h ⊢
    split at h
    · next lost => rw [if_pos lost]; exact named h
    · next held =>
      rw [if_neg held]
      cases h
      exact same.eq nofun

/-- R72: a call whose circuit a HOLD takes. -/
def LosesHold (n mine x : Nat) (e : Circuit) (q : Port) : Prop := ∃ y, e = .ownHeld q y ∧ beats x n y mine = true

/-- R72: what a HOLD of station `n` makes of the circuit view and the calls; `held` are the circuits it lists. -/
structure HoldHeard (n : Nat) (held : List (Fin 16 × Nat × Port)) (s t : State) : Prop where
  keeps : SameBut [.call, .signs, .responses, .ports, .portCounts] s t
  unlisted : ∀ k, (∀ h ∈ held, h.1 ≠ k) → SameEntry s.call.circuits[k] t.call.circuits[k]
  listed : ∀ k x p, (k, x, p) ∈ held →
    ListedEntry n (s.own.getD 0) s.clock.now x p s.call.circuits[k] t.call.circuits[k]
  lost : ∀ k x p q, (k, x, p) ∈ held → LosesHold n (s.own.getD 0) x s.call.circuits[k] q → LostCall q t
  stays : ∀ q, LostCall q s → LostCall q t
  ring : ∀ q : Port, t.call.phones[q].ringFlag = s.call.phones[q].ringFlag

theorem HoldHeard.refl (n : Nat) (s : State) : HoldHeard n [] s s :=
  ⟨.refl _ _, fun _ _ => .refl _, nofun, nofun, fun _ => id, fun _ => rfl⟩

/-- R72: an entry that a HOLD leaves as it is. -/
theorem HoldHeard.unchanged (h : Fin 16 × Nat × Port)
    (entry : ListedEntry n (s.own.getD 0) s.clock.now h.2.1 h.2.2 s.call.circuits[h.1] s.call.circuits[h.1])
    (holds : ∀ q, ¬LosesHold n (s.own.getD 0) h.2.1 s.call.circuits[h.1] q) : HoldHeard n [h] s s := by
  refine ⟨.refl _ _, fun _ _ => .refl _, fun k x p mem => ?_, fun k x p q mem lost => ?_, fun _ => id, fun _ => rfl⟩ <;>
    cases List.mem_singleton.mp mem
  · exact entry
  · exact absurd lost (holds q)

/-- R72: an entry that becomes REMOTE, the station's own call, if it held the circuit, apart. -/
theorem RemoteSet.heard {h : Fin 16 × Nat × Port} (set : RemoteSet h.1 n h.2.2 h.2.1 s t)
    (entry : ∀ e' : Circuit, (∃ o, e' = .remote n h.2.2 h.2.1 s.clock.now o) →
      ListedEntry n (s.own.getD 0) s.clock.now h.2.1 h.2.2 s.call.circuits[h.1] e')
    (holds : ∀ q, ¬LosesHold n (s.own.getD 0) h.2.1 s.call.circuits[h.1] q) : HoldHeard n [h] s t := by
  have phones : t.call.phones = s.call.phones := by rw [set.call]
  have requests : t.call.requests = s.call.requests := by rw [set.call]
  refine ⟨set.keeps, fun k away => set.others k (Ne.symm (away h (List.mem_singleton.mpr rfl))), fun k x p mem => ?_,
    fun k x p q mem lost => ?_, fun q lost => lost.of_call phones requests, fun q => by rw [phones]⟩
  · cases List.mem_singleton.mp mem
    exact entry _ set.entry
  · cases List.mem_singleton.mp mem
    exact absurd lost (holds q)

/-- R72, R79: a circuit that this station loses. -/
theorem RemoteSet.heard_lost {h : Fin 16 × Nat × Port} {q : Port} {y : Nat} (set : RemoteSet h.1 n h.2.2 h.2.1 s t)
    (own : s.call.circuits[h.1] = .ownHeld q y) (loses : beats h.2.1 n y (s.own.getD 0) = true) :
    HoldHeard n [h] s (loseCall q .reconnecting t) := by
  have phones : t.call.phones = s.call.phones := by rw [set.call]
  have requests : t.call.requests = s.call.requests := by rw [set.call]
  refine ⟨set.keeps.trans ((loseCall_keeps ..).mono rfl), fun k away => ?_, fun k x p mem => ?_, fun k x p j mem lost => ?_,
    fun j lost => (lost.of_call phones requests).loseCall q, fun j => ?_⟩
  · rw [loseCall_circuits]
    exact set.others k (Ne.symm (away h (List.mem_singleton.mpr rfl)))
  · cases List.mem_singleton.mp mem
    rw [loseCall_circuits, own, ListedEntry]
    dsimp only at loses ⊢
    rw [if_pos loses]
    exact set.entry
  · cases List.mem_singleton.mp mem
    obtain ⟨z, e, _⟩ := lost
    obtain ⟨rfl, _⟩ := Circuit.ownHeld.inj (own.symm.trans e)
    exact loseCall_lost ..
  · by_cases j = q
    · next e => subst e; rw [loseCall_phone, lostPhone_ringFlag, phones]
    · next e => rw [loseCall_other _ _ e, phones]

theorem holdListed_heard (n : Nat) (s : State) (h : Fin 16 × Nat × Port) : HoldHeard n [h] s (holdListed n s h) := by
  have set := setRemote_set h.1 n h.2.2 h.2.1 s
  unfold holdListed
  split
  · next e => exact set.heard (fun e' named => by rw [e]; exact named) fun q ⟨y, own, _⟩ => by rw [e] at own; cases own
  · next st q y a o e =>
    have holds (j : Port) : ¬LosesHold n (s.own.getD 0) h.2.1 s.call.circuits[h.1] j :=
      fun ⟨z, own, _⟩ => by rw [e] at own; cases own
    split
    · next own => exact set.heard (fun e' named => by rw [e, ListedEntry, if_pos own]; exact named) holds
    · next other => exact .unchanged h (by rw [e, ListedEntry, if_neg other]; exact ⟨_, rfl⟩) holds
  · next q y m e =>
    exact .unchanged h (by rw [e]; exact rfl) fun j ⟨z, own, _⟩ => by rw [e] at own; cases own
  · next q y e =>
    split
    · next loses => exact set.heard_lost e loses
    · next holds =>
      refine .unchanged h (by rw [e, ListedEntry, if_neg holds]) fun j ⟨z, own, lost⟩ => ?_
      obtain ⟨_, rfl⟩ := Circuit.ownHeld.inj (e.symm.trans own)
      exact holds lost

theorem HoldHeard.own_eq {held : List (Fin 16 × Nat × Port)} (h : HoldHeard n held s t) : t.own = s.own :=
  SameBut.own_eq h.keeps (by decide)

theorem HoldHeard.now_eq {held : List (Fin 16 × Nat × Port)} (h : HoldHeard n held s t) : t.clock.now = s.clock.now :=
  congrArg Clock.now (h.keeps.same .clock (by decide))

theorem HoldHeard.cons {h : Fin 16 × Nat × Port} {held : List (Fin 16 × Nat × Port)} (one : HoldHeard n [h] s t)
    (rest : HoldHeard n held t u) (fresh : ∀ g ∈ held, g.1 ≠ h.1) : HoldHeard n (h :: held) s u := by
  have apart {g : Fin 16 × Nat × Port} (mem : g ∈ held) : SameEntry s.call.circuits[g.1] t.call.circuits[g.1] :=
    one.unlisted g.1 fun f hf => by rw [List.mem_singleton.mp hf]; exact (fresh g mem).symm
  refine ⟨one.keeps.trans rest.keeps, fun k away => ?_, fun k x p mem => ?_, fun k x p q mem lost => ?_,
    fun q lost => rest.stays q (one.stays q lost), fun q => (rest.ring q).trans (one.ring q)⟩
  · have first := away h (List.mem_cons_self ..)
    exact (one.unlisted k fun g hg => by rw [List.mem_singleton.mp hg]; exact first).trans
      (rest.unlisted k fun g hg => away g (List.mem_cons_of_mem _ hg))
  · rcases List.mem_cons.mp mem with rfl | mem
    · exact (one.listed k x p (List.mem_singleton.mpr rfl)).after (rest.unlisted k fresh)
    · have heard := rest.listed k x p mem
      rw [one.own_eq, one.now_eq] at heard
      exact heard.before (apart mem)
  · rcases List.mem_cons.mp mem with rfl | mem
    · exact rest.stays q (one.lost k x p q (List.mem_singleton.mpr rfl) lost)
    · obtain ⟨y, own, loses⟩ := lost
      have e := apart mem
      dsimp only at e
      rw [own] at e
      exact rest.lost k x p q mem ⟨y, e.eq nofun, by rw [one.own_eq]; exact loses⟩

theorem foldl_holdListed_heard {held : List (Fin 16 × Nat × Port)} (distinct : (held.map (fun h => h.1)).Nodup) (s : State) :
    HoldHeard n held s (held.foldl (holdListed n) s) := by
  induction held generalizing s with
  | nil => exact .refl n s
  | cons h held ih =>
    rw [List.map_cons, List.nodup_cons] at distinct
    exact (holdListed_heard n s h).cons (ih distinct.2 _) fun g mem same => distinct.1 (same ▸ List.mem_map_of_mem mem)

/-! ### RELEASE (R74) -/

theorem releaseCopied_frees {a : Time} {o : BitVec 16} (view : viewKept s = true) (e : s.call.circuits[k] = .remote n p x a o) :
    releaseCopied n k p s = testClaim (setCircuit k .free s) := by
  rw [releaseCopied, if_pos view, e]
  exact if_pos ⟨rfl, rfl⟩

theorem releaseCopied_other (h : ∀ x a o, s.call.circuits[k] ≠ .remote n p x a o) : releaseCopied n k p s = s := by
  unfold releaseCopied
  split
  · split
    · next st q y a o e =>
      exact if_neg fun ⟨station, port⟩ => h y a o (by rw [e, station, port])
    · rfl
  · rfl

/-! ### The claim test behind a HOLD or a RELEASE -/

/-- R59: the claim test may have made the entry OWN-CLAIMING. -/
def ClaimedEntry (s t : State) (k : Fin 16) : Prop :=
  s.phase = .active ∧ s.selectedCentre ≠ none ∧ ∃ q x m, t.call.circuits[k] = .ownClaiming q x m

theorem Tested.entry (h : Tested s t) (k : Fin 16) : ClaimedEntry s t k ∨ t.call.circuits[k] = s.call.circuits[k] := by
  rcases h.circuits with ⟨circuits, _⟩ | ⟨c, r, m, claim⟩
  · exact .inr (by rw [circuits])
  · by_cases here : k = c
    · subst here
      exact .inl ⟨claim.active, claim.centre, _, _, _, by rw [claim.circuits]; exact vector_get_set ..⟩
    · exact .inr (by rw [claim.circuits]; exact vector_get_set_ne _ _ _ _ here)

/-- R61: the claim test takes none of the station's own circuits. -/
theorem Tested.own_stays (h : Tested s t) (busy : s.call.circuits[k] ≠ .free)
    (own : ∀ st q y a o, s.call.circuits[k] ≠ .remote st q y a o) : t.call.circuits[k] = s.call.circuits[k] := by
  rcases h.circuits with ⟨circuits, _⟩ | ⟨c, r, m, claim⟩
  · rw [circuits]
  · have away : k ≠ c := by
      rintro rfl
      rcases claim.takes with free | ⟨y, o, st, q, a, e, _⟩
      · exact busy free
      · exact own _ _ _ _ _ e
    rw [claim.circuits]
    exact vector_get_set_ne _ _ _ _ away

theorem claimHead_waiting {r : Request} {centre : Nat} (h : claimHead s = some (r, centre)) :
    s.call.phones[r.port].state = .waiting := by
  unfold claimHead at h
  split at h
  · split at h
    · split at h
      · next ready => cases h; exact ready.1
      · cases h
    · cases h
  · cases h

/-- R59: the claim test touches no port but those that are WAITING. -/
theorem claimTests_unready (i : Nat) (h : s.call.phones[p].state ≠ .waiting) :
    (claimTests i s).call.phones[p] = s.call.phones[p] := by
  induction i generalizing s with
  | zero => rfl
  | succ i ih =>
    cases head : claimHead s with
    | none => rw [claimTests, head]
    | some first =>
      obtain ⟨r, centre⟩ := first
      have other : p ≠ r.port := fun e => h (by rw [e]; exact claimHead_waiting head)
      cases circuit : chooseCircuit s.call.circuits r.priority s.call.phones[r.port].avoided with
      | none => rw [claimTests, head]; dsimp only; rw [circuit]
      | some taken =>
        obtain ⟨c, preempt⟩ := taken
        rw [claimTests, head]
        dsimp only
        rw [circuit]
        dsimp only
        rcases Nat.lt_or_ge (s.insertQueue .c).length 32 with room | full
        · obtain ⟨t, sent, call, _⟩ := sendClaim_room (r := r) (centre := centre) (c := c) (preempt := preempt) room
          rw [sent]
          dsimp only
          rw [call]
          exact vector_get_set_ne _ _ _ _ other
        · rw [sendClaim_full full]
          dsimp only
          have refused : (failPort r.port (s.setCall { s.call with claimCounter := s.call.claimCounter + 1 })).call.phones[p] =
              s.call.phones[p] := vector_get_set_ne _ _ _ _ other
          rw [ih (by rw [refused]; exact h), refused]

theorem LostCall.tested {q : Port} (h : LostCall q s) :
    (testClaim s).call.phones[q].reason = .reconnecting ∧ (testClaim s).call.phones[q].playout = [] ∧
      (testClaim s).call.phones[q].ringing = none ∧
      (s.call.phones[q].ringFlag = true → (testClaim s).call.phones[q].state = .idle) ∧
      (s.call.phones[q].ringFlag = false → (∃ r ∈ (testClaim s).call.requests, r.port = q) ∧
        (s.selectedCentre = none → (testClaim s).call.phones[q].state = .waiting ∧ (testClaim s).call.phones[q].failed = 0)) := by
  have tested := testClaim_tested s
  obtain ⟨phone, request⟩ := h
  obtain ⟨x, record⟩ := tested.phones q
  refine ⟨by rw [record]; exact phone.reason, by rw [record]; exact phone.playout, by rw [record]; exact phone.ringing,
    fun called => ?_, fun caller => ⟨by rw [tested.requests]; exact request caller, fun centre => ?_⟩⟩
  · have idle := phone.called called
    rw [testClaim, claimTests_unready _ (by rw [idle]; nofun), idle]
  · rw [testClaim_none (claimHead_of_centre centre)]
    exact phone.caller caller

/-! ### Copied cells -/

/-- R59: what the claim test and the indications leave of a call unit that a HOLD or a RELEASE has told. -/
structure ToldBehind (s f t : State) : Prop where
  entry : ∀ k : Fin 16, (s.phase = .active ∧ s.selectedCentre ≠ none ∧ ∃ q x m, t.call.circuits[k] = .ownClaiming q x m) ∨
    t.call.circuits[k] = f.call.circuits[k]
  own : ∀ k : Fin 16, f.call.circuits[k] ≠ .free → (∀ st q y a o, f.call.circuits[k] ≠ .remote st q y a o) →
    t.call.circuits[k] = f.call.circuits[k]
  lost : ∀ q, LostCall q f → t.call.phones[q].reason = .reconnecting ∧ t.call.phones[q].playout = [] ∧
    t.call.phones[q].ringing = none ∧ (f.call.phones[q].ringFlag = true → t.call.phones[q].state = .idle) ∧
    (f.call.phones[q].ringFlag = false → (∃ r ∈ t.call.requests, r.port = q) ∧
      (s.selectedCentre = none → t.call.phones[q].state = .waiting ∧ t.call.phones[q].failed = 0))

theorem ToldBehind.of_settled {f : State} (kept : SameBut [.lines, .call, .signs, .responses, .ports, .portCounts] s f)
    (call : t.call = (settle (testClaim f)).call) : ToldBehind s f t := by
  have tested := testClaim_tested f
  have settled := settle_indicated (testClaim f)
  obtain ⟨requests, circuits, _, _⟩ := settled.fields
  have phase : f.phase = s.phase := congrArg Station.phase (kept.same .station (by decide))
  have centre : f.selectedCentre = s.selectedCentre := kept.selectedCentre_eq (by decide)
  refine ⟨fun k => ?_, fun k busy own => ?_, fun q lost => ?_⟩
  · rw [call, circuits, ← phase, ← centre]
    exact tested.entry k
  · rw [call, circuits]
    exact tested.own_stays busy own
  · obtain ⟨x, record⟩ := settled.phones q
    rw [call, requests, record, ← centre]
    exact lost.tested

/-- R72: an entry that names a station, if no claim has taken it. -/
theorem ToldBehind.named {f : State} (h : ToldBehind s f t) {st : Nat} {a : Time}
    (e : ∃ o, f.call.circuits[k] = .remote st p x a o) :
    (s.phase = .active ∧ s.selectedCentre ≠ none ∧ ∃ q x m, t.call.circuits[k] = .ownClaiming q x m) ∨
      ∃ o, t.call.circuits[k] = .remote st p x a o :=
  (h.entry k).imp id fun same => e.imp fun _ eo => same.trans eo

/-- R18, R20: a copied cell, other than a CLAIM, is handed to its unit and passes on. -/
theorem Copied.unit {l : Line} {x : Cell} (h : Copied l x s) (claim : x.kind ≠ kClaim) :
    ∃ t, exec (.cellArrives l x) s = .next t ∧ t.call = (handPlain false false x (validWord l s)).call ∧
      SameBut [.tx, .ring, .ports, .portCounts, .centre] (handPlain false false x (validWord l s)) t := by
  have exec := h.passes
  rw [handCell, show addressingOf x.dest = .all from if_pos h.2.1, if_pos (show handedOn x.kind .all (validWord l s) = true from rfl),
    if_neg claim] at exec
  dsimp only at exec
  have centre := toCentre_keeps false x (handPlain false false x (validWord l s))
  have passed := forward_keeps l x (toCentre false x (handPlain false false x (validWord l s)))
  refine ⟨_, exec, ?_, (centre.mono rfl).trans (passed.mono rfl)⟩
  have first : (toCentre false x (handPlain false false x (validWord l s))).call = _ := centre.same .call (by decide)
  have second : (forward l x (toCentre false x (handPlain false false x (validWord l s)))).call = _ := passed.same .call (by decide)
  exact second.trans first

theorem handPlain_hold {x : Cell} (h : x.kind = kHold) (own : Bool) (s : State) :
    handPlain false own x s = settle (holdCopied x.source.toNat (readHold x.payload) s) := by
  rw [handPlain, if_neg (by rw [h]; decide), if_neg (by rw [h]; decide), if_pos h]
  exact if_neg nofun

theorem handPlain_release {x : Cell} (h : x.kind = kRelease) (own : Bool) (s : State) : handPlain false own x s =
    settle (releaseCopied x.source.toNat (circuitAt x.payload 0) (portAt x.payload 1) s) := by
  rw [handPlain, if_neg (by rw [h]; decide), if_pos h]
  exact if_neg nofun

/-- Settles O28: a HOLD period is one offer, an entry that ages one write; a copied HOLD is a fold over the circuits it
lists, and a copied RELEASE one write, each with a claim test behind it. -/
theorem holdPeriodsAndRemoteEntries : Obligations.HoldPeriodsAndRemoteEntries := by
  refine ⟨fun s d held active timer ascending all => ?_, fun c s st p x a o e alone => ?_, fun l c s h phase => ?_⟩
  · have exec := holdPeriod_eq active timer
    rw [heldCircuits_eq ascending all] at exec
    refine ⟨fun empty => ?_, fun some full => ?_, fun some room => ?_⟩
    · rw [exec, empty]; rfl
    · rw [exec, if_neg (by rw [List.isEmpty_iff]; exact some), offerCounted_full rfl (s := heldLater d s) full]
      rfl
    · rw [if_neg (by rw [List.isEmpty_iff]; exact some), offerCounted_room rfl (s := heldLater d s) room] at exec
      refine ⟨_, exec, ?_, rfl, rfl, ?_⟩
      · exact (State.setClock_keeps.mono rfl).trans ((State.setCall_keeps.mono rfl).trans (State.setTx_keeps.mono rfl))
      · exact withQueued_get ..
  · have exec := remoteEntryExpires_eq e
    have call := setCircuit_call c .free (reach (a + 3500000000) s)
    have kept := setCircuit_keeps c .free (reach (a + 3500000000) s)
    generalize setCircuit c .free (reach (a + 3500000000) s) = v at exec call kept
    rw [testClaim_none (claimHead_of_requests (by rw [call]; exact alone))] at exec
    have settled := settle_indicated v
    have keeps := settle_keeps v
    obtain ⟨requests, circuits, attempt, _⟩ := settled.fields
    rw [call] at requests circuits attempt
    have clock : (settle v).clock = v.clock := keeps.same .clock (by decide)
    have clock' : v.clock = (reach (a + 3500000000) s).clock := kept.same .clock (by decide)
    refine ⟨_, exec, ?_, clock.trans clock', circuits, requests.trans alone, attempt⟩
    exact ((reach_keeps ..).mono rfl).trans ((kept.mono rfl).trans (keeps.mono rfl))
  · have view : viewKept (validWord l s) = true := callsTaken_of phase
    refine ⟨fun held hold body distinct => ?_, fun k p release circuit port => ?_⟩
    · obtain ⟨t, exec, call, passed⟩ := h.unit (by rw [hold]; decide)
      rw [handPlain_hold hold, ← body, holdCopied, if_pos view] at call passed
      have heard := foldl_holdListed_heard (n := c.source.toNat) distinct (validWord l s)
      have single : ∀ g, held = [g] → held.foldl (holdListed c.source.toNat) (validWord l s) =
        holdListed c.source.toNat (validWord l s) g := fun g e => by rw [e]; rfl
      generalize held.foldl (holdListed c.source.toNat) (validWord l s) = f at call passed heard single
      have keeps : SameBut [.lines, .tx, .ring, .call, .signs, .responses, .ports, .portCounts, .centre] s t :=
        ((validWord_keeps l s).mono rfl).trans ((heard.keeps.mono rfl).trans (((testClaim_keeps f).mono rfl).trans
          (((settle_keeps _).mono rfl).trans (passed.mono rfl))))
      have told : ToldBehind s f t := .of_settled (((validWord_keeps l s).mono rfl).trans (heard.keeps.mono rfl)) call
      refine ⟨t, exec, keeps, fun k x p mem => ?_, fun k away => ?_⟩
      · have entry := heard.listed k x p mem
        change ListedEntry c.source.toNat (s.own.getD 0) s.clock.now x p s.call.circuits[k] f.call.circuits[k] at entry
        refine ⟨fun e => ?_, fun st q y a o e => ⟨fun own => ?_, fun other => ?_, fun own alone => ?_⟩, fun q y m e => ?_,
          fun q y e holds => ?_, fun q y e loses => ?_⟩ <;> dsimp only at e
        · rw [e] at entry
          exact told.named entry
        · rw [e, ListedEntry, if_pos own] at entry
          exact told.named entry
        · rw [e, ListedEntry, if_neg other] at entry
          exact told.named entry
        · subst own
          have set := (setRemote_set k c.source.toNat p x (validWord l s)).same q y a o e
          have listed : holdListed c.source.toNat (validWord l s) (k, x, p) = setRemote k c.source.toNat p x (validWord l s) := by
            rw [holdListed, show (validWord l s).call.circuits[k] = _ from e]
            exact if_pos rfl
          rw [← listed, ← single _ alone] at set
          refine (told.entry k).imp id fun same => same.trans ?_
          rw [set]
          exact vector_get_set ..
        · rw [e] at entry
          have same : f.call.circuits[k] = .ownClaiming q y m := entry
          exact (told.own k (by rw [same]; nofun) (by rw [same]; nofun)).trans (same.trans e.symm)
        · have unbeaten : ¬beats x c.source.toNat y (s.own.getD 0) = true := fun b => holds (of_decide_eq_true b)
          rw [e, ListedEntry, if_neg unbeaten] at entry
          exact (told.own k (by rw [entry]; nofun) (by rw [entry]; nofun)).trans (entry.trans e.symm)
        · have beaten : beats x c.source.toNat y (s.own.getD 0) = true := decide_eq_true loses
          rw [e, ListedEntry, if_pos beaten] at entry
          obtain ⟨reason, playout, ringing, called, caller⟩ := told.lost q (heard.lost k x p q mem ⟨y, e, beaten⟩)
          rw [heard.ring q] at called caller
          exact ⟨told.named entry, reason, playout, ringing, called, caller⟩
      · have same := heard.unlisted k away
        refine ⟨fun st q y a o e => told.named (SameEntry.remote (by rw [← e]; exact same)), fun other => ?_⟩
        exact (told.entry k).imp id fun kept => kept.trans (same.eq other)
    · obtain ⟨t, exec, call, passed⟩ := h.unit (by rw [release]; decide)
      rw [handPlain_release release, ← circuit, ← port] at call passed
      have keeps : SameBut [.lines, .tx, .ring, .call, .signs, .responses, .ports, .portCounts, .centre] s t :=
        ((validWord_keeps l s).mono rfl).trans (((releaseCopied_keeps ..).mono rfl).trans
          (((settle_keeps _).mono rfl).trans (passed.mono rfl)))
      refine ⟨t, exec, keeps, fun x a o e => ?_, fun other => ?_⟩
      · rw [releaseCopied_frees (s := validWord l s) view e] at call
        have freed := setCircuit_call k .free (validWord l s)
        have told : ToldBehind s (setCircuit k .free (validWord l s)) t :=
          .of_settled (((validWord_keeps l s).mono rfl).trans ((setCircuit_keeps ..).mono rfl)) call
        refine ⟨(told.entry k).imp id fun same => same.trans ?_, fun j away => (told.entry j).imp id fun same => same.trans ?_⟩ <;>
          rw [freed]
        · exact vector_get_set ..
        · exact vector_get_set_ne _ _ _ _ away
      · rw [releaseCopied_other (s := validWord l s) other] at call
        obtain ⟨_, circuits, attempt, _⟩ := (settle_indicated (validWord l s)).fields
        rw [call]
        exact ⟨circuits, attempt⟩

end Sys2Proof.Machine
end

section
/-! PROOFS. The listening timer, HELLO periods (R42, R46) and the toll channel that follows the toll centre (R89). -/

namespace Sys2Proof.Machine

variable {s t u : State}

/-! ### HELLO -/

theorem sendHello_room (room : (s.insertQueue .c).length < 32) : sendHello s =
    (s.setTx (s.withQueued [originate kHello allStations (helloBytes (helloNow s)) s])).setStation
      { s.station with restartFlag := false } := by
  rw [sendHello, offer_room rfl room]
  rfl

theorem sendHello_full (full : 32 ≤ (s.insertQueue .c).length) : sendHello s = insertDrop s := by
  rw [sendHello, offer_full rfl full]

theorem sendHello_station (s : State) : (sendHello s).station = { s.station with
    restartFlag := if (s.insertQueue .c).length < 32 then false else s.station.restartFlag } := by
  by_cases room : (s.insertQueue .c).length < 32
  · rw [sendHello_room room, if_pos room]
    rfl
  · rw [sendHello_full (Nat.not_lt.mp room), if_neg room]
    rfl

/-! ### The toll channel follows the toll centre -/

theorem offerSync_queued (s : State) : Queued 1 s (offerSync s) := by
  unfold offerSync
  split
  · exact offerCounted_queued rfl
  · exact (Queued.refl s).mono (Nat.zero_le _)

theorem enterSyncing_queued (k : Nat) (s : State) : Queued 1 s (enterSyncing k s) := by
  have before : Queued 0 s (s.setToll { s.toll with
    chan := .syncing, bound := some k, start := startNumber s.toll, journal := allNew s.toll.journal,
    expiries := 0, sendMark := none, syncTimer := some (s.now + Config.syncTime) }) := .of_same rfl rfl rfl
  exact (before.trans (offerSync_queued _)).mono (by omega)

/-- R90: the toll unit that enters SYNCING toward a centre. -/
def syncingToward (k : Nat) (s : State) : TollUnit :=
  { s.toll with
    chan := .syncing, bound := some k, start := startNumber s.toll, journal := allNew s.toll.journal,
    expiries := 0, sendMark := none, syncTimer := some (s.now + Config.syncTime) }

theorem enterSyncing_toll (k : Nat) (s : State) : (enterSyncing k s).toll = syncingToward k s :=
  (offerSync_keeps (s.setToll (syncingToward k s))).same .toll (by decide)

/-- R90: the TOLL-SYNC is queued, where there is room. -/
theorem enterSyncing_offers (k : Nat) (room : (s.insertQueue .c).length < 32) : (enterSyncing k s).tx =
    s.withQueued [originate kTollSync (natByte k) (wordBytes (startNumber s.toll)) s] := by
  have offered : enterSyncing k s = offerCounted kTollSync (natByte k) (wordBytes (startNumber s.toll))
    (s.setToll (syncingToward k s)) := rfl
  rw [offered, offerCounted_room rfl (s := s.setToll (syncingToward k s)) room]
  rfl

theorem followTollCentre_queued (s : State) : Queued 1 s (followTollCentre s) := by
  unfold followTollCentre
  split
  · split
    · exact enterSyncing_queued ..
    · split
      · exact (Queued.refl s).mono (Nat.zero_le _)
      · exact (Queued.of_same (s := s) (t := closeChannel s) rfl rfl rfl).mono (Nat.zero_le _)
  · exact (Queued.refl s).mono (Nat.zero_le _)

theorem followTollCentre_some {k : Nat} (port : s.portOf .toll ≠ none) (active : s.phase = .active)
    (centre : s.tollCentre = some k) : followTollCentre s = enterSyncing k s := by
  rw [followTollCentre, if_pos ⟨Option.isSome_iff_ne_none.mpr port, active⟩, centre]

theorem followTollCentre_none (port : s.portOf .toll ≠ none) (active : s.phase = .active) (centre : s.tollCentre = none) :
    followTollCentre s = if s.toll.chan = .closed then s else closeChannel s := by
  rw [followTollCentre, if_pos ⟨Option.isSome_iff_ne_none.mpr port, active⟩, centre]

theorem followTollCentre_idle (h : ¬(s.phase = .active ∧ s.portOf .toll ≠ none)) : followTollCentre s = s :=
  if_neg fun ⟨port, active⟩ => h ⟨active, Option.isSome_iff_ne_none.mp port⟩

theorem followTollCentre_closed (centre : s.tollCentre = none) (closed : s.toll.chan = .closed) : followTollCentre s = s := by
  unfold followTollCentre
  split
  · simp only [centre]
  · rfl

theorem SameBut.portOf_eq {ps : List Part} (h : SameBut ps s t) (hp : .straps ∉ ps) (k : Profile) :
    t.portOf k = s.portOf k := by
  have profile (p : Port) : t.profile p = s.profile p := by
    rw [State.profile, show t.straps = s.straps from h.same .straps hp]
    rfl
  simp only [State.portOf, profile]

theorem SameBut.tollCentre_eq {ps : List Part} (h : SameBut ps s t) (hp : .station ∉ ps) : t.tollCentre = s.tollCentre := by
  simp only [State.tollCentre, State.heardOf]
  rw [show t.station = s.station from h.same .station hp]

/-! ### The end of the listening time -/

theorem sendAlarm_queued (s : State) : Queued 1 s (sendAlarm s) :=
  ((offerCounted_queued (kind := kWxAlarm) (dest := allStations) (bytes := alarmBytes s.weather) rfl).trans
    (.of_same (t := sendAlarm s) rfl rfl rfl)).mono (Nat.le_refl _)

theorem firstAlarm_queued (s : State) : Queued 1 s (firstAlarm s) := by
  unfold firstAlarm
  split
  · exact sendAlarm_queued s
  · exact (Queued.refl s).mono (Nat.zero_le _)

theorem settle_queued (s : State) : Queued 0 s (settle s) :=
  .of_keeps (settle_keeps s) (by decide) (by decide) (by decide)

/-- R42: what follows the first HELLO in the step that makes a station ACTIVE. -/
def startUnits (s : State) : State := settle (firstAlarm (followTollCentre (testClaim s)))

theorem startUnits_keeps (s : State) :
    SameBut [.tx, .ring, .call, .toll, .signs, .responses, .weather, .ports, .portCounts] s (startUnits s) :=
  ((testClaim_keeps s).mono rfl).trans (((followTollCentre_keeps _).mono rfl).trans
    (((firstAlarm_keeps _).mono rfl).trans ((settle_keeps _).mono rfl)))

theorem startUnits_queued (s : State) : Queued 3 s (startUnits s) :=
  ((((testClaim_tested s).queued.trans (followTollCentre_queued _)).trans (firstAlarm_queued _)).trans (settle_queued _)).mono
    (Nat.le_refl _)

theorem startUnits_toll (s : State) : (startUnits s).toll = (followTollCentre (testClaim s)).toll :=
  have alarm : (firstAlarm (followTollCentre (testClaim s))).toll = _ := (firstAlarm_keeps _).same .toll (by decide)
  have settled : (startUnits s).toll = _ := (settle_keeps (firstAlarm (followTollCentre (testClaim s)))).same .toll (by decide)
  settled.trans alarm

theorem startUnits_holdAt (s : State) : (startUnits s).call.holdAt = s.call.holdAt := by
  have settled := (settle_indicated (firstAlarm (followTollCentre (testClaim s)))).call
  have alarm : (firstAlarm (followTollCentre (testClaim s))).call = _ := (firstAlarm_keeps _).same .call (by decide)
  have follow : (followTollCentre (testClaim s)).call = _ := (followTollCentre_keeps _).same .call (by decide)
  rw [startUnits, settled]
  dsimp only
  rw [alarm, follow, (testClaim_tested s).holdAt]

theorem listeningTimerExpires_eq {d : Time} (starting : s.phase = .starting) (timer : s.station.listening = some d) :
    exec .listeningTimerExpires s = .next (startUnits (sendHello (becomeActive d s))) := by
  refine congrArg (fun t => Host.Outcome.next (settle t)) ?_
  rw [listeningExpired, timer]
  exact if_pos starting

theorem helloPeriod_eq {d : Time} (phase : s.phase = .active ∨ s.phase = .mute) (timer : s.station.helloAt = some d) :
    exec .helloPeriod s = .next (sendHello ((reach d s).setStation { s.station with helloAt := some (d + 1000000000) })) := by
  refine congrArg Host.Outcome.next ?_
  rw [helloPeriodEnds, timer]
  exact if_pos phase

/-- R42: the station table of a station that has become ACTIVE, its first HELLO offered. -/
def activeTable (d : Time) (s : State) : Station :=
  { s.station with
    phase := .active, listening := none, stamp := s.clock.counterBase + BitVec.ofNat 16 (max s.clock.now d / 1000)
    restartFlag := if (s.insertQueue .c).length < 32 then false else true
    helloAt := some (d + 1000000000), statusAt := some (d + 5000000000) }

theorem firstHello_station (d : Time) (s : State) : (sendHello (becomeActive d s)).station = activeTable d s :=
  sendHello_station _

theorem firstHello_keeps (d : Time) (s : State) :
    SameBut [.clock, .tx, .ring, .station, .call] s (sendHello (becomeActive d s)) :=
  ((reach_keeps d s).mono rfl).trans ((State.setStation_keeps.mono rfl).trans
    ((State.setCall_keeps.mono rfl).trans ((sendHello_keeps _).mono rfl)))

/-- R42, R46: the first HELLO, as it joins its queue. -/
theorem firstHello_queue (d : Time) (room : (s.insertQueue .c).length < 32) :
    (sendHello (becomeActive d s)).insertQueue .c = s.insertQueue .c ++ [originate 5 255 (helloBytes { helloNow s with
      stamp := s.clock.counterBase + BitVec.ofNat 16 (max s.clock.now d / 1000), restart := true }) s] := by
  rw [sendHello_room (s := becomeActive d s) room]
  exact withQueued_get (becomeActive d s) _

/-- R42: the step that makes a station ACTIVE. -/
theorem activated (d : Time) (s : State) : ∃ t, startUnits (sendHello (becomeActive d s)) = t ∧
    SameBut [.clock, .tx, .ring, .station, .call, .toll, .signs, .responses, .weather, .ports, .portCounts] s t ∧
    t.station = activeTable d s ∧ t.call.holdAt = some (d + 1000000000) ∧
    t.toll = (followTollCentre (testClaim (sendHello (becomeActive d s)))).toll ∧
    Queued 3 (sendHello (becomeActive d s)) t := by
  have keeps := startUnits_keeps (sendHello (becomeActive d s))
  have station : (startUnits (sendHello (becomeActive d s))).station = _ := keeps.same .station (by decide)
  have call : (sendHello (becomeActive d s)).call = { s.call with holdAt := some (d + 1000000000) } :=
    (sendHello_keeps (becomeActive d s)).same .call (by decide)
  exact ⟨_, rfl, ((firstHello_keeps d s).mono rfl).trans (keeps.mono rfl), station.trans (firstHello_station d s),
    (startUnits_holdAt _).trans (congrArg CallUnit.holdAt call), startUnits_toll _, startUnits_queued _⟩

/-- Settles O13: the first HELLO is offered before the units start; a HELLO period is one offer. -/
theorem listeningTimerAndHelloPeriods : Obligations.ListeningTimerAndHelloPeriods := by
  refine ⟨fun s d starting timer => ?_, fun s d phase timer => ?_⟩
  · have exec := listeningTimerExpires_eq starting timer
    obtain ⟨t, e, keeps, station, holdAt, toll, queued⟩ := activated d s
    rw [e] at exec
    have lines : t.lines = s.lines := keeps.same .lines (by decide)
    have straps : t.straps = s.straps := keeps.same .straps (by decide)
    have plates : t.plates = s.plates := keeps.same .plates (by decide)
    have centre : t.centre = s.centre := keeps.same .centre (by decide)
    have first := firstHello_keeps d s
    have tests := testClaim_keeps (sendHello (becomeActive d s))
    have before : (testClaim (sendHello (becomeActive d s))).toll = s.toll :=
      Eq.trans (tests.same .toll (by decide)) (first.same .toll (by decide))
    have selected : (testClaim (sendHello (becomeActive d s))).tollCentre = s.tollCentre := by
      rw [tests.tollCentre_eq (by decide)]
      simp only [State.tollCentre, State.heardOf]
      rw [firstHello_station]
      rfl
    have active : (testClaim (sendHello (becomeActive d s))).phase = .active := by
      rw [State.phase, show (testClaim (sendHello (becomeActive d s))).station = _ from tests.same .station (by decide),
        firstHello_station]
      rfl
    intro stamp room
    refine ⟨t, exec, congrArg Station.phase station, ?_, ?_, ?_, ?_, ?_, holdAt, ?_, ?_, fun k chosen port => ?_,
      fun none closed => ?_, lines, straps, plates, centre, fun free => ?_⟩
    · rw [station]; rfl
    · rw [station]; rfl
    · rw [station]; rfl
    · rw [station]; rfl
    · rw [station]; rfl
    · rw [station]; rfl
    · rw [station]; rfl
    · have chan := toll.trans (congrArg State.toll (followTollCentre_some (s := testClaim (sendHello (becomeActive d s)))
        (by rw [tests.portOf_eq (by decide), first.portOf_eq (by decide)]; exact port) active (selected.trans chosen)))
      rw [enterSyncing_toll] at chan
      rw [chan]
      exact ⟨rfl, rfl⟩
    · rw [toll, followTollCentre_closed (selected.trans none) (by rw [before]; exact closed), before]
      exact closed
    · obtain ⟨xs, _, queue⟩ := queued.queue
      rw [firstHello_queue d free, List.append_assoc, first.fold_eq (by decide)] at queue
      exact ⟨xs, queue⟩
  · rw [helloPeriod_eq phase timer]
    intro room
    refine ⟨_, rfl, ?_, ?_, fun free => ?_, fun full => ?_⟩
    · exact (reach_keeps d s).mono rfl |>.trans ((State.setStation_keeps.mono rfl).trans ((sendHello_keeps _).mono rfl))
    · exact (sendHello_keeps _).same .clock (by decide)
    · rw [sendHello_room (s := (reach d s).setStation { s.station with helloAt := some (d + 1000000000) }) free]
      exact ⟨rfl, rfl, rfl⟩
    · rw [sendHello_full (s := (reach d s).setStation { s.station with helloAt := some (d + 1000000000) }) (Nat.not_lt.mp full)]
      exact ⟨rfl, rfl, rfl⟩

end Sys2Proof.Machine
end

section
/-! PROOFS. The heard table (R47, R48) and what its changes tell the call unit and the toll unit (R49, R75, R89, R96). -/

namespace Sys2Proof.Machine

variable {s t u : State} {n : Nat} {e : HeardEntry}

/-! ### Cells that the call unit offers -/

theorem foldl_queued {α : Type} {f : State → α → State} (h : ∀ s a, Queued 1 s (f s a)) (l : List α) (s : State) :
    Queued l.length s (l.foldl f s) := by
  induction l generalizing s with
  | nil => exact .refl s
  | cons a l ih => exact ((h s a).trans (ih _)).mono (by rw [List.length_cons]; omega)

theorem sendRelease_queued (c : Fin 16) (p : Port) (s : State) : Queued 1 s (sendRelease c p s) :=
  (offerCounted_queued rfl).trans (.of_keeps (setCircuit_keeps ..) (by decide) (by decide) (by decide))

theorem loseCall_queued (p : Port) (r : CallReason) (s : State) : Queued 0 s (loseCall p r s) :=
  .of_keeps (loseCall_keeps ..) (by decide) (by decide) (by decide)

theorem loseTarget_queued (n : Nat) (s : State) (c : Fin 16) : Queued 1 s (loseTarget n s c) := by
  have lost (p : Port) : Queued 1 s (loseCall p .reconnecting (sendRelease c p s)) :=
    (sendRelease_queued c p s).trans (loseCall_queued ..)
  unfold loseTarget
  split
  · next p _ _ =>
    split
    · dsimp only
      split
      · exact lost p
      · exact (lost p).trans (.of_keeps (ps := [.call]) State.setCall_keeps (by decide) (by decide) (by decide))
    · exact (Queued.refl s).mono (Nat.zero_le _)
  · exact (Queued.refl s).mono (Nat.zero_le _)

theorem targetRemoved_queued (n : Nat) (s : State) : Queued 17 s (targetRemoved n s) :=
  (foldl_queued (fun s c => loseTarget_queued n s c) (List.finRange 16) s).trans (testClaim_tested _).queued

/-! ### The toll unit is told of the toll centre -/

/-- R89: the station runs a toll channel. -/
def Runs (s : State) : Prop := s.phase = .active ∧ s.portOf .toll ≠ none

/-- R89: the toll unit whose channel is CLOSED. -/
def closedToll (u : TollUnit) : TollUnit :=
  { u with chan := .closed, bound := none, journal := allNew u.journal, expiries := 0, sendMark := none, syncTimer := none }

/-- R49, R89, R96: the toll unit behind a change of the heard table, told if the toll centre is another one. -/
structure TollTold (s t : State) : Prop where
  kept : t.tollCentre = s.tollCentre ∨ ¬Runs s → t.toll = s.toll
  toward : ∀ k, Runs s → t.tollCentre ≠ s.tollCentre → t.tollCentre = some k → t.toll = syncingToward k s
  closed : Runs s → t.tollCentre ≠ s.tollCentre → t.tollCentre = none →
    t.toll = if s.toll.chan = .closed then s.toll else closedToll s.toll
  offers : ∀ k, Runs s → t.tollCentre ≠ s.tollCentre → t.tollCentre = some k → (s.insertQueue .c).length ≤ 13 →
    originate 10 (natByte k) (wordBytes (startNumber s.toll)) s ∈ (t.tx.get (insertLine s.fold)).insert.c

theorem TollTold.of_same (toll : t.toll = s.toll) (centre : t.tollCentre = s.tollCentre) : TollTold s t :=
  ⟨fun _ => toll, fun _ _ ne => absurd centre ne, fun _ ne => absurd centre ne, fun _ _ ne => absurd centre ne⟩

/-- R49: the toll unit is told behind the call unit, whose cells are 18 at the most. -/
theorem TollTold.of_told {v : State} (kept : SameBut [.tx, .ring, .station, .call, .signs, .responses, .ports, .portCounts] s v)
    (phase : v.phase = s.phase) (queued : Queued 18 s v)
    (told : (v.tollCentre ≠ s.tollCentre → t = followTollCentre v) ∧ (v.tollCentre = s.tollCentre → t = v)) :
    TollTold s t ∧ Queued 19 s t := by
  have toll : v.toll = s.toll := kept.same .toll (by decide)
  have clock : v.clock = s.clock := kept.same .clock (by decide)
  have straps : v.straps = s.straps := kept.same .straps (by decide)
  have runs : Runs v ↔ Runs s := by rw [Runs, Runs, phase, kept.portOf_eq (by decide)]
  by_cases same : v.tollCentre = s.tollCentre
  · cases told.2 same
    exact ⟨.of_same toll same, queued.mono (by omega)⟩
  · cases told.1 same
    have centre : (followTollCentre v).tollCentre = v.tollCentre := (followTollCentre_keeps v).tollCentre_eq (by decide)
    refine ⟨⟨fun h => ?_, fun k run ne chosen => ?_, fun run ne none => ?_, fun k run ne chosen room => ?_⟩,
      queued.trans (followTollCentre_queued v)⟩
    · rw [centre] at h
      rw [followTollCentre_idle (mt runs.mp (h.resolve_left same)), toll]
    · obtain ⟨active, port⟩ := runs.mpr run
      rw [followTollCentre_some port active (centre ▸ chosen), enterSyncing_toll, syncingToward, syncingToward, toll, State.now,
        clock]
      rfl
    · obtain ⟨active, port⟩ := runs.mpr run
      rw [followTollCentre_none port active (centre ▸ none), ← toll]
      split <;> rfl
    · obtain ⟨active, port⟩ := runs.mpr run
      obtain ⟨xs, few, queue⟩ := queued.insertQueue
      rw [followTollCentre_some port active (centre ▸ chosen),
        enterSyncing_offers k (by rw [queue, List.length_append]; omega), ← queued.fold, withQueued_get, toll]
      refine List.mem_append_right _ (List.mem_singleton.mpr ?_)
      rw [originate, originate, State.ownByte, State.ownByte, straps]
      rfl

/-! ### Changes of the heard table -/

/-- R47, R48: a change of the heard table that is told. -/
structure HeardChanged (n : Nat) (e : HeardEntry) (s t : State) : Prop where
  keeps : SameBut [.tx, .ring, .station, .call, .toll, .signs, .responses, .ports, .portCounts] s t
  station : t.station = { s.station with heard := s.station.heard.setIfInBounds n e }
  told : TollTold s t
  queued : Queued 19 s t

theorem changeHeard_changed (n : Nat) (e : HeardEntry) (s : State) : HeardChanged n e s (changeHeard n e s) := by
  have keeps := changeHeard_keeps n e s
  have written : SameBut [.station, .signs, .responses, .ports, .portCounts] s (respond (setHeard n e s)) :=
    (State.setStation_keeps.mono rfl).trans ((respond_keeps _).mono rfl)
  have table : (respond (setHeard n e s)).station = { s.station with heard := s.station.heard.setIfInBounds n e } :=
    (respond_keeps (setHeard n e s)).same .station (by decide)
  have removed : SameBut [.tx, .ring, .call, .signs, .responses, .ports, .portCounts] (respond (setHeard n e s))
      (if e.present then respond (setHeard n e s) else targetRemoved n (respond (setHeard n e s))) ∧
      Queued 17 s (if e.present then respond (setHeard n e s) else targetRemoved n (respond (setHeard n e s))) := by
    have plain : Queued 0 s (respond (setHeard n e s)) := .of_keeps written (by decide) (by decide) (by decide)
    split
    · exact ⟨.refl _ _, plain.mono (by omega)⟩
    · exact ⟨targetRemoved_keeps .., plain.trans (targetRemoved_queued ..)|>.mono (by omega)⟩
  have unfolded : changeHeard n e s = tellSelections s
    (if e.present then respond (setHeard n e s) else targetRemoved n (respond (setHeard n e s))) := rfl
  rw [unfolded] at keeps ⊢
  generalize (if e.present then respond (setHeard n e s) else targetRemoved n (respond (setHeard n e s))) = w at keeps removed ⊢
  obtain ⟨removedKeeps, removedQueued⟩ := removed
  have tests : SameBut [.tx, .ring, .call, .signs, .responses, .ports, .portCounts] w
      (if w.selectedCentre ≠ s.selectedCentre then testClaim w else w) ∧
      Queued 18 s (if w.selectedCentre ≠ s.selectedCentre then testClaim w else w) := by
    split
    · exact ⟨(testClaim_keeps w).mono rfl, removedQueued.trans (testClaim_tested w).queued⟩
    · exact ⟨.refl _ _, removedQueued.mono (by omega)⟩
  unfold tellSelections at keeps ⊢
  dsimp only at keeps ⊢
  generalize (if w.selectedCentre ≠ s.selectedCentre then testClaim w else w) = v at keeps tests ⊢
  obtain ⟨testKeeps, testQueued⟩ := tests
  have station : v.station = { s.station with heard := s.station.heard.setIfInBounds n e } :=
    Eq.trans (testKeeps.same .station (by decide)) (Eq.trans (removedKeeps.same .station (by decide)) table)
  obtain ⟨told, queued⟩ := TollTold.of_told (t := if v.tollCentre ≠ s.tollCentre then followTollCentre v else v)
    ((written.mono rfl).trans ((removedKeeps.mono rfl).trans (testKeeps.mono rfl))) (by rw [State.phase, station]; rfl) testQueued
    ⟨fun ne => if_pos ne, fun same => if_neg (not_not_intro same)⟩
  refine ⟨keeps, ?_, told, queued⟩
  have follow : (if v.tollCentre ≠ s.tollCentre then followTollCentre v else v).station = v.station := by
    split
    · exact (followTollCentre_keeps v).same .station (by decide)
    · rfl
  exact follow.trans station

theorem heardOf_set (table : t.station = { s.station with heard := s.station.heard.setIfInBounds n e }) (le : n ≤ 60) (m : Nat) :
    t.heardOf m = if m = n then e else s.heardOf m := by
  rw [State.heardOf, table]
  dsimp only
  rw [Vector.getElem?_setIfInBounds]
  by_cases h : n = m
  · subst h
    rw [if_pos rfl, if_pos (by omega), if_pos rfl]
    rfl
  · rw [if_neg h, if_neg (Ne.symm h)]
    rfl

/-- R48: a present entry that reaches 3.5 s. -/
theorem heardEntryExpires_eq (present : (s.heardOf n).present = true) : exec (.heardEntryExpires n) s = .next (settle
    (changeHeard n { absentEntry with stamp := (s.heardOf n).stamp } (reach ((s.heardOf n).refreshed + 3500000000) s))) := by
  refine congrArg (fun t => Host.Outcome.next (settle t)) ?_
  exact if_pos present

/-! ### A restart notice (R96, R98, R103) -/

/-- R98, R103: the toll unit behind a restart notice, its channel apart. -/
def noticedToll (n : Nat) (u : TollUnit) : TollUnit :=
  { u with receive := u.receive.setIfInBounds n none, down := u.down.map (emptyDown n) }

theorem restartNotice_eq (n : Nat) (s : State) : restartNotice n s =
    if s.toll.bound = some n ∧ s.toll.chan ≠ .closed then enterSyncing n (s.setToll (noticedToll n s.toll))
    else s.setToll (noticedToll n s.toll) := by
  have unfolded : restartNotice n s = if s.toll.bound = some n ∧ s.toll.chan ≠ .closed then
    resync (s.setToll (noticedToll n s.toll)) else s.setToll (noticedToll n s.toll) := rfl
  rw [unfolded]
  by_cases h : s.toll.bound = some n ∧ s.toll.chan ≠ .closed
  · rw [if_pos h, if_pos h, resync, show (s.setToll (noticedToll n s.toll)).toll.bound = some n from h.1]
  · rw [if_neg h, if_neg h]

/-- R47, R96: what a restart notice leaves of the toll unit. -/
structure Noticed (n : Nat) (s t : State) : Prop where
  keeps : SameBut [.tx, .ring, .toll] s t
  receive : t.toll.receive = s.toll.receive.setIfInBounds n none
  down : t.toll.down = s.toll.down.map (emptyDown n)
  fresh : s.toll.bound = some n → s.toll.chan ≠ .closed → t.toll = syncingToward n (s.setToll (noticedToll n s.toll))
  other : ¬(s.toll.bound = some n ∧ s.toll.chan ≠ .closed) → t.toll = noticedToll n s.toll
  offers : s.toll.bound = some n → s.toll.chan ≠ .closed → (s.insertQueue .c).length < 32 →
    originate 10 (natByte n) (wordBytes (startNumber s.toll)) s ∈ t.insertQueue .c
  queued : Queued 1 s t

theorem restartNotice_noticed (n : Nat) (s : State) : Noticed n s (restartNotice n s) := by
  have keeps := restartNotice_keeps n s
  have told : Queued 0 s (s.setToll (noticedToll n s.toll)) := .of_same rfl rfl rfl
  rw [restartNotice_eq] at keeps ⊢
  by_cases h : s.toll.bound = some n ∧ s.toll.chan ≠ .closed
  · rw [if_pos h] at keeps ⊢
    have toll := enterSyncing_toll n (s.setToll (noticedToll n s.toll))
    refine ⟨keeps, by rw [toll]; rfl, by rw [toll]; rfl, fun _ _ => toll, fun other => absurd h other, fun _ _ room => ?_,
      (told.trans (enterSyncing_queued ..)).mono (by omega)⟩
    rw [State.insertQueue, keeps.fold_eq (by decide), enterSyncing_offers n (s := s.setToll (noticedToll n s.toll)) room]
    exact (congrArg (originate 10 (natByte n) (wordBytes (startNumber s.toll)) s ∈ ·)
      (withQueued_get (s.setToll (noticedToll n s.toll)) _)).mpr (List.mem_append_right _ (List.mem_singleton.mpr rfl))
  · rw [if_neg h]
    exact ⟨State.setToll_keeps.mono rfl, rfl, rfl, fun a b => absurd ⟨a, b⟩ h, fun _ => rfl, fun a b => absurd ⟨a, b⟩ h,
      told.mono (Nat.zero_le _)⟩

theorem startNumber_eq (u : TollUnit) : startNumber u = (u.journal.head?.map (fun r => r.number)).getD u.next := by
  rw [startNumber]
  cases u.journal <;> rfl

theorem startNumber_allNew {u v : TollUnit} (journal : v.journal = allNew u.journal) (next : v.next = u.next) :
    startNumber v = startNumber u := by
  rw [startNumber_eq, startNumber_eq, journal, next]
  cases u.journal <;> rfl

theorem allNew_allNew (j : List TollRecord) : allNew (allNew j) = allNew j := by
  simp [allNew]

/-! ### The channel behind a change of the heard table -/

/-- R90: the channel has entered SYNCING afresh toward a centre; `s` is the state before the step. -/
def FreshSync (s : State) (k : Nat) (t : State) : Prop :=
  t.toll.chan = .syncing ∧ t.toll.bound = some k ∧ t.toll.expiries = 0 ∧
    t.toll.sendMark = none ∧ t.toll.syncTimer = some (t.clock.now + 500000000) ∧
    t.toll.journal = s.toll.journal.map (fun r => { r with sent := none }) ∧
    t.toll.start = (s.toll.journal.head?.map (fun r => r.number)).getD s.toll.next ∧
    ((s.insertQueue .c).length ≤ 12 → originate 10 (natByte k) (wordBytes t.toll.start) s ∈
      (t.tx.get (insertLine s.fold)).insert.c)

/-- R89: the channel follows the toll centre; `s` is the state before the step. -/
def FollowsCentre (s t : State) : Prop :=
  s.phase = .active ∧ s.portOf .toll ≠ none → t.tollCentre ≠ s.tollCentre →
    (∀ k, t.tollCentre = some k → FreshSync s k t) ∧
    (t.tollCentre = none → t.toll.chan = .closed ∧ (s.toll.chan ≠ .closed → t.toll.bound = none ∧
      t.toll.expiries = 0 ∧ t.toll.sendMark = none ∧ t.toll.syncTimer = none ∧
      t.toll.journal = s.toll.journal.map (fun r => { r with sent := none })))

/-- What a step may have changed when the toll unit is told: the clock, a restart notice, and one cell more. -/
structure ReadyToTell (s v : State) : Prop where
  straps : v.straps = s.straps
  fold : v.fold = s.fold
  phase : v.phase = s.phase
  centre : v.tollCentre = s.tollCentre
  next : v.toll.next = s.toll.next
  journal : allNew v.toll.journal = allNew s.toll.journal
  start : startNumber v.toll = startNumber s.toll
  closed : v.toll.chan = .closed ↔ s.toll.chan = .closed
  queue : ∃ xs, xs.length ≤ 1 ∧ v.insertQueue .c = s.insertQueue .c ++ xs

theorem ReadyToTell.originate_eq {v : State} (h : ReadyToTell s v) (kind dest : Byte) (bytes : List Byte) :
    originate kind dest bytes v = originate kind dest bytes s := by
  rw [originate, originate, State.ownByte, State.ownByte, h.straps]

theorem ReadyToTell.runs {v : State} (h : ReadyToTell s v) : Runs v ↔ Runs s := by
  have profile (p : Port) : v.profile p = s.profile p := by
    rw [State.profile, h.straps]
    rfl
  simp only [Runs, h.phase, State.portOf, profile]

/-- R90: a fresh sync in a step that was ready for it. -/
theorem ReadyToTell.fresh {v : State} (h : ReadyToTell s v) {k : Nat} (toll : t.toll = syncingToward k v)
    (clock : t.clock = v.clock)
    (offers : (s.insertQueue .c).length ≤ 12 → originate 10 (natByte k) (wordBytes (startNumber v.toll)) v ∈
      (t.tx.get (insertLine v.fold)).insert.c) : FreshSync s k t := by
  have start : (syncingToward k v).start = startNumber s.toll := h.start
  refine ⟨by rw [toll]; rfl, by rw [toll]; rfl, by rw [toll]; rfl, by rw [toll]; rfl, by rw [toll, clock]; rfl,
    by rw [toll]; exact h.journal, by rw [toll, ← startNumber_eq]; exact start, fun room => ?_⟩
  have offered := offers room
  rw [h.originate_eq, h.start, h.fold] at offered
  rw [toll, start]
  exact offered

/-- What is done behind the units that are told: indications, and a copied cell that passes on. -/
structure UnitsKept (s t : State) : Prop where
  station : t.station = s.station
  toll : t.toll = s.toll
  clock : t.clock = s.clock
  insert : ∀ l, (t.tx.get l).insert = (s.tx.get l).insert

theorem TollTold.follows {v w : State} (ready : ReadyToTell s v) (told : TollTold v w) (clock : w.clock = v.clock)
    (kept : UnitsKept w t) : FollowsCentre s t := by
  have centre : t.tollCentre = w.tollCentre := by
    simp only [State.tollCentre, State.heardOf, kept.station]
  intro runs other
  have run := ready.runs.mpr runs
  rw [centre, ← ready.centre] at other
  refine ⟨fun k chosen => ?_, fun none => ?_⟩
  · rw [centre] at chosen
    refine ready.fresh (kept.toll.trans (told.toward k run other chosen)) (kept.clock.trans clock) fun room => ?_
    obtain ⟨xs, few, queue⟩ := ready.queue
    rw [kept.insert]
    exact told.offers k run other chosen (by rw [queue, List.length_append]; omega)
  · rw [centre] at none
    have toll := kept.toll.trans (told.closed run other none)
    by_cases closed : v.toll.chan = .closed
    · rw [if_pos closed] at toll
      exact ⟨by rw [toll]; exact closed, fun open' => absurd (ready.closed.mp closed) open'⟩
    · rw [if_neg closed] at toll
      rw [toll]
      exact ⟨rfl, fun _ => ⟨rfl, rfl, rfl, rfl, ready.journal⟩⟩

theorem settle_unitsKept (s : State) : UnitsKept s (settle s) :=
  have keeps := settle_keeps s
  have tx : (settle s).tx = s.tx := keeps.same .tx (by decide)
  ⟨keeps.same .station (by decide), keeps.same .toll (by decide), keeps.same .clock (by decide), fun l => by rw [tx]⟩

/-- R48: an entry that ages. -/
theorem heardEntry_expires (present : (s.heardOf n).present = true) (le : n ≤ 60) :
    ∃ t, exec (.heardEntryExpires n) s = .next t ∧
       SameBut [.clock, .tx, .ring, .station, .call, .toll, .signs, .responses, .ports, .portCounts] s t ∧
       t.clock = { s.clock with now := max s.clock.now ((s.heardOf n).refreshed + 3500000000) } ∧
       t.station.heard = s.station.heard.setIfInBounds n { absentEntry with stamp := (s.heardOf n).stamp } ∧
       t.station = { s.station with heard := t.station.heard } ∧
       (t.heardOf n).present = false ∧ (t.heardOf n).stamp = (s.heardOf n).stamp ∧
       FollowsCentre s t ∧ (¬Runs s ∨ t.tollCentre = s.tollCentre → t.toll = s.toll) := by
  have exec := heardEntryExpires_eq present
  have changed := changeHeard_changed n { absentEntry with stamp := (s.heardOf n).stamp }
    (reach ((s.heardOf n).refreshed + 3500000000) s)
  have reached := reach_keeps ((s.heardOf n).refreshed + 3500000000) s
  have ready : ReadyToTell s (reach ((s.heardOf n).refreshed + 3500000000) s) :=
    ⟨rfl, rfl, rfl, rfl, rfl, rfl, rfl, Iff.rfl, [], by decide, (List.append_nil _).symm⟩
  generalize changeHeard n { absentEntry with stamp := (s.heardOf n).stamp }
    (reach ((s.heardOf n).refreshed + 3500000000) s) = w at exec changed
  have kept := settle_unitsKept w
  have clock : w.clock = (reach ((s.heardOf n).refreshed + 3500000000) s).clock := changed.keeps.same .clock (by decide)
  have table : (settle w).station = { s.station with
      heard := s.station.heard.setIfInBounds n { absentEntry with stamp := (s.heardOf n).stamp } } :=
    kept.station.trans changed.station
  have entry := heardOf_set table le n
  rw [if_pos rfl] at entry
  refine ⟨settle w, exec, ?_, kept.clock.trans clock, by rw [table], by rw [table], by rw [entry]; rfl, by rw [entry],
    changed.told.follows ready clock kept, fun h => ?_⟩
  · exact (reached.mono rfl).trans ((changed.keeps.mono rfl).trans ((settle_keeps w).mono rfl))
  · have centre : (settle w).tollCentre = w.tollCentre := (settle_keeps w).tollCentre_eq (by decide)
    exact kept.toll.trans (changed.told.kept (h.symm.imp (fun same => centre.symm.trans same) id))

/-! ### HELLO of another station (R47) -/

theorem handPlain_hello {x : Cell} (h : x.kind = kHello) (own : Bool) (s : State) :
    handPlain false own x s = settle (helloCopied x.source.toNat (readHello x.payload) s) := by
  rw [handPlain, if_neg (by rw [h]; decide), if_neg (by rw [h]; decide), if_neg (by rw [h]; decide), if_pos h]
  exact if_neg nofun

theorem forward_insert (l k : Line) (x : Cell) (s : State) : ((forward l x s).tx.get k).insert = (s.tx.get k).insert :=
  enqueueTransit_insert ..

/-- R18: what passing a copied cell on leaves of the units. -/
theorem passed_unitsKept (l : Line) (x : Cell) (s : State) : UnitsKept s (forward l x (toCentre false x s)) := by
  have centre := toCentre_keeps false x s
  have passed := forward_keeps l x (toCentre false x s)
  have tx : (toCentre false x s).tx = s.tx := centre.same .tx (by decide)
  exact ⟨Eq.trans (passed.same .station (by decide)) (centre.same .station (by decide)),
    Eq.trans (passed.same .toll (by decide)) (centre.same .toll (by decide)),
    Eq.trans (passed.same .clock (by decide)) (centre.same .clock (by decide)),
    fun k => by rw [forward_insert, tx]⟩

theorem UnitsKept.trans (h : UnitsKept s t) (k : UnitsKept t u) : UnitsKept s u :=
  ⟨k.station.trans h.station, k.toll.trans h.toll, k.clock.trans h.clock, fun l => (k.insert l).trans (h.insert l)⟩

/-- R47: a copied HELLO. -/
theorem Copied.hello {l : Line} {x : Cell} (h : Copied l x s) (hello : x.kind = kHello) :
    ∃ t, exec (.cellArrives l x) s = .next t ∧
      SameBut [.tx, .ring, .call, .ports, .portCounts, .centre] (helloCopied x.source.toNat (readHello x.payload) (validWord l s)) t ∧
      UnitsKept (helloCopied x.source.toNat (readHello x.payload) (validWord l s)) t := by
  have claim : x.kind ≠ kClaim := by rw [hello]; decide
  have exec := h.passes
  rw [handCell, show addressingOf x.dest = .all from if_pos h.2.1, if_pos (show handedOn x.kind .all (validWord l s) = true from rfl),
    if_neg claim] at exec
  dsimp only at exec
  rw [handPlain_hello hello] at exec
  generalize helloCopied x.source.toNat (readHello x.payload) (validWord l s) = w at exec ⊢
  exact ⟨_, exec, ((settle_keeps w).mono rfl).trans (((toCentre_keeps ..).mono rfl).trans ((forward_keeps ..).mono rfl)),
    (settle_unitsKept w).trans (passed_unitsKept ..)⟩

/-- R47: a restart notice is due. -/
def Restarted (e : HeardEntry) (h : Hello) : Prop :=
  h.restart = true ∨ (∃ x, e.stamp = some x ∧ x ≠ h.stamp ∧ (e.present = true ∨ h.duplicate = false))

theorem restartSeen_iff (e : HeardEntry) (h : Hello) : restartSeen e h = true ↔ Restarted e h := by
  unfold restartSeen Restarted
  cases e.stamp <;> cases h.duplicate <;> simp

/-- R47: what a copied HELLO makes of the state `v` behind the restart notice. -/
structure HelloTold (n : Nat) (h : Hello) (v w : State) : Prop where
  ignored : h.duplicate = true → (v.heardOf n).present = false → w.station = v.station
  table : (h.duplicate = true → (v.heardOf n).present = true) → w.station = { v.station with
    heard := v.station.heard.setIfInBounds n (heardAfter v.clock.now h) }
  told : TollTold v w
  keeps : SameBut [.tx, .ring, .station, .call, .toll, .signs, .responses, .ports, .portCounts] v w
  queued : Queued 19 v w

theorem heardAfter_changes {now : Time} {h : Hello} (same : heardChanges e (heardAfter now h) = false) :
    (heardAfter now h).present = e.present ∧ (heardAfter now h).tollReceive = e.tollReceive := by
  simp only [heardChanges, Bool.or_eq_false_iff, decide_eq_false_iff_not, Decidable.not_not] at same
  obtain ⟨⟨present, _⟩, receive⟩ := same
  exact ⟨present.symm, receive.symm⟩

theorem tollCentre_of_entries (present : ∀ m, (t.heardOf m).present = (s.heardOf m).present)
    (receive : ∀ m, (t.heardOf m).tollReceive = (s.heardOf m).tollReceive) : t.tollCentre = s.tollCentre := by
  simp only [State.tollCentre, present, receive]

theorem setHeard_told {now : Time} {h : Hello} (le : n ≤ 60) (same : heardChanges (s.heardOf n) (heardAfter now h) = false) :
    TollTold s (setHeard n (heardAfter now h) s) := by
  obtain ⟨present, receive⟩ := heardAfter_changes same
  have entry := heardOf_set (s := s) (t := setHeard n (heardAfter now h) s) (e := heardAfter now h) rfl le
  refine .of_same rfl (tollCentre_of_entries (fun m => ?_) fun m => ?_) <;> rw [entry m] <;> split
  · next here => rw [here, present]
  · rfl
  · next here => rw [here, receive]
  · rfl

/-- R47: the part of `helloCopied` behind the restart notice. -/
theorem helloCopied_told {h : Hello} (phase : s.phase ≠ .strapFault) (other : s.own ≠ some n) (le : n ≤ 60) :
    HelloTold n h (noteRestart n h s) (helloCopied n h s) := by
  have heard : (noteRestart n h s).heardOf n = s.heardOf n := by
    rw [State.heardOf, show (noteRestart n h s).station = s.station from (noteRestart_keeps n h s).same .station (by decide)]
    rfl
  have unfolded : helloCopied n h s = if (s.heardOf n).present = false ∧ h.duplicate = true then noteRestart n h s
      else if heardChanges (s.heardOf n) (heardAfter (noteRestart n h s).now h) then
        changeHeard n (heardAfter (noteRestart n h s).now h) (noteRestart n h s)
      else setHeard n (heardAfter (noteRestart n h s).now h) (noteRestart n h s) :=
    if_neg fun c => c.elim phase other
  rw [unfolded, ← heard]
  generalize noteRestart n h s = v
  by_cases ignored : (v.heardOf n).present = false ∧ h.duplicate = true
  · rw [if_pos ignored]
    refine ⟨fun _ _ => rfl, fun acts => absurd (acts ignored.2) (by rw [ignored.1]; nofun), .of_same rfl rfl, .refl _ _,
      (Queued.refl v).mono (Nat.zero_le _)⟩
  · rw [if_neg ignored]
    cases changes : heardChanges (v.heardOf n) (heardAfter v.now h) with
    | true =>
      rw [if_pos rfl]
      have changed := changeHeard_changed n (heardAfter v.now h) v
      exact ⟨fun d a => absurd ⟨a, d⟩ ignored, fun _ => changed.station, changed.told, changed.keeps, changed.queued⟩
    | false =>
      rw [if_neg nofun]
      exact ⟨fun d a => absurd ⟨a, d⟩ ignored, fun _ => rfl, setHeard_told le changes, State.setStation_keeps.mono rfl,
        (Queued.of_same (s := v) (t := setHeard n (heardAfter v.now h) v) rfl rfl rfl).mono (Nat.zero_le _)⟩

theorem Noticed.ready {v : State} (noticed : Noticed n s v) : ReadyToTell s v := by
  obtain ⟨keeps, receive, down, fresh, other, offers, queued⟩ := noticed
  have straps : v.straps = s.straps := keeps.same .straps (by decide)
  have station : v.station = s.station := keeps.same .station (by decide)
  have toll : v.toll.next = s.toll.next ∧ allNew v.toll.journal = allNew s.toll.journal ∧
      startNumber v.toll = startNumber s.toll ∧ (v.toll.chan = .closed ↔ s.toll.chan = .closed) := by
    by_cases h : s.toll.bound = some n ∧ s.toll.chan ≠ .closed
    · rw [fresh h.1 h.2]
      refine ⟨rfl, allNew_allNew _, startNumber_allNew rfl rfl, ?_⟩
      exact ⟨nofun, fun closed => absurd closed h.2⟩
    · rw [other h]
      exact ⟨rfl, rfl, rfl, Iff.rfl⟩
  obtain ⟨next, journal, start, closed⟩ := toll
  exact ⟨straps, keeps.fold_eq (by decide), congrArg Station.phase station, keeps.tollCentre_eq (by decide), next, journal, start,
    closed, queued.insertQueue⟩

theorem ReadyToTell.of_word {v : State} {l : Line} (h : ReadyToTell (validWord l s) v) : ReadyToTell s v := by
  have queue : (validWord l s).insertQueue .c = s.insertQueue .c := by
    rw [State.insertQueue, validWord_fold]
    rfl
  exact ⟨h.straps, h.fold.trans (validWord_fold l s), h.phase, h.centre, h.next, h.journal, h.start, h.closed, queue ▸ h.queue⟩

theorem FreshSync.of_word {l : Line} {k : Nat} (h : FreshSync (validWord l s) k t) : FreshSync s k t := by
  obtain ⟨chan, bound, expiries, mark, timer, journal, start, offers⟩ := h
  refine ⟨chan, bound, expiries, mark, timer, journal, start, ?_⟩
  rw [State.insertQueue, validWord_fold] at offers
  exact offers

theorem ReadyToTell.refl (s : State) : ReadyToTell s s :=
  ⟨rfl, rfl, rfl, rfl, rfl, rfl, rfl, Iff.rfl, [], by decide, (List.append_nil _).symm⟩

theorem noteRestart_ready (n : Nat) (h : Hello) (s : State) : ReadyToTell s (noteRestart n h s) := by
  unfold noteRestart
  split
  · exact (restartNotice_noticed n s).ready
  · exact .refl s

theorem TollTold.tables (h : TollTold s t) : t.toll.receive = s.toll.receive ∧ t.toll.down = s.toll.down := by
  by_cases same : t.tollCentre = s.tollCentre
  · rw [h.kept (.inl same)]
    exact ⟨rfl, rfl⟩
  · by_cases runs : Runs s
    · cases centre : t.tollCentre with
      | some k => rw [h.toward k runs same centre]; exact ⟨rfl, rfl⟩
      | none =>
        rw [h.closed runs same centre]
        split <;> exact ⟨rfl, rfl⟩
    · rw [h.kept (.inr runs)]
      exact ⟨rfl, rfl⟩

/-- R96: the fresh sync that a restart notice starts. -/
theorem Noticed.freshSync {v w : State} (noticed : Noticed n s v) (told : TollTold v w) (queued : Queued 19 v w)
    (clock : w.clock = s.clock) (kept : UnitsKept w t) (bound : s.toll.bound = some n) (chan : s.toll.chan ≠ .closed)
    (still : ¬Runs s ∨ t.tollCentre = s.tollCentre) : FreshSync s n t := by
  have ready := noticed.ready
  have centre : t.tollCentre = w.tollCentre := by
    simp only [State.tollCentre, State.heardOf, kept.station]
  have same : w.toll = v.toll := told.kept (still.symm.imp (fun e => (centre.symm.trans e).trans ready.centre.symm)
    (fun idle => mt ready.runs.mp idle))
  have base : ReadyToTell s (s.setToll (noticedToll n s.toll)) :=
    ⟨rfl, rfl, rfl, rfl, rfl, rfl, rfl, Iff.rfl, [], by decide, (List.append_nil _).symm⟩
  refine base.fresh (kept.toll.trans (same.trans (noticed.fresh bound chan))) (kept.clock.trans clock) fun room => ?_
  obtain ⟨xs, _, queue⟩ := queued.queue
  have offered := noticed.offers bound chan (Nat.lt_of_le_of_lt room (by decide))
  rw [kept.insert]
  have line : insertLine (s.setToll (noticedToll n s.toll)).fold = insertLine v.fold := by rw [ready.fold]; rfl
  rw [line, queue]
  exact List.mem_append_left _ offered

/-- R47: a HELLO of another station. -/
theorem hello_heard {l : Line} {c : Cell} (phase : s.phase ≠ .strapFault) (copied : Copied l c s) (hello : c.kind = 5) :
    ∃ t, exec (.cellArrives l c) s = .next t ∧ t.phase = s.phase ∧ t.straps = s.straps ∧ t.plates = s.plates ∧
       t.clock = s.clock ∧ t.station = { s.station with heard := t.station.heard } ∧
       ((readHello c.payload).duplicate = true → (s.heardOf c.source.toNat).present = false → t.station.heard = s.station.heard) ∧
       ((readHello c.payload).duplicate = true → (s.heardOf c.source.toNat).present = true →
         t.station.heard = s.station.heard.setIfInBounds c.source.toNat absentEntry) ∧
       ((readHello c.payload).duplicate = false → t.station.heard = s.station.heard.setIfInBounds c.source.toNat
         { present := true, refreshed := s.clock.now, stamp := some (readHello c.payload).stamp, fold := (readHello c.payload).fold,
           centre := (readHello c.payload).centre, tollReceive := (readHello c.payload).tollReceive }) ∧
       FollowsCentre s t ∧
       (¬Restarted (s.heardOf c.source.toNat) (readHello c.payload) → ¬Runs s ∨ t.tollCentre = s.tollCentre → t.toll = s.toll) ∧
       (Restarted (s.heardOf c.source.toNat) (readHello c.payload) →
         t.toll.receive = s.toll.receive.setIfInBounds c.source.toNat none ∧
         (∀ i : Fin 2, t.toll.down[i] =
           if s.toll.down[i].map (fun d => d.centre) = some c.source.toNat then none else s.toll.down[i]) ∧
         (s.toll.bound = some c.source.toNat → s.toll.chan ≠ .closed → ¬Runs s ∨ t.tollCentre = s.tollCentre →
           FreshSync s c.source.toNat t)) := by
  obtain ⟨t, exec, passed, kept⟩ := copied.hello hello
  obtain ⟨⟨good, formed, _⟩, _, other, _⟩ := copied
  have le : c.source.toNat ≤ 60 := by
    refine Decidable.byContradiction fun big => ?_
    exact Bool.eq_false_iff.mp formed ((malformed_iff c).mpr (.inr (.inl (by omega))))
  have told := helloCopied_told (s := validWord l s) (h := readHello c.payload) phase other le
  have ready : ReadyToTell s (noteRestart c.source.toNat (readHello c.payload) (validWord l s)) :=
    (noteRestart_ready ..).of_word
  have note := noteRestart_keeps c.source.toNat (readHello c.payload) (validWord l s)
  have seen : noteRestart c.source.toNat (readHello c.payload) (validWord l s) =
      if restartSeen (s.heardOf c.source.toNat) (readHello c.payload) then restartNotice c.source.toNat (validWord l s)
      else validWord l s := rfl
  generalize noteRestart c.source.toNat (readHello c.payload) (validWord l s) = v at told ready note seen
  generalize helloCopied c.source.toNat (readHello c.payload) (validWord l s) = w at told passed kept
  obtain ⟨ignored, table, told, keeps, queued⟩ := told
  have station : v.station = s.station := note.same .station (by decide)
  have entry : v.heardOf c.source.toNat = s.heardOf c.source.toNat := by rw [State.heardOf, station]; rfl
  have vclock : v.clock = s.clock := note.same .clock (by decide)
  have wclock : w.clock = v.clock := keeps.same .clock (by decide)
  have all : SameBut [.lines, .tx, .ring, .station, .call, .toll, .signs, .responses, .ports, .portCounts, .centre] s t :=
    ((validWord_keeps l s).mono rfl).trans ((note.mono rfl).trans ((keeps.mono rfl).trans (passed.mono rfl)))
  have straps : t.straps = s.straps := all.same .straps (by decide)
  have plates : t.plates = s.plates := all.same .plates (by decide)
  have clock : t.clock = s.clock := all.same .clock (by decide)
  have centre : t.tollCentre = w.tollCentre := by
    simp only [State.tollCentre, State.heardOf, kept.station]
  rw [entry, station, vclock] at table
  rw [entry, station] at ignored
  have heard : t.station = { s.station with heard := t.station.heard } := by
    rw [kept.station]
    by_cases skip : (readHello c.payload).duplicate = true ∧ (s.heardOf c.source.toNat).present = false
    · rw [ignored skip.1 skip.2]
    · rw [table fun d => Classical.byContradiction fun a => skip ⟨d, Bool.eq_false_iff.mpr a⟩]
  refine ⟨t, exec, by rw [State.phase, heard]; rfl, straps, plates, clock, heard, fun d a => ?_, fun d a => ?_, fun d => ?_,
    told.follows ready wclock kept, fun quiet still => ?_, fun restarted => ?_⟩
  · rw [kept.station, ignored d a]
  · rw [kept.station, table fun _ => a, heardAfter, if_pos d]
  · rw [kept.station, table fun d' => absurd (d'.symm.trans d) (by decide), heardAfter, if_neg (by rw [d]; nofun)]
  · rw [if_neg (mt (restartSeen_iff ..).mp quiet)] at seen
    rw [kept.toll, told.kept (still.symm.imp (fun e => (centre.symm.trans e).trans ready.centre.symm)
      (fun idle => mt ready.runs.mp idle)), seen]
    rfl
  · rw [if_pos ((restartSeen_iff ..).mpr restarted)] at seen
    have noticed : Noticed c.source.toNat (validWord l s) v := seen ▸ restartNotice_noticed ..
    obtain ⟨receive, down⟩ := told.tables
    refine ⟨?_, fun i => ?_, fun bound chan still => ?_⟩
    · rw [kept.toll, receive, noticed.receive]
      rfl
    · rw [kept.toll, down, noticed.down]
      exact Vector.getElem_map ..
    · exact (noticed.freshSync told queued (wclock.trans (note.same .clock (by decide))) kept bound chan still).of_word

/-- Settles O14: an entry that ages, and a copied HELLO. -/
theorem heardTableFollowsHellosAndAges : Obligations.HeardTableFollowsHellosAndAges := by
  intro s fresh runs follows
  exact ⟨fun n present _ le => heardEntry_expires present le, fun l c phase copied hello => hello_heard phase copied hello⟩

end Sys2Proof.Machine
end

section
/-! PROOFS. The entry to MUTE (R44, R45, R81, R89, R173, R181). -/

namespace Sys2Proof.Machine

variable {s t u : State} {p q : Port}

/-! ### Ports -/

theorem sendFrame_link (q p : Port) (f : Frame) (s : State) : (sendFrame q f s).ports[p].link = s.ports[p].link := by
  have kept (g : PortUnit → PortUnit) (same : ∀ u, (g u).link = u.link) : (modPort q g s).ports[p].link = s.ports[p].link := by
    rw [modPort_get]
    split
    · next own => subst own; exact same _
    · rfl
  unfold sendFrame
  split
  · exact kept _ fun _ => rfl
  · split
    · exact kept _ fun _ => rfl
    · rfl

theorem sendService_link (q p : Port) (f : Frame) (s : State) : (sendService q f s).ports[p].link = s.ports[p].link := by
  unfold sendService
  split
  · exact sendFrame_link ..
  · rfl

theorem settlePort_link (q p : Port) (s : State) : (settlePort q s).ports[p].link = s.ports[p].link := by
  unfold settlePort
  split
  · exact sendService_link ..
  · rfl

theorem settle_link (p : Port) (s : State) : (settle s).ports[p].link = s.ports[p].link := by
  unfold settle forPorts
  rw [settlePort_link, settlePort_link, settlePort_link, settlePort_link]

/-- R181: a station that is not ACTIVE offers no last PASS cell. -/
theorem sendGather_inactive (h : s.phase ≠ .active) :
    sendGather p s = modPort p (fun u => { u with gather := [], gatherTimer := none }) s := by
  unfold sendGather
  split
  · exact if_neg fun c => h c.1
  · rfl

/-- R45, R181: what the entry to MUTE leaves of the ports. -/
structure PortsMuted (ps : List Port) (s t : State) : Prop where
  keeps : SameBut [.ports, .portCounts] s t
  down : ∀ p ∈ ps, t.ports[p].link ≠ .pass
  stays : ∀ p : Port, s.ports[p].link ≠ .pass → t.ports[p].link ≠ .pass

theorem portMute_muted (mute : s.phase ≠ .active) (p : Port) : PortsMuted [p] s (portMute p s) := by
  unfold portMute
  split
  · rw [endPass, sendGather_inactive mute]
    have links (q : Port) : (sendIdent p (modPort p (fun u => { u with link := .down, silence := none, idleTimer := none, opening := none })
        (modPort p (fun u => { u with gather := [], gatherTimer := none }) s))).ports[q].link = if q = p then .down else s.ports[q].link := by
      rw [sendIdent, sendFrame_link, modPort_get]
      split
      · rfl
      · next other => rw [modPort_get, if_neg other]
    refine ⟨?_, fun q mem => ?_, fun q off => ?_⟩
    · exact (State.setPorts_keeps.mono rfl).trans ((State.setPorts_keeps.mono rfl).trans (sendIdent_keeps ..))
    · rw [links, if_pos (List.mem_singleton.mp mem)]
      nofun
    · rw [links]
      split
      · nofun
      · exact off
  · next off => exact ⟨.refl _ _, fun q mem => by rw [List.mem_singleton.mp mem]; exact off, fun _ => id⟩

theorem PortsMuted.trans {ps qs : List Port} (h : PortsMuted ps s t) (k : PortsMuted qs t u) : PortsMuted (ps ++ qs) s u :=
  ⟨h.keeps.trans k.keeps, fun p mem => (List.mem_append.mp mem).elim (fun a => k.stays p (h.down p a)) (k.down p),
    fun p off => k.stays p (h.stays p off)⟩

theorem PortsMuted.phase {ps : List Port} (h : PortsMuted ps s t) : t.phase = s.phase :=
  congrArg Station.phase (h.keeps.same .station (by decide))

theorem forPorts_portMute (mute : s.phase ≠ .active) : PortsMuted [0, 1, 2, 3] s (forPorts portMute s) := by
  have h0 := portMute_muted mute 0
  have h1 := h0.trans (portMute_muted (by rw [h0.phase]; exact mute) 1)
  have h2 := h1.trans (portMute_muted (by rw [h1.phase]; exact mute) 2)
  exact h2.trans (portMute_muted (by rw [h2.phase]; exact mute) 3)

/-! ### The call unit (R81) -/

/-- An entry of the station's own. -/
def OwnEntry (e : Circuit) : Prop := (∃ p x n, e = .ownClaiming p x n) ∨ ∃ p x, e = .ownHeld p x

theorem freeOwn_frees (s : State) (c k : Fin 16) :
    (OwnEntry (freeOwn s c).call.circuits[k] → OwnEntry s.call.circuits[k]) ∧ ¬OwnEntry (freeOwn s c).call.circuits[c] := by
  have freed : (OwnEntry (setCircuit c .free s).call.circuits[k] → OwnEntry s.call.circuits[k]) ∧
      ¬OwnEntry (setCircuit c .free s).call.circuits[c] := by
    rw [setCircuit_call]
    constructor
    · by_cases here : k = c
      · subst here
        rw [vector_get_set]
        rintro (⟨_, _, _, e⟩ | ⟨_, _, e⟩) <;> cases e
      · rw [vector_get_set_ne _ _ _ _ here]
        exact id
    · rw [vector_get_set]
      rintro (⟨_, _, _, e⟩ | ⟨_, _, e⟩) <;> cases e
  unfold freeOwn
  split
  · exact freed
  · exact freed
  · next claiming held =>
    refine ⟨id, ?_⟩
    rintro (⟨p, x, n, e⟩ | ⟨p, x, e⟩)
    · exact claiming _ _ _ e
    · exact held _ _ e

theorem foldl_freeOwn (l : List (Fin 16)) (s : State) (k : Fin 16) :
    (OwnEntry (l.foldl freeOwn s).call.circuits[k] → OwnEntry s.call.circuits[k]) ∧
      (k ∈ l → ¬OwnEntry (l.foldl freeOwn s).call.circuits[k]) := by
  induction l generalizing s with
  | nil => exact ⟨id, nofun⟩
  | cons c l ih =>
    obtain ⟨back, gone⟩ := ih (freeOwn s c)
    refine ⟨fun own => (freeOwn_frees s c k).1 (back own), fun mem => ?_⟩
    rcases List.mem_cons.mp mem with rfl | mem
    · exact fun own => (freeOwn_frees s k k).2 (back own)
    · exact gone mem

/-- R81: the call unit of a station that enters MUTE. -/
structure CallMuted (t : State) : Prop where
  idle : ∀ p : Port, t.call.phones[p].state = .idle
  requests : t.call.requests = []
  attempt : t.call.attempt = none
  circuits : ∀ k : Fin 16, ¬OwnEntry t.call.circuits[k]

theorem callMute_call (s : State) : (callMute s).call = { ((List.finRange 16).foldl freeOwn s).call with
    attempt := none, requests := [], holdAt := none
    phones := ((List.finRange 16).foldl freeOwn s).call.phones.map
      (fun ph => { quietPhone ph with state := .idle, reason := .none, backoff := none }) } := by
  rw [callMute, State.setCall_call]

theorem callMute_muted (s : State) : CallMuted (callMute s) := by
  have own (k : Fin 16) := (foldl_freeOwn (List.finRange 16) s k).2 (List.mem_finRange k)
  have call := callMute_call s
  generalize (List.finRange 16).foldl freeOwn s = v at own call
  refine ⟨fun p => ?_, ?_, ?_, fun k => ?_⟩ <;> rw [call]
  · exact congrArg Phone.state (Vector.getElem_map ..)
  · exact own k

theorem CallMuted.indicated (h : CallMuted s) (k : Indicated s t) : CallMuted t := by
  obtain ⟨requests, circuits, attempt, _⟩ := k.fields
  refine ⟨fun p => ?_, requests.trans h.requests, attempt.trans h.attempt, fun c => by rw [circuits]; exact h.circuits c⟩
  obtain ⟨x, phone⟩ := k.phones p
  rw [phone]
  exact h.idle p

/-! ### The entry to MUTE -/

/-- R45: the station that has become MUTE, its insert queues purged and the intake FIFO emptied. -/
def mutePurged (s : State) : State :=
  (purgeInserts (muted s)).setCentre { (muted s).centre with intake := [], paused := false }

theorem enterMute_eq (s : State) : enterMute s =
    forPorts portMute (weatherMute (forPorts signMuteOn (closeChannel (callMute (mutePurged s))))) := rfl

theorem keepMuteCells_kinds {qs : Queues} {x : Cell}
    (h : x ∈ (keepMuteCells qs).v ++ (keepMuteCells qs).c ++ (keepMuteCells qs).b) : x.kind = 5 ∨ x.kind = 6 := by
  simp only [keepMuteCells, List.mem_append, List.mem_filter, Bool.or_eq_true, decide_eq_true_eq] at h
  rcases h with (⟨-, h⟩ | ⟨-, h⟩) | ⟨-, h⟩ <;> exact h

/-- R44, R45, R81, R89, R173, R181: what the entry to MUTE leaves. -/
structure MuteEntered (s t : State) : Prop where
  station : t.station = { s.station with phase := .mute, duplicateFlag := true }
  inserts : ∀ k : Line, ∀ x ∈ (t.tx.get k).insert.v ++ (t.tx.get k).insert.c ++ (t.tx.get k).insert.b, x.kind = 5 ∨ x.kind = 6
  intake : t.centre.intake = []
  paused : t.centre.paused = false
  call : CallMuted t
  chan : t.toll.chan = .closed
  journal : t.toll.journal = allNew s.toll.journal
  weather : t.weather.pollTimer = none ∧ t.weather.alarmTimer = none ∧ t.weather.reply = none
  links : ∀ p : Port, t.ports[p].link ≠ .pass

theorem enterMute_entered (s : State) : MuteEntered s (settle (enterMute s)) := by
  have calls := callMute_muted (mutePurged s)
  have called := callMute_keeps (mutePurged s)
  rw [enterMute_eq]
  have base : (mutePurged s).station = { s.station with phase := .mute, duplicateFlag := true } := rfl
  have inserts (k : Line) (x : Cell) (mem : x ∈ ((mutePurged s).tx.get k).insert.v ++ ((mutePurged s).tx.get k).insert.c ++
      ((mutePurged s).tx.get k).insert.b) : x.kind = 5 ∨ x.kind = 6 := by
    cases k <;> exact keepMuteCells_kinds mem
  have intake : (mutePurged s).centre.intake = [] ∧ (mutePurged s).centre.paused = false := ⟨rfl, rfl⟩
  have toll : (mutePurged s).toll = s.toll := rfl
  generalize mutePurged s = a at *
  have closed := closeChannel_keeps (callMute a)
  have chan : (closeChannel (callMute a)).toll = closedToll (callMute a).toll := rfl
  generalize callMute a = b at *
  generalize closeChannel b = c at *
  have signs : SameBut [.signs] c (forPorts signMuteOn c) := forPorts_keeps signMuteOn_keeps
  generalize forPorts signMuteOn c = d at *
  have weather := weatherMute_keeps d
  have timers : (weatherMute d).weather.pollTimer = none ∧ (weatherMute d).weather.alarmTimer = none ∧
    (weatherMute d).weather.reply = none := ⟨rfl, rfl, rfl⟩
  generalize weatherMute d = e at *
  have early : SameBut [.call, .toll, .signs, .responses, .weather, .ports, .portCounts] a e :=
    (called.mono rfl).trans ((closed.mono rfl).trans ((signs.mono rfl).trans (weather.mono rfl)))
  have phase : e.phase ≠ .active := by
    rw [State.phase, show e.station = a.station from early.same .station (by decide), base]
    nofun
  have ports := forPorts_portMute phase
  generalize forPorts portMute e = f at *
  have settled := settle_keeps f
  have links (p : Port) := settle_link p f
  have indicated := settle_indicated f
  generalize settle f = t at *
  have late : SameBut [.call, .ports, .portCounts] e t := (ports.keeps.mono rfl).trans settled
  have all : SameBut [.call, .toll, .signs, .responses, .weather, .ports, .portCounts] a t := early.trans (late.mono rfl)
  have bcall : CallMuted f := by
    have call : f.call = b.call := Eq.trans (ports.keeps.same .call (by decide)) (Eq.trans (weather.same .call (by decide))
      (Eq.trans (signs.same .call (by decide)) (closed.same .call (by decide))))
    exact calls.indicated (.of_call call)
  have ttoll : t.toll = closedToll b.toll := by
    rw [show t.toll = e.toll from late.same .toll (by decide), show e.toll = d.toll from weather.same .toll (by decide),
      show d.toll = c.toll from signs.same .toll (by decide), chan]
  have btoll : b.toll = s.toll := Eq.trans (called.same .toll (by decide)) toll
  have tweather : t.weather = e.weather := late.same .weather (by decide)
  have tstation : t.station = a.station := all.same .station (by decide)
  have ttx : t.tx = a.tx := all.same .tx (by decide)
  have tcentre : t.centre = a.centre := all.same .centre (by decide)
  refine ⟨tstation.trans base, fun k x mem => inserts k x (by rw [ttx] at mem; exact mem), by rw [tcentre]; exact intake.1,
    by rw [tcentre]; exact intake.2, bcall.indicated indicated, by rw [ttoll]; rfl, by rw [ttoll, btoll]; rfl,
    by rw [tweather]; exact timers, fun p => ?_⟩
  rw [links]
  exact ports.down p (by match p with | 0 | 1 | 2 | 3 => decide)

/-- R17, R44: an own HELLO that comes home is shown to the station table and stripped, or passes on. -/
theorem Passes.own_hello {l : Line} {x : Cell} (h : Passes l x s) (own : s.own = some x.source.toNat) (hello : x.kind = 5)
    (all : x.dest = 255) : exec (.cellArrives l x) s = .next
      (if l = copyingLine (ownHelloShown (readHello x.payload).stamp (validWord l s)).fold then
        ownHelloShown (readHello x.payload).stamp (validWord l s)
      else forward l x (ownHelloShown (readHello x.payload).stamp (validWord l s))) := by
  have shown : showOwnHello x (validWord l s) = ownHelloShown (readHello x.payload).stamp (validWord l s) :=
    if_pos ⟨hello, own⟩
  have straps : (ownHelloShown (readHello x.payload).stamp (validWord l s)).own = s.own := by
    rw [(ownHelloShown_keeps ..).own_eq (by decide)]
    rfl
  have away : (ownHelloShown (readHello x.payload).stamp (validWord l s)).own ≠ some x.dest.toNat := by
    rw [all]
    exact fun e => absurd (own_le _ e) (by decide)
  rw [h.judged, shown]
  generalize ownHelloShown (readHello x.payload).stamp (validWord l s) = v at straps away ⊢
  by_cases here : l = copyingLine v.fold
  · rw [routeCell_stripped away (straps.trans own) here, if_pos here, strip, if_neg (by rw [all]; nofun),
      if_neg (by rw [hello]; decide)]
  · rw [routeCell_passing away fun e => here e.2, if_neg here, copyForward_uncopied fun e => here e.1]

theorem ownHelloShown_ignored {stamp : BitVec 16} (h : stamp = s.station.stamp ∨ s.phase ≠ .active) :
    ownHelloShown stamp s = s := if_neg fun c => h.elim c.1 (fun p => p c.2)

/-- Settles O15: an own HELLO is ignored or makes the station MUTE; then it is stripped, or passes on. -/
theorem ownHelloWithAnotherStampMutesTheStation : Obligations.OwnHelloWithAnotherStampMutesTheStation := by
  refine ⟨fun l c s own h hello all same line => ?_, fun l c s active own h hello all other => ?_⟩
  · have exec := h.own_hello own hello all
    rw [ownHelloShown_ignored (s := validWord l s) same, if_pos (by rw [validWord_fold]; exact copyingLine_eq line)] at exec
    exact exec
  · have exec := h.own_hello own hello all
    have shown : ownHelloShown (readHello c.payload).stamp (validWord l s) = settle (enterMute (validWord l s)) :=
      if_pos ⟨other, active⟩
    rw [shown] at exec
    obtain ⟨station, inserts, intake, paused, call, chan, journal, weather, links⟩ := enterMute_entered (validWord l s)
    generalize settle (enterMute (validWord l s)) = v at *
    obtain ⟨t, e, keeps, insert⟩ : ∃ t, (if l = copyingLine v.fold then v else forward l c v) = t ∧
        SameBut [.tx, .ring] v t ∧ ∀ k, (t.tx.get k).insert = (v.tx.get k).insert := by
      split
      · exact ⟨v, rfl, .refl _ _, fun _ => rfl⟩
      · exact ⟨_, rfl, forward_keeps .., fun k => forward_insert ..⟩
    rw [e] at exec
    have tstation : t.station = v.station := keeps.same .station (by decide)
    have tcentre : t.centre = v.centre := keeps.same .centre (by decide)
    have tcall : t.call = v.call := keeps.same .call (by decide)
    have ttoll : t.toll = v.toll := keeps.same .toll (by decide)
    have tweather : t.weather = v.weather := keeps.same .weather (by decide)
    have tports : t.ports = v.ports := keeps.same .ports (by decide)
    rw [← tcentre] at intake paused
    rw [← ttoll] at chan journal
    rw [← tweather] at weather
    rw [← tports] at links
    rw [← tstation] at station
    have calls : CallMuted t := call.indicated (.of_call tcall)
    refine ⟨t, exec, by rw [State.phase, station], by rw [station], by rw [station]; rfl, by rw [station]; rfl, fun k x mem => ?_,
      intake, paused, calls.idle, calls.requests, calls.attempt, fun k p x n => ⟨fun e => ?_, fun e => ?_⟩, chan, journal,
      weather.1, weather.2.1, weather.2.2, links⟩
    · rw [insert] at mem
      exact inserts k x mem
    · exact calls.circuits k (.inl ⟨p, x, n, e⟩)
    · exact calls.circuits k (.inr ⟨p, x, e⟩)

end Sys2Proof.Machine
end

section
/-! PROOFS. Downstream messages (R102 to R105), the receive table (R98 to R101) and records (R86). -/

namespace Sys2Proof.Machine

variable {p : Port} {s t u : State} {n : Nat}

/-! ### Cells handed to the toll unit -/

/-- R183: a delivered cell of no kind that the centre equipment gets. -/
theorem toCentre_kept {c : Cell} (h : deliveredKind c.kind = false) (s : State) : toCentre true c s = s := by
  unfold toCentre offerCentre
  rw [h]
  exact ite_self s

theorem handPlain_tollDown {c : Cell} {d own : Bool} (h : c.kind = kTollDown) : handPlain d own c s =
    whenActive (tollDownIn own d c.source.toNat (readTollBody c.payload)) s := by
  unfold handPlain
  simp only [h]
  rfl

theorem handPlain_tollAck {c : Cell} {own : Bool} (h : c.kind = kTollAck) : handPlain true own c s =
    whenActive (tollAck c.source.toNat (byteAt c.payload 0) (wordAt c.payload 1)) s := by
  unfold handPlain
  simp only [h]
  rfl

/-! ### Downstream messages -/

theorem toGantry_of {f : Frame} (port : s.portOf .toll = some p) : toGantry f s = sendService p f s := by
  rw [toGantry, State.tollPort, port]

theorem toGantry_waits {f : Frame} (port : s.portOf .toll = some p) (up : s.ports[p].link = .up)
    (busy : s.ports[p].sending ≠ none) (room : s.ports[p].queue.length < 128) :
    toGantry f s = s.setPorts (s.ports.set p { s.ports[p] with queue := s.ports[p].queue ++ [f] }) := by
  rw [toGantry_of port, sendService_waits busy up room]

theorem downEntryFor_bound {i : Fin 2} {c : Nat} {x : BitVec 16} (bound : s.toll.down[i] = some ⟨c, x⟩)
    (only : ∀ j : Fin 2, ∀ y, s.toll.down[j] = some ⟨c, y⟩ → j = i) : downEntryFor c s = some (i, false) := by
  unfold downEntryFor
  match i with
  | 0 => rw [bound]; exact if_pos rfl
  | 1 =>
    have other : s.toll.down[(0 : Fin 2)].map (·.centre) ≠ some c := fun e => by
      obtain ⟨⟨centre, y⟩, held, rfl⟩ := Option.map_eq_some_iff.mp e
      exact absurd (only 0 y held) (by decide)
    rw [if_neg other, bound]
    exact if_pos rfl

/-- R102, R103: a TOLL-DOWN from a heard centre, with a good length, whose entry is bound. -/
theorem tollDownIn_bound {i : Fin 2} {c : Nat} {x : BitVec 16} {q : TollBody} (port : s.portOf .toll = some p)
    (heard : s.centreHeard c = true) (good : 1 ≤ q.length ∧ q.length ≤ 48) (bound : s.toll.down[i] = some ⟨c, x⟩)
    (only : ∀ j : Fin 2, ∀ y, s.toll.down[j] = some ⟨c, y⟩ → j = i) : tollDownIn false true c q s =
      if s.inService p then downAgainst i c x q s else downUndelivered s := by
  rw [tollDownIn, State.tollPort, port]
  dsimp only
  rw [if_pos (by rw [heard, decide_eq_true good]; rfl), downAccepted, downEntryFor_bound bound only]
  dsimp only
  rw [bound]

/-- R104: DOWN-MSG joins the queue of a port that is sending. -/
theorem sendDown_waits {i : Fin 2} {c : Nat} {q : TollBody} (port : s.portOf .toll = some p) (up : s.ports[p].link = .up)
    (busy : s.ports[p].sending ≠ none) (room : s.ports[p].queue.length < 128) : sendDown i c q s =
      (s.setToll { s.toll with down := s.toll.down.set i (some ⟨c, q.number + 1⟩) }).setPorts
        (s.ports.set p { s.ports[p] with queue := s.ports[p].queue ++ [downMsgFrame c q.number q.body] }) := by
  rw [sendDown, toGantry_waits (s := setDown i (some ⟨c, q.number + 1⟩) s) port up busy room]
  rfl

theorem downAgainst_next {i : Fin 2} {c : Nat} {q : TollBody} : downAgainst i c q.number q s = sendDown i c q s := if_pos rfl

theorem downAgainst_repeat {i : Fin 2} {c : Nat} {x : BitVec 16} {q : TollBody} (before : isBefore q.number x = true) :
    downAgainst i c x q s =
      s.setToll { s.toll with counters := { s.toll.counters with downRepeats := bump s.toll.counters.downRepeats } } := by
  have other : q.number ≠ x := fun e => by
    rw [e] at before
    simp [isBefore] at before
  rw [downAgainst, if_neg other, if_pos before]
  rfl

theorem downAgainst_gap {i : Fin 2} {c : Nat} {x : BitVec 16} {q : TollBody} (other : q.number ≠ x)
    (after : isBefore q.number x = false) : downAgainst i c x q s =
      sendDown i c q (toGantry (gapFrame c x (q.number - 1)) (s.setToll { s.toll with counters := { s.toll.counters with
        downMissing := bumpBy s.toll.counters.downMissing (q.number - x).toNat } })) := by
  rw [downAgainst, if_neg other, after, if_neg nofun]
  rfl

/-- R104: a gap and the message behind it join the queue of a port that is sending. -/
theorem downAgainst_gap_waits {i : Fin 2} {c : Nat} {x : BitVec 16} {q : TollBody} (other : q.number ≠ x)
    (after : isBefore q.number x = false) (port : s.portOf .toll = some p) (up : s.ports[p].link = .up)
    (busy : s.ports[p].sending ≠ none) (room : s.ports[p].queue.length < 127) : downAgainst i c x q s =
      (s.setToll { s.toll with
        down := s.toll.down.set i (some ⟨c, q.number + 1⟩)
        counters := { s.toll.counters with
          downMissing := bumpBy s.toll.counters.downMissing (q.number - x).toNat } }).setPorts
        (s.ports.set p { s.ports[p] with
          queue := s.ports[p].queue ++ [gapFrame c x (q.number - 1), downMsgFrame c q.number q.body] }) := by
  rw [downAgainst_gap other after]
  generalize counted : s.setToll { s.toll with counters := { s.toll.counters with
    downMissing := bumpBy s.toll.counters.downMissing (q.number - x).toNat } } = w
  have ports : w.ports = s.ports := by rw [← counted]; rfl
  have gantry : w.portOf .toll = some p := by rw [← counted]; exact port
  rw [toGantry_waits gantry (by rw [ports]; exact up) (by rw [ports]; exact busy) (by rw [ports]; omega), ports]
  generalize gapped : w.setPorts (s.ports.set p { s.ports[p] with queue := s.ports[p].queue ++ [gapFrame c x (q.number - 1)] }) = v
  have unit : v.ports[p] = { s.ports[p] with queue := s.ports[p].queue ++ [gapFrame c x (q.number - 1)] } := by
    rw [← gapped]
    exact vector_get_set ..
  rw [sendDown_waits (by rw [← gapped]; exact gantry) (by rw [unit]; exact up) (by rw [unit]; exact busy)
    (by rw [unit, List.length_append, List.length_singleton]; omega), unit, ← gapped, ← counted, State.setPorts_ports,
    vector_set_set, List.append_assoc]
  rfl

/-- Settles O33: a message as expected, a repeat, or a gap and a message, behind the queue of a port that is sending. -/
theorem downstreamMessagesFollowTheirCounter : Obligations.DownstreamMessagesFollowTheirCounter := by
  intro l cell s p i c x k h kind active port source heard lo hi bound only number next body message gap
  subst source
  have exec : exec (.cellArrives l cell) s = .next
      (tollDownIn false true cell.source.toNat (readTollBody cell.payload) (validWord l s)) := by
    rw [h.exec (by rw [kind]; decide), handPlain_tollDown kind, whenActive_active (s := validWord l s) active,
      toCentre_kept (by rw [kind]; rfl)]
  have effect := tollDownIn_bound (s := validWord l s) (q := readTollBody cell.payload) port heard ⟨lo, hi⟩ bound only
  have keeps := tollDownIn_keeps false true cell.source.toNat (readTollBody cell.payload) (validWord l s)
  generalize tollDownIn false true cell.source.toNat (readTollBody cell.payload) (validWord l s) = t at exec effect keeps
  have word : (readTollBody cell.payload).number = k := number.symm
  refine ⟨t, exec, ((validWord_keeps l s).mono rfl).trans (keeps.mono rfl), fun off => ?_, fun up busy room =>
    ⟨fun next => ?_, fun before => ?_, fun other after => ?_⟩⟩
  · have out : (validWord l s).inService p = false := decide_eq_false off
    rw [out, if_neg nofun] at effect
    rw [effect]
    exact ⟨rfl, rfl⟩
  all_goals
    have service : (validWord l s).inService p = true := decide_eq_true up
    rw [service, if_pos rfl] at effect
  · rw [← word] at next
    rw [← next, downAgainst_next, sendDown_waits (s := validWord l s) port up busy (Nat.lt_of_lt_of_le room (by decide)), word] at effect
    rw [effect]
    exact ⟨rfl, rfl⟩
  · rw [← word] at before
    rw [downAgainst_repeat before] at effect
    rw [effect]
    exact ⟨rfl, rfl⟩
  · rw [← word] at other after
    rw [downAgainst_gap_waits (s := validWord l s) other after port up busy room, word] at effect
    rw [effect]
    exact ⟨rfl, rfl⟩

/-! ### The receive table -/

theorem checkGood_seal (c : Cell) : checkGood (sealCell c) = true := decide_eq_true rfl

theorem handPlain_plate {c : Cell} {d own : Bool} (h : c.kind = kPlate) : handPlain d own c s =
    whenActive (plateIn own c.source.toNat c.payload) s := by
  unfold handPlain
  simp only [h]
  rfl

/-- R110: a PLATE cell at a station without a SIGN port is a stray part. -/
theorem plateIn_stray {own : Bool} {payload : List Byte} (port : s.portOf .sign = none) : plateIn own n payload s =
    s.setPlates { s.plates with strayParts := bump s.plates.strayParts } :=
  if_neg (by rw [plateAllowed, port]; nofun)

/-- Station 10, a centre without a SIGN port, ACTIVE, its Line U UP and its CENTRE port sending an ALIVE frame. -/
def busyCentre : State :=
  let s := resetWith [] ⟨0, 0⟩ ⟨10, #v[5, 0, 0, 0]⟩
  { s with
    lines := ⟨{ resetLine 0 with state := .up }, resetLine 0⟩
    station := { s.station with phase := .active, listening := none }
    ports := Vector.replicate 4 { resetPort 0 with link := .up, sending := some ⟨aliveFrame, false⟩ } }

/-- A PLATE cell from station 2 for station 10. -/
def platePassing : Cell := sealCell ⟨12, 2, 10, 100, List.replicate 56 0, 0⟩

theorem platePassing_delivered : Delivered .u platePassing busyCentre :=
  ⟨⟨checkGood_seal _, by decide, rfl, by decide⟩, by decide, by decide⟩

theorem platePassing_exec : exec (.cellArrives .u platePassing) busyCentre = .next
    ((validWord .u busyCentre).setPlates { resetPlates with strayParts := 1 }) := by
  rw [platePassing_delivered.exec (by decide), handPlain_plate rfl, whenActive_active (s := validWord .u busyCentre) rfl,
    plateIn_stray (s := validWord .u busyCentre) (by decide +kernel), toCentre_kept rfl]
  rfl

/-- Refutes O32: its premises leave the kind of the delivered cell open, and its frame leaves out the plate store, where a
PLATE cell at a station without a SIGN port is counted as a stray part. -/
theorem not_receiveTableJudgesTollRecords : ¬Obligations.ReceiveTableJudgesTollRecords := by
  intro h
  obtain ⟨t, exec, keeps, _⟩ := h .u platePassing busyCentre 0 2 0 platePassing_delivered rfl (by decide +kernel) (by decide) rfl
    (by decide) rfl (by decide +kernel)
  rw [platePassing_exec] at exec
  cases exec
  have plates : ((validWord .u busyCentre).setPlates { resetPlates with strayParts := 1 }).plates = busyCentre.plates :=
    keeps.same .plates (by decide)
  exact absurd (congrArg PlateStore.strayParts plates) (by decide)

end Sys2Proof.Machine
end

section
/-! PROOFS. Records: the sending test (R92), intake (R86), the sync timer and the go-back (R90, R94), answers (R91, R93). -/

namespace Sys2Proof.Machine

variable {p : Port} {s t u : State} {n c : Nat}

/-! ### The sending test (R92) -/

/-- R7: the transmitters with cells at the tail of the B insert queue that R7 names. -/
def State.withBulk (s : State) (xs : List Cell) : Both Transmitter :=
  s.tx.set (insertLine s.fold) { s.tx.get (insertLine s.fold) with
    insert := { (s.tx.get (insertLine s.fold)).insert with b := s.insertQueue .b ++ xs } }

theorem withBulk_nil (s : State) : s.withBulk [] = s.tx := by
  rw [State.withBulk, List.append_nil]
  exact Both.set_get_self ..

/-- R92: the record as it is sent at a moment. -/
def TollRecord.sentAt (t : Time) (r : TollRecord) : TollRecord := { r with sent := some t }

/-- R92: the cell of a record. -/
def recordCell (c : Nat) (s : State) (r : TollRecord) : Cell :=
  originate kTollRec (natByte c) (tollBodyBytes r.number r.body) s

/-- R88, R92: the state with records sent: `a` were SENT before, `b` are NEW, and the oldest `m` of these go out. -/
def recordsSent (m c : Nat) (a b : List TollRecord) (s : State) : State :=
  (s.setTx (s.withBulk ((b.take m).map (recordCell c s)))).setToll { s.toll with
    journal := a ++ (b.take m).map (TollRecord.sentAt s.now) ++ b.drop m
    sendMark := (b.take m).foldl (fun mark r => some (newestSent mark r.number)) s.toll.sendMark }

theorem recordsSent_none {a b : List TollRecord} {m : Nat} (journal : s.toll.journal = a ++ b) (none : b.take m = []) :
    recordsSent m c a b s = s := by
  have rest : b.drop m = b := by
    have := List.take_append_drop m b
    rw [none] at this
    exact this
  rw [recordsSent, none, rest, List.map_nil, withBulk_nil, List.map_nil, List.append_nil, ← journal]
  rfl

theorem sendOldest_of {a : List TollRecord} (sent : ∀ r ∈ a, r.isSent = true) {r : TollRecord} (new : r.sent = none)
    (t : Time) (b : List TollRecord) : sendOldest t (a ++ r :: b) = some (r, a ++ r.sentAt t :: b) := by
  induction a with
  | nil =>
    rw [List.nil_append, sendOldest, show r.isSent = false by rw [TollRecord.isSent, new]; rfl]
    rfl
  | cons x a ih =>
    rw [List.cons_append, sendOldest, sent x (List.mem_cons_self ..), if_pos rfl,
      ih fun y hy => sent y (List.mem_cons_of_mem _ hy)]
    rfl

theorem sentCount_of {a b : List TollRecord} (sent : ∀ r ∈ a, r.isSent = true) (new : ∀ r ∈ b, r.sent = none) :
    sentCount (a ++ b) = a.length := by
  rw [sentCount, List.countP_append, List.countP_eq_length.mpr sent,
    List.countP_eq_zero.mpr fun r mem => by rw [TollRecord.isSent, new r mem]; nofun, Nat.add_zero]

theorem tollWants_of {a b : List TollRecord} (journal : s.toll.journal = a ++ b) (sent : ∀ r ∈ a, r.isSent = true)
    (new : ∀ r ∈ b, r.sent = none) : tollWants s = true ↔ s.toll.chan = .opened ∧ b ≠ [] ∧ a.length < 16 := by
  have any : (a ++ b).any (fun r => !r.isSent) = true ↔ b ≠ [] := by
    constructor
    · rintro h rfl
      obtain ⟨r, mem, out⟩ := List.any_eq_true.mp h
      rw [sent r (by rwa [List.append_nil] at mem)] at out
      cases out
    · intro h
      obtain ⟨r, rest, rfl⟩ := List.exists_cons_of_ne_nil h
      exact List.any_eq_true.mpr ⟨r, by simp, by rw [TollRecord.isSent, new r (List.mem_cons_self ..)]; rfl⟩
  rw [tollWants, Bool.and_eq_true, Bool.and_eq_true, decide_eq_true_eq, decide_eq_true_eq, journal, any, sentCount_of sent new,
    and_assoc]
  rfl

/-- One record is sent. -/
theorem sendRecord_sent {a b : List TollRecord} {r : TollRecord} (bound : s.toll.bound = some c)
    (journal : s.toll.journal = a ++ r :: b) (sent : ∀ r ∈ a, r.isSent = true) (new : r.sent = none)
    (room : (s.insertQueue .b).length < 32) : sendRecord s = recordsSent 1 c a (r :: b) s := by
  have offered : offer kTollRec (natByte c) (tollBodyBytes r.number r.body) s = (s.setTx (s.withBulk [recordCell c s r]), true) := by
    have e : s.insertRoom (classOf kTollRec) = true := decide_eq_true room
    rw [offer, if_pos e]
    rfl
  unfold sendRecord
  rw [bound, journal, sendOldest_of sent new]
  dsimp only
  rw [offered]
  have split : a ++ r.sentAt s.now :: b = a ++ [r.sentAt s.now] ++ b := by rw [List.append_assoc]; rfl
  rw [split]
  rfl

theorem recordsSent_queue (m : Nat) (a b : List TollRecord) (s : State) :
    (recordsSent m c a b s).insertQueue .b = s.insertQueue .b ++ (b.take m).map (recordCell c s) := by
  rw [State.insertQueue, show (recordsSent m c a b s).fold = s.fold from rfl,
    show (recordsSent m c a b s).tx = s.withBulk ((b.take m).map (recordCell c s)) from rfl, State.withBulk, Both.get_set_same]
  rfl

/-- One record, then `m` more. -/
theorem recordsSent_succ (m : Nat) (a b : List TollRecord) (r : TollRecord) (s : State) :
    recordsSent m c (a ++ [r.sentAt s.now]) b (recordsSent 1 c a (r :: b) s) = recordsSent (m + 1) c a (r :: b) s := by
  have queue := recordsSent_queue (c := c) 1 a (r :: b) s
  have tx : (recordsSent 1 c a (r :: b) s).withBulk ((b.take m).map (recordCell c s)) =
      s.withBulk (((r :: b).take (m + 1)).map (recordCell c s)) := by
    rw [State.withBulk, queue, show (recordsSent 1 c a (r :: b) s).fold = s.fold from rfl,
      show (recordsSent 1 c a (r :: b) s).tx = s.withBulk [recordCell c s r] from rfl, State.withBulk, Both.get_set_same,
      Both.set_set, State.withBulk, List.append_assoc]
    rfl
  have journal : a ++ [r.sentAt s.now] ++ (b.take m).map (TollRecord.sentAt s.now) ++ b.drop m =
      a ++ ((r :: b).take (m + 1)).map (TollRecord.sentAt s.now) ++ (r :: b).drop (m + 1) := by
    simp only [List.take_succ_cons, List.map_cons, List.drop_succ_cons, List.append_assoc, List.cons_append, List.nil_append]
  rw [recordsSent, show recordCell c (recordsSent 1 c a (r :: b) s) = recordCell c s from rfl, tx]
  rw [show (recordsSent 1 c a (r :: b) s).now = s.now from rfl, journal]
  rfl

/-- R92: the sending test sends the oldest NEW records, as many as 16 SENT ones and the B insert queue have room for. -/
theorem sendRecords_sent (k : Nat) {a b : List TollRecord} (s : State) (opened : s.toll.chan = .opened)
    (bound : s.toll.bound = some c) (journal : s.toll.journal = a ++ b) (sent : ∀ r ∈ a, r.isSent = true)
    (new : ∀ r ∈ b, r.sent = none) : sendRecords k s =
      recordsSent (min k (min (16 - a.length) (32 - (s.insertQueue .b).length))) c a b s := by
  induction k generalizing s a b with
  | zero => rw [Nat.zero_min, recordsSent_none journal rfl]; rfl
  | succ k ih =>
    by_cases going : tollWants s = true ∧ s.insertRoom .b = true
    · obtain ⟨wants, room⟩ := going
      obtain ⟨_, some, few⟩ := (tollWants_of journal sent new).mp wants
      obtain ⟨r, b, rfl⟩ := List.exists_cons_of_ne_nil some
      have free : (s.insertQueue .b).length < 32 := of_decide_eq_true room
      rw [sendRecords, wants, room, Bool.and_self, if_pos rfl,
        sendRecord_sent bound journal sent (new r (List.mem_cons_self ..)) free]
      have queue := recordsSent_queue (c := c) 1 a (r :: b) s
      have split : (recordsSent 1 c a (r :: b) s).toll.journal = a ++ [r.sentAt s.now] ++ b := rfl
      have sent' : ∀ x ∈ a ++ [r.sentAt s.now], x.isSent = true := fun x mem => by
        rcases List.mem_append.mp mem with old | last
        · exact sent x old
        · rw [List.mem_singleton.mp last]; rfl
      rw [ih (recordsSent 1 c a (r :: b) s) opened bound split sent' fun x mem => new x (List.mem_cons_of_mem _ mem),
        recordsSent_succ, queue]
      congr 1
      simp only [List.length_append, List.length_cons, List.length_nil, List.take_succ_cons, List.take_zero, List.map_cons, List.map_nil]
      omega
    · have idle : sendRecords (k + 1) s = s := by
        rw [sendRecords]
        exact if_neg fun h => going (Bool.and_eq_true_iff.mp h)
      rw [idle, recordsSent_none journal]
      by_cases wants : tollWants s = true
      · have full : ¬(s.insertQueue .b).length < 32 := fun room => going ⟨wants, decide_eq_true room⟩
        rw [show 32 - (s.insertQueue .b).length = 0 by omega, Nat.min_zero, Nat.min_zero, List.take_zero]
      · rw [tollWants_of journal sent new] at wants
        by_cases empty : b = []
        · rw [empty, List.take_nil]
        · have many : ¬a.length < 16 := fun few => wants ⟨opened, empty, few⟩
          rw [show 16 - a.length = 0 by omega, Nat.zero_min, Nat.min_zero, List.take_zero]

theorem testSend_sent {a b : List TollRecord} (opened : s.toll.chan = .opened) (bound : s.toll.bound = some c)
    (journal : s.toll.journal = a ++ b) (sent : ∀ r ∈ a, r.isSent = true) (new : ∀ r ∈ b, r.sent = none) :
    testSend s = recordsSent (min 16 (min (16 - a.length) (32 - (s.insertQueue .b).length))) c a b s :=
  sendRecords_sent 16 s opened bound journal sent new

/-! ### What the sending test leaves as it is -/

/-- The numbers and bodies of a journal. -/
def numbered (j : List TollRecord) : List (BitVec 16 × List Byte) := j.map (fun r => (r.number, r.body))

theorem sendOldest_numbered {now : Time} {j j' : List TollRecord} {r : TollRecord} (h : sendOldest now j = some (r, j')) :
    numbered j' = numbered j := by
  induction j generalizing j' with
  | nil => cases h
  | cons x j ih =>
    unfold sendOldest at h
    split at h
    · obtain ⟨⟨y, j''⟩, rest, e⟩ := Option.map_eq_some_iff.mp h
      cases e
      rw [numbered, List.map_cons, show j''.map (fun r => (r.number, r.body)) = _ from ih rest]
      rfl
    · cases h
      rfl

/-- R92: the sending test changes the send mark, and of the journal the moments of sending. -/
structure SendKept (s t : State) : Prop where
  keeps : SameBut [.tx, .toll] s t
  toll : t.toll = { s.toll with journal := t.toll.journal, sendMark := t.toll.sendMark }
  journal : numbered t.toll.journal = numbered s.toll.journal

theorem SendKept.refl (s : State) : SendKept s s := ⟨.refl _ _, rfl, rfl⟩

theorem SendKept.trans (h : SendKept s t) (k : SendKept t u) : SendKept s u :=
  ⟨h.keeps.trans k.keeps, by rw [k.toll, h.toll], k.journal.trans h.journal⟩

theorem sendRecord_sendKept (s : State) : SendKept s (sendRecord s) := by
  have keeps := sendRecord_keeps s
  unfold sendRecord at keeps ⊢
  split
  · next centre r j _ oldest =>
    have offered : (offer kTollRec (natByte centre) (tollBodyBytes r.number r.body) s).1.toll = s.toll :=
      (offer_keeps ..).same .toll (by decide)
    exact ⟨by simpa only [*] using keeps, by rw [State.setToll_toll, offered], sendOldest_numbered oldest⟩
  · exact .refl s

theorem sendRecords_sendKept (k : Nat) (s : State) : SendKept s (sendRecords k s) := by
  induction k generalizing s with
  | zero => exact .refl s
  | succ k ih =>
    unfold sendRecords
    split
    · exact (sendRecord_sendKept s).trans (ih _)
    · exact .refl s

theorem testSend_sendKept (s : State) : SendKept s (testSend s) := sendRecords_sendKept ..

/-! ### Intake (R86) -/

theorem portOf_first {k : Profile} (here : s.profile p = k) (first : ∀ q : Port, q < p → s.profile q ≠ k) :
    s.portOf k = some p := by
  unfold State.portOf
  match p with
  | 0 => rw [if_pos here]
  | 1 => rw [if_neg (first 0 (by decide)), if_pos here]
  | 2 => rw [if_neg (first 0 (by decide)), if_neg (first 1 (by decide)), if_pos here]
  | 3 => rw [if_neg (first 0 (by decide)), if_neg (first 1 (by decide)), if_neg (first 2 (by decide)), if_pos here]

/-- R176: a port unit that a frame is offered to, its queue having room. -/
def frameOffered (f : Frame) (now : Time) (u : PortUnit) : PortUnit :=
  match u.sending with
  | none => { u with sending := some ⟨f, false⟩, lastSent := now }
  | some _ => { u with queue := u.queue ++ [f] }

theorem frameOffered_idle {f : Frame} {now : Time} {u : PortUnit} (h : u.sending = none) :
    frameOffered f now u = { u with sending := some ⟨f, false⟩, lastSent := now } := by
  rw [frameOffered, h]

theorem frameOffered_busy {f : Frame} {now : Time} {u : PortUnit} (h : u.sending ≠ none) :
    frameOffered f now u = { u with queue := u.queue ++ [f] } := by
  unfold frameOffered
  split
  · next idle => exact absurd idle h
  · rfl

theorem sendService_offered {f : Frame} (up : s.ports[p].link = .up)
    (room : s.ports[p].sending ≠ none → s.ports[p].queue.length < 128) :
    sendService p f s = s.setPorts (s.ports.set p (frameOffered f s.clock.now s.ports[p])) := by
  rw [sendService_up up]
  by_cases idle : s.ports[p].sending = none
  · rw [sendFrame_starts idle, frameOffered_idle idle]
    rfl
  · rw [sendFrame_waits idle (room idle), frameOffered_busy idle]

/-- R86: what an answer makes of the port of the gantry. -/
def Answers (p : Port) (f : Frame) (s t : State) : Prop :=
  let heard := { s.ports[p] with silence := some (s.clock.now + 1000000000) }
  (heard.sending = none → t.ports = s.ports.set p { heard with sending := some ⟨f, false⟩, lastSent := s.clock.now }) ∧
    (heard.sending ≠ none → t.ports = s.ports.set p { heard with queue := heard.queue ++ [f] })

theorem Answers.of_ports {f : Frame} (h : t.ports = s.ports.set p (frameOffered f s.clock.now
    { s.ports[p] with silence := some (s.clock.now + 1000000000) })) : Answers p f s t := by
  refine ⟨fun idle => ?_, fun busy => ?_⟩ <;> rw [h]
  · rw [frameOffered_idle idle]
  · rw [frameOffered_busy busy]

/-- R177, R86: the state in which a RECORD is judged. -/
def recordHeard (p : Port) (s : State) : State :=
  s.setPorts (s.ports.set p { s.ports[p] with silence := some (s.clock.now + 1000000000) })

/-- R86: an answer to the gantry, the toll unit changed. -/
theorem toGantry_heard {f : Frame} (v : TollUnit) (serving : Serving .toll p s) (first : ∀ q : Port, q < p → s.profile q ≠ .toll)
    (room : s.ports[p].sending ≠ none → s.ports[p].queue.length < 128) :
    toGantry f ((recordHeard p s).setToll v) = ((recordHeard p s).setToll v).setPorts
      (s.ports.set p (frameOffered f s.clock.now { s.ports[p] with silence := some (s.clock.now + 1000000000) })) := by
  have unit : ((recordHeard p s).setToll v).ports[p] = { s.ports[p] with silence := some (s.clock.now + 1000000000) } :=
    vector_get_set ..
  have port : ((recordHeard p s).setToll v).portOf .toll = some p := portOf_first serving.1 first
  rw [toGantry_of port, sendService_offered (by rw [unit]; exact serving.2) (by rw [unit]; exact room), unit]
  refine congrArg (((recordHeard p s).setToll v).setPorts) ?_
  exact vector_set_set ..

/-- R86: an answer that refuses the record. -/
theorem record_refused {f : Frame} (counters : TollCounters) (serving : Serving .toll p s)
    (first : ∀ q : Port, q < p → s.profile q ≠ .toll) (room : s.ports[p].sending ≠ none → s.ports[p].queue.length < 128) :
    ∃ t, toGantry f ((recordHeard p s).setToll { s.toll with counters := counters }) = t ∧ SameBut [.tx, .toll, .ports] s t ∧
      t.toll = { s.toll with counters := counters } ∧ Answers p f s t ∧ t.tx = s.tx := by
  rw [toGantry_heard _ serving first room]
  exact ⟨_, rfl, (State.setPorts_keeps.mono rfl).trans ((State.setToll_keeps.mono rfl).trans (State.setPorts_keeps.mono rfl)),
    rfl, .of_ports rfl, rfl⟩

/-- R86: the toll unit with a record that has joined its journal. -/
def recordJoined (body : List Byte) (u : TollUnit) : TollUnit :=
  { u with journal := u.journal ++ [⟨u.next, body, none⟩], next := u.next + 1 }

theorem tollRecordIn_idle {body : List Byte} (h : ¬(s.phase = .starting ∨ s.phase = .active)) :
    tollRecordIn body s = recordBusy s := if_pos h

theorem tollRecordIn_bad {body : List Byte} (h : s.phase = .starting ∨ s.phase = .active)
    (bad : ¬(1 ≤ body.length ∧ body.length ≤ 48)) : tollRecordIn body s =
      toGantry rejectedFrame (modTollCounters (fun c => { c with rejected := bump c.rejected }) s) := by
  rw [tollRecordIn, if_neg (not_not_intro h), if_pos (by omega)]

theorem tollRecordIn_full {body : List Byte} (h : s.phase = .starting ∨ s.phase = .active)
    (good : 1 ≤ body.length ∧ body.length ≤ 48) (full : 128 ≤ s.toll.journal.length) : tollRecordIn body s = recordBusy s := by
  rw [tollRecordIn, if_neg (not_not_intro h), if_neg (by omega)]
  exact if_neg (Nat.not_lt.mpr full)

theorem tollRecordIn_taken {body : List Byte} (h : s.phase = .starting ∨ s.phase = .active)
    (good : 1 ≤ body.length ∧ body.length ≤ 48) (room : s.toll.journal.length < 128) : tollRecordIn body s =
      testSend (toGantry (takenFrame s.toll.next) (s.setToll (recordJoined body s.toll))) := by
  rw [tollRecordIn, if_neg (not_not_intro h), if_neg (by omega)]
  exact if_pos room

/-- R86, R92: the last record of a journal, the others SENT, is sent. -/
theorem testSend_last {a : List TollRecord} {r : TollRecord} (opened : s.toll.chan = .opened) (bound : s.toll.bound = some c)
    (journal : s.toll.journal = a ++ [r]) (sent : ∀ r ∈ a, r.sent ≠ none) (new : r.sent = none) (few : a.length < 16)
    (room : (s.insertQueue .b).length < 32) : testSend s = (s.setTx (s.withBulk [recordCell c s r])).setToll { s.toll with
      journal := a ++ [r.sentAt s.now], sendMark := some (newestSent s.toll.sendMark r.number) } := by
  have isSent : ∀ x ∈ a, x.isSent = true := fun x mem => Option.isSome_iff_ne_none.mpr (sent x mem)
  rw [testSend_sent opened bound journal isSent fun x mem => by rw [List.mem_singleton.mp mem]; exact new]
  obtain ⟨k, hk⟩ : ∃ k, min 16 (min (16 - a.length) (32 - (s.insertQueue .b).length)) = k + 1 :=
    ⟨min 16 (min (16 - a.length) (32 - (s.insertQueue .b).length)) - 1, by omega⟩
  rw [hk, recordsSent, List.take_succ_cons, List.take_nil, List.drop_succ_cons, List.drop_nil, List.append_nil]
  rfl

theorem newestSent_new {mark : Option (BitVec 16)} {m : BitVec 16}
    (new : ∀ x, mark = some x → atOrBefore m x = false) : newestSent mark m = m := by
  cases mark with
  | none => rfl
  | some x => rw [newestSent, new x rfl]; rfl

/-- R86, R92: a record that is taken: the answer, and the send that may follow. -/
theorem record_taken (body : List Byte) (serving : Serving .toll p s) (first : ∀ q : Port, q < p → s.profile q ≠ .toll)
    (room : s.ports[p].sending ≠ none → s.ports[p].queue.length < 128) :
    ∃ t, testSend (toGantry (takenFrame s.toll.next) ((recordHeard p s).setToll (recordJoined body s.toll))) = t ∧
      SameBut [.tx, .toll, .ports] s t ∧ Answers p ⟨65, wordBytes s.toll.next⟩ s t ∧
      t.toll.next = s.toll.next + 1 ∧ t.toll.delivered = s.toll.delivered ∧
      t.toll.journal.map (fun r => (r.number, r.body)) =
        s.toll.journal.map (fun r => (r.number, r.body)) ++ [(s.toll.next, body)] ∧
      (s.toll.chan ≠ .opened → t.tx = s.tx ∧ t.toll.journal = s.toll.journal ++ [⟨s.toll.next, body, none⟩]) ∧
      (∀ c, s.toll.chan = .opened → s.toll.bound = some c → (∀ r ∈ s.toll.journal, r.sent ≠ none) →
        s.toll.journal.length < 16 → (s.insertQueue .b).length < 32 →
        t.toll.journal = s.toll.journal ++ [⟨s.toll.next, body, some s.clock.now⟩] ∧
        ((∀ m, s.toll.sendMark = some m → atOrBefore s.toll.next m = false) → t.toll.sendMark = some s.toll.next) ∧
        t.tx = s.tx.set (insertLine s.fold) { s.tx.get (insertLine s.fold) with
          insert := { (s.tx.get (insertLine s.fold)).insert with b := s.insertQueue .b ++
            [originate 8 (natByte c) (wordBytes s.toll.next ++ natByte body.length :: body) s] } }) := by
  rw [toGantry_heard _ serving first room]
  generalize told : ((recordHeard p s).setToll (recordJoined body s.toll)).setPorts _ = v
  have keeps : SameBut [.tx, .toll, .ports] s v := by
    rw [← told]
    exact (State.setPorts_keeps.mono rfl).trans ((State.setToll_keeps.mono rfl).trans (State.setPorts_keeps.mono rfl))
  have toll : v.toll = recordJoined body s.toll := by rw [← told]; rfl
  have tx : v.tx = s.tx := by rw [← told]; rfl
  have now : v.now = s.clock.now := congrArg Clock.now (keeps.same .clock (by decide))
  have ports : v.ports = s.ports.set p (frameOffered (takenFrame s.toll.next) s.clock.now
      { s.ports[p] with silence := some (s.clock.now + 1000000000) }) := by rw [← told]; rfl
  have fold : v.fold = s.fold := keeps.fold_eq (by decide)
  have queue : v.insertQueue .b = s.insertQueue .b := by rw [State.insertQueue, fold, tx]; rfl
  have kept := testSend_sendKept v
  have sentPorts : (testSend v).ports = v.ports := kept.keeps.same .ports (by decide)
  refine ⟨testSend v, rfl, keeps.trans (kept.keeps.mono rfl), .of_ports (sentPorts.trans ports), by rw [kept.toll, toll]; rfl,
    by rw [kept.toll, toll]; rfl, ?_, fun closed => ?_, fun c opened bound sent few free => ?_⟩
  · refine kept.journal.trans ?_
    rw [toll]
    exact List.map_append
  · have idle : tollWants v = false := by
      rw [tollWants, toll, decide_eq_false (show ¬(recordJoined body s.toll).chan = .opened from closed)]
      rfl
    rw [testSend_of_idle idle, toll]
    exact ⟨tx, rfl⟩
  · rw [testSend_last (c := c) (a := s.toll.journal) (r := ⟨s.toll.next, body, none⟩) (by rw [toll]; exact opened)
      (by rw [toll]; exact bound) (by rw [toll]; rfl) sent rfl few (by rw [queue]; exact free), now, toll]
    refine ⟨rfl, fun new => congrArg some (newestSent_new new), ?_⟩
    rw [State.setToll_tx, State.setTx_tx, State.withBulk, fold, tx, queue, recordCell, originate, State.ownByte,
      show v.straps = s.straps from keeps.same .straps (by decide)]
    rfl

/-- Settles O29: one answer for each RECORD; a record that is taken may be sent in the same step. -/
theorem recordsJoinTheJournal : Obligations.RecordsJoinTheJournal := by
  intro p body s serving rx first room runs good heard answers
  have exec : exec (.record p body) s = .next (tollRecordIn body (recordHeard p s)) :=
    frame_served (i := .record p body) (f := .record body) (k := .toll) serving rx rfl rfl nofun rfl
  by_cases running : s.phase = .starting ∨ s.phase = .active
  · by_cases fine : 1 ≤ body.length ∧ body.length ≤ 48
    · rcases Nat.lt_or_ge s.toll.journal.length 128 with free | full
      · rw [tollRecordIn_taken (s := recordHeard p s) running fine free] at exec
        obtain ⟨t, e, keeps, answer, next, delivered, journal, closed, sends⟩ := record_taken body serving first room
        exact ⟨t, exec.trans (congrArg Host.Outcome.next e), keeps, fun idle => absurd running idle,
          fun _ bad => absurd fine bad, fun _ _ full => absurd free (Nat.not_lt.mpr full),
          fun _ _ _ => ⟨answer, next, delivered, journal, closed, sends⟩⟩
      · rw [tollRecordIn_full (s := recordHeard p s) running fine full] at exec
        obtain ⟨t, e, keeps, toll, answer, tx⟩ := record_refused (f := tollBusyFrame)
          { s.toll.counters with busy := bump s.toll.counters.busy } serving first room
        exact ⟨t, exec.trans (congrArg Host.Outcome.next e), keeps, fun idle => absurd running idle,
          fun _ bad => absurd fine bad, fun _ _ _ => ⟨toll, answer, tx⟩, fun _ _ free => absurd full (Nat.not_le.mpr free)⟩
    · rw [tollRecordIn_bad (s := recordHeard p s) running fine] at exec
      obtain ⟨t, e, keeps, toll, answer, tx⟩ := record_refused (f := rejectedFrame)
        { s.toll.counters with rejected := bump s.toll.counters.rejected } serving first room
      exact ⟨t, exec.trans (congrArg Host.Outcome.next e), keeps, fun idle => absurd running idle,
        fun _ _ => ⟨toll, answer, tx⟩, fun _ ok => absurd ok fine, fun _ ok => absurd ok fine⟩
  · rw [tollRecordIn_idle (s := recordHeard p s) running] at exec
    obtain ⟨t, e, keeps, toll, answer, tx⟩ := record_refused (f := tollBusyFrame)
      { s.toll.counters with busy := bump s.toll.counters.busy } serving first room
    exact ⟨t, exec.trans (congrArg Host.Outcome.next e), keeps, fun _ => ⟨toll, answer, tx⟩,
      fun up => absurd up running, fun up => absurd up running, fun up => absurd up running⟩

/-! ### The sync timer and the go-back (R90, R94) -/

theorem syncTimerExpires_eq {d : Time} (syncing : s.toll.chan = .syncing) (timer : s.toll.syncTimer = some d)
    (bound : s.toll.bound = some c) : exec .syncTimerExpires s = .next (offerCounted kTollSync (natByte c)
      (wordBytes s.toll.start) ((reach d s).setToll { s.toll with syncTimer := some (d + 500000000) })) := by
  refine congrArg Host.Outcome.next ?_
  rw [syncExpired, timer]
  dsimp only
  rw [if_pos syncing, offerSync, show ((reach d s).setToll { s.toll with syncTimer := some (d + Config.syncTime) }).toll.bound = some c
    from bound]
  rfl

/-- R94: the state in which the go-back sends again. -/
def goneBack (d : Time) (s : State) : State :=
  (reach d s).setToll { s.toll with journal := allNew s.toll.journal, expiries := s.toll.expiries + 1 }

theorem retransmitDeadline_eq {r : TollRecord} {sentAt progress : Time} (opened : s.toll.chan = .opened)
    (oldest : s.toll.journal.find? (fun r => r.sent.isSome) = some r) (sent : r.sent = some sentAt)
    (last : s.toll.progress = some progress) : exec .retransmitDeadline s = .next
      (if 8 ≤ s.toll.expiries + 1 then resync (goneBack (max progress sentAt + 400000000) s)
        else testSend (goneBack (max progress sentAt + 400000000) s)) := by
  refine congrArg Host.Outcome.next ?_
  have deadline : retransmitAt s.toll = some (max progress sentAt + 400000000) := by
    rw [retransmitAt, show s.toll.journal.find? (·.isSent) = some r from oldest]
    dsimp only
    rw [sent, last]
    rfl
  rw [retransmit, deadline]
  dsimp only
  rw [if_pos opened]
  rfl

theorem numbered_allNew (j : List TollRecord) : numbered (allNew j) = numbered j := by
  simp [numbered, allNew]

theorem recordCells_allNew (j : List TollRecord) (k : Nat) (s : State) :
    ((allNew j).take k).map (recordCell c s) = (j.take k).map (recordCell c s) := by
  rw [allNew, ← List.map_take, List.map_map]
  rfl

theorem sentAt_allNew (j : List TollRecord) (k : Nat) (now : Time) :
    ((allNew j).take k).map (TollRecord.sentAt now) = (j.take k).map (TollRecord.sentAt now) := by
  rw [allNew, ← List.map_take, List.map_map]
  rfl

theorem foldl_newestSent {m : BitVec 16} {j : List TollRecord} (at' : ∀ r ∈ j, atOrBefore r.number m = true) :
    j.foldl (fun mark r => some (newestSent mark r.number)) (some m) = some m := by
  induction j with
  | nil => rfl
  | cons r j ih =>
    rw [List.foldl_cons, newestSent, if_pos (at' r (List.mem_cons_self ..))]
    exact ih fun x mem => at' x (List.mem_cons_of_mem _ mem)

/-- R94: the records that the go-back sends again. -/
theorem testSend_goneBack (d : Time) (opened : s.toll.chan = .opened) (bound : s.toll.bound = some c) :
    testSend (goneBack d s) =
      recordsSent (min 16 (32 - (s.insertQueue .b).length)) c [] (allNew s.toll.journal) (goneBack d s) := by
  have fresh : ∀ r ∈ allNew s.toll.journal, r.sent = none := fun r mem => by
    obtain ⟨x, _, rfl⟩ := List.mem_map.mp mem
    rfl
  rw [testSend_sent (s := goneBack d s) (a := []) opened bound rfl nofun fresh]
  congr 1
  show min 16 (min (16 - 0) (32 - (s.insertQueue .b).length)) = _
  omega

/-- Settles O30: the sync timer is one offer; the go-back is a fresh sync, or the sending test over a journal of NEW records. -/
theorem syncTimerAndRetransmitDeadline : Obligations.SyncTimerAndRetransmitDeadline := by
  refine fun s c d bound => ⟨fun syncing timer => ?_, fun r sentAt progress opened oldest sent last => ?_⟩
  · have exec := syncTimerExpires_eq syncing timer bound
    have keeps := offerCounted_keeps kTollSync (natByte c) (wordBytes s.toll.start)
      ((reach d s).setToll { s.toll with syncTimer := some (d + 500000000) })
    refine ⟨_, exec, ?_, keeps.same .toll (by decide), fun room => ?_, fun full => ?_⟩
    · exact ((reach_keeps d s).mono rfl).trans ((State.setToll_keeps.mono rfl).trans (keeps.mono rfl))
    · rw [offerCounted_room rfl (s := (reach d s).setToll { s.toll with syncTimer := some (d + 500000000) }) room]
      exact ⟨rfl, withQueued_get ..⟩
    · rw [offerCounted_full rfl (s := (reach d s).setToll { s.toll with syncTimer := some (d + 500000000) }) full]
      exact ⟨rfl, rfl⟩
  · have exec := retransmitDeadline_eq opened oldest sent last
    have back : SameBut [.clock, .toll] s (goneBack (max progress sentAt + 400000000) s) :=
      ((reach_keeps ..).mono rfl).trans (State.setToll_keeps.mono rfl)
    rcases Nat.lt_or_ge s.toll.expiries 7 with few | eighth
    · rw [if_neg (by omega)] at exec
      have kept := testSend_sendKept (goneBack (max progress sentAt + 400000000) s)
      have sentAgain := testSend_goneBack (max progress sentAt + 400000000) opened bound
      have clock : (testSend (goneBack (max progress sentAt + 400000000) s)).clock = _ := kept.keeps.same .clock (by decide)
      have ring : (testSend (goneBack (max progress sentAt + 400000000) s)).ring = _ := kept.keeps.same .ring (by decide)
      refine ⟨_, exec, (back.mono rfl).trans (kept.keeps.mono rfl), clock, kept.journal.trans (numbered_allNew _),
        fun _ full => ?_, fun _ => ?_, fun many => absurd few (Nat.not_lt.mpr many)⟩
      · rw [testSend_of_full (s := goneBack (max progress sentAt + 400000000) s) (decide_eq_false (Nat.not_lt.mpr full))]
        exact ⟨rfl, rfl⟩
      · intro k records
        refine ⟨by rw [kept.toll]; exact opened, by rw [kept.toll]; rfl, ring, ?_, ?_, fun m mark before => ?_⟩
        · rw [clock, sentAgain]
          show [] ++ ((allNew s.toll.journal).take k).map (TollRecord.sentAt _) ++ (allNew s.toll.journal).drop k = _
          rw [sentAt_allNew, List.nil_append, allNew, ← List.map_drop]
          rfl
        · rw [sentAgain]
          show (goneBack (max progress sentAt + 400000000) s).withBulk (((allNew s.toll.journal).take k).map (recordCell c _)) = _
          rw [recordCells_allNew]
          rfl
        · rw [sentAgain]
          show ((allNew s.toll.journal).take k).foldl (fun mark r => some (newestSent mark r.number)) s.toll.sendMark = some m
          rw [mark]
          refine foldl_newestSent fun r mem => ?_
          rw [allNew, ← List.map_take] at mem
          obtain ⟨x, old, rfl⟩ := List.mem_map.mp mem
          exact before x old
    · rw [if_pos (by omega), resync, show (goneBack (max progress sentAt + 400000000) s).toll.bound = some c from bound] at exec
      have keeps := enterSyncing_keeps c (goneBack (max progress sentAt + 400000000) s)
      have toll := enterSyncing_toll c (goneBack (max progress sentAt + 400000000) s)
      have clock : (enterSyncing c (goneBack (max progress sentAt + 400000000) s)).clock = _ := keeps.same .clock (by decide)
      have journal : (syncingToward c (goneBack (max progress sentAt + 400000000) s)).journal = allNew s.toll.journal :=
        allNew_allNew _
      dsimp only at exec
      generalize enterSyncing c (goneBack (max progress sentAt + 400000000) s) = t at exec keeps toll clock
      refine ⟨t, exec, (back.mono rfl).trans (keeps.mono rfl), clock, ?_, fun few => absurd few (Nat.not_lt.mpr eighth),
        fun few => absurd few (Nat.not_lt.mpr eighth), fun _ => ?_⟩
      · rw [toll, journal]
        exact numbered_allNew _
      · rw [toll]
        exact ⟨rfl, rfl, rfl, rfl, journal⟩

end Sys2Proof.Machine
end

section
/-! PROOFS. Answers to this station's toll channel (R91, R93, R95), and IDENT at the TOLL port (R87, R178). -/

namespace Sys2Proof.Machine

variable {p : Port} {s t u : State} {c : Nat} {n : BitVec 16} {answer : Byte}

/-! ### What a TOLL-ACK does -/

theorem tollAck_stray (h : s.toll.bound ≠ some c ∨ (answer ≠ 1 ∧ answer ≠ 2 ∧ answer ≠ 3)) :
    tollAck c answer n s = strayAnswer s := by
  unfold tollAck
  by_cases bound : s.toll.bound = some c
  · rw [if_neg (not_not_intro bound)]
    exact if_pos (h.resolve_left (not_not_intro bound))
  · exact if_pos bound

section
variable (bound : s.toll.bound = some c)
include bound

theorem tollAck_syncing (chan : s.toll.chan = .syncing) (known : answer = 1 ∨ answer = 2 ∨ answer = 3) :
    tollAck c answer n s = if answer = ackSync then syncAnswer n s else s := by
  have code : ¬(answer ≠ ackPlain ∧ answer ≠ ackSync ∧ answer ≠ ackUnsynced) := fun ⟨a, b, d⟩ => by
    rcases known with e | e | e
    · exact a e
    · exact b e
    · exact d e
  rw [tollAck, if_neg (not_not_intro bound), if_neg code, chan]

theorem tollAck_opened (chan : s.toll.chan = .opened) (known : answer = 1 ∨ answer = 2 ∨ answer = 3) :
    tollAck c answer n s = if answer = ackPlain then plainAnswer n s
      else if answer = ackUnsynced then resync (modTollCounters (fun c => { c with unsynced := bump c.unsynced }) s)
      else s := by
  have code : ¬(answer ≠ ackPlain ∧ answer ≠ ackSync ∧ answer ≠ ackUnsynced) := fun ⟨a, b, d⟩ => by
    rcases known with e | e | e
    · exact a e
    · exact b e
    · exact d e
  rw [tollAck, if_neg (not_not_intro bound), if_neg code, chan]

end

/-- R91: the channel that a SYNC answer opens. -/
def channelOpened (s : State) : State :=
  s.setToll { s.toll with chan := .opened, syncTimer := none, progress := some s.now, sendMark := none }

theorem syncAnswer_start : syncAnswer s.toll.start s = testSend (channelOpened s) := if_pos rfl

/-- R93: the answer acknowledges a record that this channel has not sent since it opened. -/
theorem beyondMark_iff (mark : Option (BitVec 16)) (n : BitVec 16) :
    beyondMark mark n = true ↔ ∀ m, mark = some m → atOrBefore n m = false := by
  cases mark with
  | none => simp [beyondMark]
  | some m => simp [beyondMark]

theorem plainAnswer_beyond (h : beyondMark s.toll.sendMark n = true) : plainAnswer n s =
    resync (modTollCounters (fun c => { c with outOfStep := bump c.outOfStep }) s) := if_pos h

theorem plainAnswer_old (h : ¬beyondMark s.toll.sendMark n = true)
    (old : ∀ r ∈ s.toll.journal.head?, isBefore n r.number = true) : plainAnswer n s = s := by
  rw [plainAnswer, if_neg h]
  cases journal : s.toll.journal with
  | nil => rfl
  | cons r rest => exact if_pos (old r (by rw [journal]; rfl))

theorem plainAnswer_progress {r : TollRecord} {rest : List TollRecord} (h : ¬beyondMark s.toll.sendMark n = true)
    (journal : s.toll.journal = r :: rest) (fresh : isBefore n r.number = false) :
    plainAnswer n s = ackProgress r.number n s := by
  rw [plainAnswer, if_neg h, journal]
  exact if_neg (by rw [fresh]; nofun)

/-- R90: a fresh sync toward the bound centre; `j` is the journal before it. -/
structure Resynced (c : Nat) (j : List TollRecord) (t : State) : Prop where
  chan : t.toll.chan = .syncing
  bound : t.toll.bound = some c
  expiries : t.toll.expiries = 0
  mark : t.toll.sendMark = none
  journal : t.toll.journal = j.map (fun r => { r with sent := none })

theorem resync_resynced (bound : s.toll.bound = some c) :
    Resynced c s.toll.journal (resync s) ∧ (resync s).toll.counters = s.toll.counters := by
  rw [resync, bound]
  dsimp only
  have toll := enterSyncing_toll c s
  generalize enterSyncing c s = t at toll
  refine ⟨⟨?_, ?_, ?_, ?_, ?_⟩, ?_⟩ <;> rw [toll] <;> rfl

/-- R93: the journal without the records that an answer acknowledges. -/
def acknowledged (o n : BitVec 16) (s : State) : State :=
  s.setToll { s.toll with
    journal := recordsBehind o n s.toll.journal,
    delivered := (recordsThrough o n s.toll.journal).getLast?.map (·.number),
    expiries := 0, progress := some s.now }

/-- R93: what an answer that acknowledges records leaves. -/
structure Progressed (r : TollRecord) (n : BitVec 16) (s t : State) : Prop where
  expiries : t.toll.expiries = 0
  progress : t.toll.progress = some s.clock.now
  chan : t.toll.chan = s.toll.chan
  journal : numbered t.toll.journal = numbered (recordsBehind r.number n s.toll.journal)
  delivered : ∃ newest, (recordsThrough r.number n s.toll.journal).getLast? = some newest ∧
    t.toll.delivered = some newest.number ∧ ∀ p : Port, s.portOf .toll = some p →
      (s.ports[p].link ≠ .up → t.ports = s.ports ∧ t.portCounts = s.portCounts) ∧
      (s.ports[p].link = .up → (s.ports[p].sending ≠ none → s.ports[p].queue.length < 128) →
        t.ports = s.ports.set p (frameOffered (deliveredFrame newest.number) s.clock.now s.ports[p]))

theorem ackProgress_progressed {r : TollRecord} {rest : List TollRecord} (journal : s.toll.journal = r :: rest) :
    Progressed r n s (ackProgress r.number n s) := by
  obtain ⟨newest, last⟩ := recordsThrough_newest n r rest
  rw [← journal] at last
  have unfolded : ackProgress r.number n s = testSend (sendDelivered (acknowledged r.number n s)) := rfl
  have delivered : (acknowledged r.number n s).toll.delivered = some newest.number := by
    rw [acknowledged, last]
    rfl
  have kept := testSend_sendKept (sendDelivered (acknowledged r.number n s))
  have sent : sendDelivered (acknowledged r.number n s) = toGantry (deliveredFrame newest.number) (acknowledged r.number n s) := by
    rw [sendDelivered, delivered]
  have toll : (sendDelivered (acknowledged r.number n s)).toll = (acknowledged r.number n s).toll :=
    (sendDelivered_keeps _).same .toll (by decide)
  have ports : (ackProgress r.number n s).ports = (sendDelivered (acknowledged r.number n s)).ports :=
    kept.keeps.same .ports (by decide)
  have counts : (ackProgress r.number n s).portCounts = (sendDelivered (acknowledged r.number n s)).portCounts :=
    kept.keeps.same .portCounts (by decide)
  refine ⟨?_, ?_, ?_, ?_, newest, last, ?_, fun p port => ⟨fun off => ?_, fun up room => ?_⟩⟩
  · rw [unfolded, kept.toll, toll]; rfl
  · rw [unfolded, kept.toll, toll]; rfl
  · rw [unfolded, kept.toll, toll]; rfl
  · rw [unfolded, kept.journal, toll]; rfl
  · rw [unfolded, kept.toll, toll]; exact delivered
  · rw [ports, counts, sent, toGantry_of (s := acknowledged r.number n s) port, sendService_off (s := acknowledged r.number n s) off]
    exact ⟨rfl, rfl⟩
  · rw [ports, sent, toGantry_of (s := acknowledged r.number n s) port,
      sendService_offered (s := acknowledged r.number n s) up room]
    rfl

/-- R91: a delivered TOLL-ACK. -/
theorem delivered_tollAck {l : Line} {x : Cell} (h : Delivered l x s) (kind : x.kind = 9) (active : s.phase = .active) :
    exec (.cellArrives l x) s = .next
      (tollAck x.source.toNat (byteAt x.payload 0) (wordAt x.payload 1) (validWord l s)) := by
  rw [h.exec (by rw [kind]; decide), handPlain_tollAck kind, whenActive_active (s := validWord l s) active,
    toCentre_kept (by rw [kind]; rfl)]

theorem Resynced.fields {j : List TollRecord} (h : Resynced c j t) : t.toll.chan = .syncing ∧ t.toll.bound = some c ∧
    t.toll.expiries = 0 ∧ t.toll.sendMark = none ∧ t.toll.journal = j.map (fun r => { r with sent := none }) :=
  ⟨h.chan, h.bound, h.expiries, h.mark, h.journal⟩

/-- The first part of O31, for the cell that a station's own centre answers with. -/
theorem tollAck_drives (bound : s.toll.bound = some c) (t : State) (e : tollAck c answer n s = t) :
    (s.toll.chan = .syncing → answer = 2 → n = s.toll.start → t.toll.chan = .opened ∧ t.toll.syncTimer = none ∧
      t.toll.progress = some s.clock.now ∧ t.toll.bound = some c ∧ numbered t.toll.journal = numbered s.toll.journal) ∧
    (s.toll.chan = .syncing → (answer = 2 ∧ n ≠ s.toll.start) ∨ answer = 1 ∨ answer = 3 → t = s) ∧
    (s.toll.chan = .opened → answer = 2 → t = s) ∧
    (s.toll.chan = .opened → answer = 3 → Resynced c s.toll.journal t ∧
      t.toll.counters = { s.toll.counters with unsynced := bump s.toll.counters.unsynced }) ∧
    (s.toll.chan = .opened → answer = 1 → (∀ m, s.toll.sendMark = some m → atOrBefore n m = false) →
      Resynced c s.toll.journal t ∧
      t.toll.counters = { s.toll.counters with outOfStep := bump s.toll.counters.outOfStep }) ∧
    (s.toll.chan = .opened → answer = 1 → ¬(∀ m, s.toll.sendMark = some m → atOrBefore n m = false) →
      (∀ r ∈ s.toll.journal.head?, isBefore n r.number = true) → t = s) ∧
    (∀ r rest, s.toll.chan = .opened → answer = 1 → ¬(∀ m, s.toll.sendMark = some m → atOrBefore n m = false) →
      s.toll.journal = r :: rest → isBefore n r.number = false → Progressed r n s t) := by
  refine ⟨fun chan two start => ?_, fun chan other => ?_, fun chan two => ?_, fun chan three => ?_, fun chan one beyond => ?_,
    fun chan one within old => ?_, fun r rest chan one within journal fresh => ?_⟩
  · subst two start
    rw [tollAck_syncing bound chan (.inr (.inl rfl)), if_pos (by decide), syncAnswer_start] at e
    have kept := testSend_sendKept (channelOpened s)
    rw [e] at kept
    have toll := kept.toll
    refine ⟨by rw [toll]; rfl, by rw [toll]; rfl, by rw [toll]; rfl, by rw [toll]; exact bound, kept.journal⟩
  · rw [tollAck_syncing bound chan (other.elim (fun h => .inr (.inl h.1)) (Or.imp id .inr))] at e
    rw [← e]
    by_cases two : answer = ackSync
    · rw [if_pos two]
      refine if_neg fun start => ?_
      rcases other with ⟨_, ne⟩ | one | three
      · exact ne start
      · exact absurd (one.symm.trans two) (by decide)
      · exact absurd (three.symm.trans two) (by decide)
    · exact if_neg two
  · subst two
    rw [tollAck_opened bound chan (.inr (.inl rfl)), if_neg (by decide), if_neg (by decide)] at e
    exact e.symm
  · subst three
    rw [tollAck_opened bound chan (.inr (.inr rfl)), if_neg (by decide), if_pos (by decide)] at e
    have again := resync_resynced (s := modTollCounters (fun c => { c with unsynced := bump c.unsynced }) s) bound
    rw [e] at again
    exact again
  · subst one
    rw [tollAck_opened bound chan (.inl rfl), if_pos (by decide), plainAnswer_beyond ((beyondMark_iff ..).mpr beyond)] at e
    have again := resync_resynced (s := modTollCounters (fun c => { c with outOfStep := bump c.outOfStep }) s) bound
    rw [e] at again
    exact again
  · subst one
    rw [tollAck_opened bound chan (.inl rfl), if_pos (by decide), plainAnswer_old (mt (beyondMark_iff ..).mp within) old] at e
    exact e.symm
  · subst one
    rw [tollAck_opened bound chan (.inl rfl), if_pos (by decide),
      plainAnswer_progress (mt (beyondMark_iff ..).mp within) journal fresh] at e
    rw [← e]
    exact ackProgress_progressed journal

/-! ### IDENT -/

/-- R177: an IDENT at a port that reads frames. -/
theorem ident_exec {kind w h : Byte} (profile : s.profile p ≠ .none) (reads : s.ports[p].link ≠ .pass) (idle : s.rx[p] = none) :
    exec (.ident p kind w h) s =
      .next (identIn p kind (if kind = profileByte .sign then some (w, h) else none) s) := by
  rw [exec_frame (i := .ident p kind w h) rfl, frameArrives_whole profile reads idle rfl rfl]
  rfl

/-- R178: a TOLL port whose link is left. -/
theorem leaveTo_toll (profile : s.profile p = .toll) (link : Link) : leaveTo p link s = modPort p (fun u =>
    { u with link := link, queue := if u.link = .up then [] else u.queue }) s := by
  unfold leaveTo
  split
  · next up =>
    rw [tellLeft, show (modPort p (fun u => { u with link := link, queue := [] }) s).profile p = .toll from profile, modPort,
      modPort, if_pos up]
  · next off => rw [modPort, modPort, if_neg off]

theorem sendFrame_offered {f : Frame} (room : s.ports[p].sending ≠ none → s.ports[p].queue.length < 128) :
    sendFrame p f s = s.setPorts (s.ports.set p (frameOffered f s.clock.now s.ports[p])) := by
  by_cases idle : s.ports[p].sending = none
  · rw [sendFrame_starts idle, frameOffered_idle idle]
    rfl
  · rw [sendFrame_waits idle (room idle), frameOffered_busy idle]

/-- R177: the port unit of a TOLL port that an IDENT brings UP, before any frame is sent. -/
def broughtUp (now : Time) (u : PortUnit) : PortUnit :=
  { u with link := .up, queue := if u.link = .up then [] else u.queue, silence := some (now + 1000000000) }

theorem identRight_toll (profile : s.profile p = .toll) (size : Option (Byte × Byte)) : identRight p size s =
    sendDelivered (sendIdent p (modPort p (broughtUp s.clock.now) s)) := by
  have raised : restartSilence p (modPort p (fun u => { u with link := .up }) (leaveTo p .down s)) =
      modPort p (broughtUp s.clock.now) s := by
    rw [leaveTo_toll profile, restartSilence, modPort, modPort, modPort, modPort]
    simp only [State.setPorts_ports, vector_get_set, vector_set_set]
    rfl
  unfold identRight
  dsimp only
  rw [raised, setGeometry, if_neg (by rw [show (modPort p (broughtUp s.clock.now) s).profile p = .toll from profile]; nofun)]
  have straps : (sendIdent p (modPort p (broughtUp s.clock.now) s)).profile p = .toll := by
    rw [State.profile, show (sendIdent p (modPort p (broughtUp s.clock.now) s)).straps = _ from
      (sendIdent_keeps ..).same .straps (by decide)]
    exact profile
  rw [tellUp, straps]
  rfl

theorem portOf_profile {k : Profile} (h : s.portOf k = some p) : s.profile p = k := by
  unfold State.portOf at h
  split at h
  · next here => cases h; exact here
  · split at h
    · next here => cases h; exact here
    · split at h
      · next here => cases h; exact here
      · split at h
        · next here => cases h; exact here
        · cases h

/-- R87: the DELIVERED that a TOLL port is owed. -/
def owedDelivered (u : TollUnit) : List Frame :=
  match u.delivered with
  | some n => [(⟨68, wordBytes n⟩ : Frame)]
  | none => []

/-- R87: DELIVERED behind another frame. -/
theorem sendDelivered_owed (port : s.portOf .toll = some p) (up : s.ports[p].link = .up) (busy : s.ports[p].sending ≠ none)
    (room : s.ports[p].queue.length < 128) : (sendDelivered s).ports[p] =
      { s.ports[p] with queue := s.ports[p].queue ++ owedDelivered s.toll } := by
  unfold sendDelivered owedDelivered
  cases s.toll.delivered with
  | none => simp only [List.append_nil]
  | some n =>
    dsimp only
    rw [toGantry_waits port up busy room, State.setPorts_ports]
    exact vector_get_set ..

/-- R177, R87: the port of a gantry that an IDENT brings UP. -/
theorem identRight_gantry (port : s.portOf .toll = some p) (size : Option (Byte × Byte))
    (room : (if s.ports[p].link = .up then [] else s.ports[p].queue).length ≤ 126) :
    (identRight p size s).toll = s.toll ∧ (identRight p size s).ports[p] =
      { frameOffered (identFrame s.straps.number p .toll) s.clock.now (broughtUp s.clock.now s.ports[p]) with
        queue := (frameOffered (identFrame s.straps.number p .toll) s.clock.now (broughtUp s.clock.now s.ports[p])).queue ++
          owedDelivered s.toll } := by
  have profile := portOf_profile port
  rw [identRight_toll profile]
  have unit : (modPort p (broughtUp s.clock.now) s).ports[p] = broughtUp s.clock.now s.ports[p] := vector_get_set ..
  have frame : identFrame (modPort p (broughtUp s.clock.now) s).straps.number p
      ((modPort p (broughtUp s.clock.now) s).profile p) = identFrame s.straps.number p .toll :=
    congrArg (identFrame s.straps.number p) profile
  rw [sendIdent, frame, sendFrame_offered (s := modPort p (broughtUp s.clock.now) s)
    (fun _ => by rw [unit]; exact Nat.lt_of_le_of_lt room (by decide)), unit]
  generalize told : (modPort p (broughtUp s.clock.now) s).setPorts _ = v
  have vunit : v.ports[p] = frameOffered (identFrame s.straps.number p .toll) s.clock.now (broughtUp s.clock.now s.ports[p]) := by
    rw [← told]
    exact vector_get_set ..
  have toll : v.toll = s.toll := by rw [← told]; rfl
  have vport : v.portOf .toll = some p := by rw [← told]; exact port
  have state : v.ports[p].link = .up ∧ v.ports[p].sending ≠ none ∧ v.ports[p].queue.length < 128 := by
    rw [vunit]
    by_cases idle : (broughtUp s.clock.now s.ports[p]).sending = none
    · rw [frameOffered_idle idle]
      exact ⟨rfl, nofun, Nat.lt_of_le_of_lt room (by decide)⟩
    · rw [frameOffered_busy idle]
      refine ⟨rfl, idle, ?_⟩
      rw [List.length_append]
      exact Nat.lt_of_le_of_lt (Nat.add_le_add_right room 1) (by decide)
  obtain ⟨up, busy, free⟩ := state
  refine ⟨Eq.trans ((sendDelivered_keeps v).same .toll (by decide)) toll, ?_⟩
  rw [sendDelivered_owed vport up busy free, toll, vunit]

/-- Settles O31: what a TOLL-ACK does is the case of its source, its answer and the channel; DELIVERED is owed to a port that
comes UP. -/
theorem tollAcksDriveTheChannel : Obligations.TollAcksDriveTheChannel := by
  refine ⟨fun l cell s c answer n h kind active bound code number => ?_, fun p w x s port reads idle => ?_⟩
  · intro numbers syncsAgain beyond
    have exec := delivered_tollAck h kind active
    rw [← code, show wordAt cell.payload 1 = n from number.symm] at exec
    have keeps := tollAck_keeps cell.source.toNat answer n (validWord l s)
    refine ⟨_, exec, ((validWord_keeps l s).mono rfl).trans (keeps.mono rfl), fun other => ?_, fun own => ?_⟩
    · rw [tollAck_stray (s := validWord l s) (other.imp_left fun ne e => ne (Option.some.inj (e.symm.trans bound)))]
      exact ⟨rfl, rfl⟩
    · rw [own] at exec ⊢
      generalize e : tollAck c answer n (validWord l s) = t
      obtain ⟨opens, ignored, again, unsynced, out, old, progress⟩ := tollAck_drives (s := validWord l s) bound t e
      have same : t = validWord l s → t.toll = s.toll ∧ t.tx = s.tx := fun e => by rw [e]; exact ⟨rfl, rfl⟩
      refine ⟨opens, fun chan other => same (ignored chan other), fun chan two => same (again chan two), fun chan three => ?_,
        fun chan one far => ?_, fun chan one within before => same (old chan one within before),
        fun r rest chan one within journal fresh => ?_⟩
      · obtain ⟨resynced, counters⟩ := unsynced chan three
        exact ⟨resynced.fields, counters⟩
      · obtain ⟨resynced, counters⟩ := out chan one far
        exact ⟨resynced.fields, counters⟩
      · obtain ⟨expiries, since, kept, journal, newest, last, delivered, ports⟩ := progress r rest chan one within journal fresh
        refine ⟨expiries, since, kept.trans chan, journal, newest, last, delivered, fun p port => ?_⟩
        obtain ⟨off, up⟩ := ports p port
        refine ⟨off, fun serving idle => ?_, fun serving busy room => ?_⟩
        · rw [up serving fun busy => absurd idle busy, frameOffered_idle (u := (validWord l s).ports[p]) idle]
          rfl
        · rw [up serving fun _ => room, frameOffered_busy (u := (validWord l s).ports[p]) busy]
          rfl
  · intro own kept owed room
    have profile := portOf_profile port
    have exec := ident_exec (kind := 4) (w := w) (h := x) (by rw [profile]; nofun) reads idle
    rw [identIn, if_pos (show rightKind (s.profile p) 4 (if (4 : Byte) = profileByte .sign then some (w, x) else none) = true by
      rw [profile]; rfl)] at exec
    obtain ⟨toll, unit⟩ := identRight_gantry port (if (4 : Byte) = profileByte .sign then some (w, x) else none) room
    refine ⟨_, exec, toll, ?_, fun idle => ?_, fun busy => ?_⟩
    · rw [unit]
      by_cases idle : (broughtUp s.clock.now s.ports[p]).sending = none
      · rw [frameOffered_idle idle]; rfl
      · rw [frameOffered_busy idle]; rfl
    · rw [unit, frameOffered_idle (show (broughtUp s.clock.now s.ports[p]).sending = none from idle)]
      exact ⟨rfl, rfl⟩
    · rw [unit, frameOffered_busy (show (broughtUp s.clock.now s.ports[p]).sending ≠ none from busy)]
      exact List.append_assoc ..

end Sys2Proof.Machine
end

section
/-! PROOFS. What the plate store makes of a part (R109 to R115). A part 0 meets a store in which a slot is open for its plate,
both slots are open for others, or one is closed: the first two are the third after a slot is abandoned. -/

namespace Sys2Proof.Machine

variable {q : PlatePart} {now : Time} {st : PlateStore} {k : Fin 2} {sl : Slot}

/-! ### The part's check and the slot it finds -/

theorem partLength_zero (size parts : Nat) : partLength size parts 0 = if parts = 1 then size else 48 := by
  unfold partLength
  by_cases h : parts = 1
  · subst h
    simp
  · rw [if_neg h, if_neg fun e => h e.symm]
    rfl

theorem partZeroGood_iff : partZeroGood q = true ↔ q.plate ≤ 63 ∧ 1 ≤ q.width ∧ 1 ≤ q.height ∧ q.height ≤ 64 ∧
    (q.depth = 1 ∨ q.depth = 3) ∧ q.parts = partsNeeded (plateSize q.width q.height q.depth) ∧
    q.length = if q.parts = 1 then plateSize q.width q.height q.depth else 48 := by
  rw [partZeroGood, decide_eq_true_eq, partLength_zero]

theorem partFits_iff : partFits q sl = true ↔ q.index = sl.expected ∧ q.width = sl.width ∧ q.height = sl.height ∧
    q.depth = sl.depth ∧ q.parts = sl.parts ∧ q.length = (if q.index + 1 = sl.parts
      then plateSize sl.width sl.height sl.depth - 48 * (sl.parts - 1) else 48) := by
  rw [partFits, decide_eq_true_eq]
  rfl

theorem slotFor_none {n : Nat} (h : ∀ (j : Fin 2) x, st.slots[j] = some x → x.plate ≠ n) : slotFor n st = none := by
  cases e : slotFor n st with
  | none => rfl
  | some k =>
    obtain ⟨x, ex, hx⟩ := slotFor_eq_some e
    exact absurd hx (h k x ex)

/-- The slot for a plate is the lowest that is open for it. -/
theorem slotFor_some {n : Nat} (open' : st.slots[k] = some sl) (plate : sl.plate = n)
    (lower : ∀ j : Fin 2, j < k → ∀ x, st.slots[j] = some x → x.plate ≠ n) : slotFor n st = some k := by
  have here : (st.slots[k].map (·.plate)) = some n := by rw [open', Option.map_some, plate]
  unfold slotFor
  match k, here, lower with
  | 0, here, _ => exact if_pos here
  | 1, here, lower =>
    have no : ¬(st.slots[(0 : Fin 2)].map (·.plate)) = some n := fun e => by
      obtain ⟨x, ex, hx⟩ := Option.map_eq_some_iff.mp e
      exact lower 0 (by decide) x ex hx
    exact (if_neg no).trans (if_pos here)

theorem abandonSame_open {n : Nat} (h : slotFor n st = some k) :
    abandonSame n st = { abandonSlot k st with loadBroken := bump st.loadBroken } := by simp only [abandonSame, h]

theorem abandonSame_none {n : Nat} (h : ∀ (j : Fin 2) x, st.slots[j] = some x → x.plate ≠ n) : abandonSame n st = st := by
  simp only [abandonSame, slotFor_none h]

theorem makeSlotRoom_full {x y : Slot} (h0 : st.slots[(0 : Fin 2)] = some x) (h1 : st.slots[(1 : Fin 2)] = some y) :
    makeSlotRoom st =
      { abandonSlot (if x.order < y.order then 0 else 1) st with displaced := bump st.displaced } := by
  simp only [makeSlotRoom, h0, h1]

theorem makeSlotRoom_room (closed : st.slots[k] = none) : makeSlotRoom st = st := by
  unfold makeSlotRoom
  split
  · next a b h0 h1 =>
    match k, closed with
    | 0, closed => cases h0.symm.trans closed
    | 1, closed => cases h1.symm.trans closed
  · rfl

theorem closedSlot_eq (closed : st.slots[k] = none) (lower : ∀ j : Fin 2, j < k → st.slots[j] ≠ none) :
    closedSlot st = k := by
  unfold closedSlot
  match k, closed, lower with
  | 0, closed, _ => exact if_pos (Option.isNone_iff_eq_none.mpr closed)
  | 1, _, lower => exact if_neg fun e => lower 0 (by decide) (Option.isNone_iff_eq_none.mp e)

/-! ### The run of blocks (R112) -/

theorem isFree_iff {b : Vector Owner 256} {i : Nat} : isFree b i = true ↔ b[i]? = some .free := by
  rw [isFree, decide_eq_true_eq]

theorem runFree_iff {b : Vector Owner 256} {need i : Nat} :
    ((List.range need).all fun j => isFree b (i + j)) = true ↔ ∀ j, j < need → b[i + j]? = some .free := by
  simp only [List.all_eq_true, List.mem_range, isFree_iff]

theorem findRun_none {b : Vector Owner 256} {need : Nat} (h : ∀ first, ¬∀ j, j < need → b[first + j]? = some .free) :
    findRun b need = none :=
  List.find?_eq_none.mpr fun i _ e => h i (runFree_iff.mp e)

theorem findRun_lowest {b : Vector Owner 256} {need first : Nat} (pos : 0 < need)
    (run : ∀ j, j < need → b[first + j]? = some .free)
    (lowest : ∀ lower, lower < first → ¬∀ j, j < need → b[lower + j]? = some .free) : findRun b need = some first := by
  have last : first + (need - 1) < 256 := by
    refine Decidable.byContradiction fun hn => ?_
    have := run (need - 1) (by omega)
    rw [Vector.getElem?_eq_none (Nat.le_of_not_lt hn)] at this
    cases this
  rw [findRun, List.find?_range_eq_some]
  refine ⟨runFree_iff.mpr run, List.mem_range.mpr (by omega), fun j hj => ?_⟩
  rw [Bool.not_eq_true']
  exact Bool.eq_false_iff.mpr fun e => lowest j hj (runFree_iff.mp e)

/-! ### Part 0 (R112) -/

section
variable (zero : q.index = 0)
include zero

theorem platePart_bad (h : ¬partZeroGood q = true) :
    platePart q now st = ({ st with plateRange := bump st.plateRange }, none) := by
  rw [platePart, if_pos zero, loadOpen, if_neg h]

/-- The store acts on a good part 0 as on the store with the slots made ready. -/
theorem platePart_ready (good : partZeroGood q = true) {st' : PlateStore}
    (ready : makeSlotRoom (abandonSame q.plate st) = makeSlotRoom (abandonSame q.plate st')) :
    platePart q now st = platePart q now st' := by
  simp only [platePart, if_pos zero, loadOpen, if_pos good, ready]

theorem platePart_open (good : partZeroGood q = true) (closed : st.slots[k] = none)
    (fresh : ∀ (j : Fin 2) x, st.slots[j] = some x → x.plate ≠ q.plate) {first : Nat}
    (run : findRun st.blocks (blocksNeeded (plateSize q.width q.height q.depth)) = some first) :
    platePart q now st = openSlot q first (blocksNeeded (plateSize q.width q.height q.depth)) now st := by
  simp only [platePart, if_pos zero, loadOpen, if_pos good, abandonSame_none fresh, makeSlotRoom_room closed, run]

theorem platePart_storeFull (good : partZeroGood q = true) (closed : st.slots[k] = none)
    (fresh : ∀ (j : Fin 2) x, st.slots[j] = some x → x.plate ≠ q.plate)
    (full : findRun st.blocks (blocksNeeded (plateSize q.width q.height q.depth)) = none) :
    platePart q now st = ({ st with storeFull := bump st.storeFull }, none) := by
  simp only [platePart, if_pos zero, loadOpen, if_pos good, abandonSame_none fresh, makeSlotRoom_room closed, full]

end

/-- The slots with slot `k` closed again. -/
theorem slots_reclosed (closed : st.slots[k] = none) (x : Option Slot) : (st.slots.set k x).set k none = st.slots := by
  rw [vector_set_set, ← closed, vector_set_self]

/-- R115: the blocks of a load that opens and commits in one step. -/
theorem blocks_opened_committed {b : Vector Owner 256} {first need n : Nat} (h : ∀ i : Fin 256, b[i] ≠ .slot k) :
    giveBlocks (giveBlocks (giveRun b first need (.slot k)) (.plate n) .free) (.slot k) (.plate n) =
      b.mapIdx (fun i o => if first ≤ i ∧ i < first + need then .plate n else if o = .plate n then .free else o) := by
  ext i hi
  have other : b[i] ≠ .slot k := h ⟨i, hi⟩
  simp only [giveBlocks, giveRun, Vector.getElem_map, Vector.getElem_mapIdx]
  by_cases run : first ≤ i ∧ i < first + need
  · simp [run]
  · simp only [run, if_false]
    by_cases e : b[i] = .plate n
    · simp [e]
    · simp [e, other]

/-- R115: the blocks of a load that commits. -/
theorem blocks_committed (b : Vector Owner 256) (n : Nat) :
    giveBlocks (giveBlocks b (.plate n) .free) (.slot k) (.plate n) =
      b.map (fun o => if o = Owner.slot k then .plate n else if o = .plate n then .free else o) := by
  ext i hi
  simp only [giveBlocks, Vector.getElem_map]
  by_cases e : b[i] = .plate n
  · simp [e]
  · simp [e]

theorem commitSlot_open (h : st.slots[k] = some sl) : commitSlot k st = ({ st with
    blocks := st.blocks.map (fun o => if o = Owner.slot k then .plate sl.plate else if o = .plate sl.plate then .free else o)
    dir := st.dir.setIfInBounds sl.plate (some ⟨sl.width, sl.height, sl.depth, sl.first, sl.count⟩)
    slots := st.slots.set k none }, some sl.plate) := by
  simp only [commitSlot, h, blocks_committed]

/-- R112 step 5: what a load that opens makes of the store. -/
theorem openSlot_opened {first need : Nat} (closed : closedSlot st = k) (free : st.slots[k] = none) :
    ∃ (t : PlateStore) (reported : Option Nat), openSlot q first need now st = (t, reported) ∧
      t.mem = memWriteAll st.mem (first * 256) q.data ∧
      (2 ≤ q.parts → reported = none ∧ t = { st with
        mem := t.mem, accepted := st.accepted + 1, blocks := giveRun st.blocks first need (.slot k),
        slots := st.slots.set k (some { plate := q.plate, width := q.width, height := q.height, depth := q.depth,
                                        parts := q.parts, expected := 1, first := first, count := need,
                                        lastPart := now, order := st.accepted, timer := now + 2000000000 }) }) ∧
      (q.parts = 1 → (∀ i : Fin 256, st.blocks[i] ≠ .slot k) → reported = some q.plate ∧ t = { st with
        mem := t.mem, accepted := st.accepted + 1,
        blocks := st.blocks.mapIdx (fun i o => if first ≤ i ∧ i < first + need then .plate q.plate
          else if o = .plate q.plate then .free else o),
        dir := st.dir.setIfInBounds q.plate (some ⟨q.width, q.height, q.depth, first, need⟩) }) := by
  subst closed
  unfold openSlot
  dsimp only
  by_cases one : q.parts = 1
  · rw [if_pos one]
    simp only [commitSlot, slots_set_self, slots_reclosed free]
    refine ⟨_, _, rfl, rfl, fun two => by omega, fun _ noBlock => ?_⟩
    rw [blocks_opened_committed noBlock]
    exact ⟨rfl, rfl⟩
  · rw [if_neg one]
    exact ⟨_, _, rfl, rfl, fun _ => ⟨rfl, rfl⟩, fun e => absurd e one⟩

/-- The memory of a part that is accepted, byte by byte. -/
theorem written_memory {m m' : List Host.Cell} {a : Nat} {bytes : List Byte} (e : m' = memWriteAll m a bytes)
    (wf : memWf m = true) : memWf m' = true ∧
      ∀ x, memRead m' x = if a ≤ x ∧ x < a + bytes.length then bytes.getD (x - a) 0 else memRead m x := by
  subst e
  exact ⟨memWf_memWriteAll wf, memRead_memWriteAll wf⟩

theorem blocksNeeded_pos (h : partZeroGood q = true) : 0 < blocksNeeded (plateSize q.width q.height q.depth) := by
  obtain ⟨_, w, hh, _⟩ := partZeroGood_iff.mp h
  have row : 1 ≤ rowBytes q.width q.depth := by unfold rowBytes; split <;> omega
  have size : 1 ≤ plateSize q.width q.height q.depth := Nat.mul_pos hh row
  unfold blocksNeeded
  omega

/-- Settles O34: an abandoned slot leaves the store of the third case, where `findRun` takes the lowest run. -/
theorem platePartZeroOpensALoad : Obligations.PlatePartZeroOpensALoad := by
  intro q now st zero size need legal run abandoned other
  have good : partZeroGood q = true ↔ legal := partZeroGood_iff
  refine ⟨fun bad => platePart_bad zero fun h => bad (good.mp h), fun k x ok open' plate others => ?_,
    fun x y ok h0 h1 hx hy => ?_, fun k ok closed lower others => ?_⟩
  · have found : slotFor q.plate st = some k := slotFor_some open' plate fun j hj => others j (Fin.ne_of_lt hj)
    refine platePart_ready zero (good.mpr ok) (congrArg makeSlotRoom ((abandonSame_open found).trans ?_))
    refine (abandonSame_none fun j y e => ?_).symm
    obtain ⟨ne, e⟩ := slots_close (st := st) e
    exact others j ne y e
  · have fresh (j : Fin 2) (z : Slot) (e : st.slots[j] = some z) : z.plate ≠ q.plate := by
      match j, e with
      | 0, e => cases h0.symm.trans e; exact hx
      | 1, e => cases h1.symm.trans e; exact hy
    refine platePart_ready zero (good.mpr ok) ?_
    rw [abandonSame_none fresh, makeSlotRoom_full h0 h1, abandonSame_none fun j z e => fresh j z (slots_close (st := st) e).2]
    exact (makeSlotRoom_room (k := if x.order < y.order then 0 else 1) (slots_set_self st _ none)).symm
  · have fresh (j : Fin 2) (z : Slot) (e : st.slots[j] = some z) : z.plate ≠ q.plate :=
      others j (fun same => by subst same; cases closed.symm.trans e) z e
    refine ⟨fun full => platePart_storeFull zero (good.mpr ok) closed fresh (findRun_none full),
      fun first here lowest => ?_⟩
    · rw [platePart_open zero (good.mpr ok) closed fresh
        (findRun_lowest (blocksNeeded_pos (good.mpr ok)) here lowest)]
      obtain ⟨t, reported, e, mem, many, one⟩ :=
        openSlot_opened (q := q) (now := now) (first := first) (need := need) (closedSlot_eq closed lower) closed
      exact ⟨t, reported, e, written_memory mem, many, one⟩

/-! ### Later parts (R113, R114) -/

theorem laterPart_open (found : slotFor q.plate st = some k) (open' : st.slots[k] = some sl) :
    laterPart q now st = if partFits q sl then
        let st' : PlateStore := { st with
          mem := memWriteAll st.mem (sl.first * 256 + 48 * q.index) q.data, accepted := st.accepted + 1,
          slots := st.slots.set k (some { sl with expected := sl.expected + 1, lastPart := now, order := st.accepted,
                                                  timer := now + 2000000000 }) }
        if q.index + 1 = sl.parts then commitSlot k st' else (st', none)
      else ({ abandonSlot k st with loadBroken := bump st.loadBroken }, none) := by
  unfold laterPart
  simp only [found, open']
  rfl

theorem partExpired_eq {s : State} (h : s.plates.slots[k] = some sl) : partExpired k s =
    (reach sl.timer s).setPlates { abandonSlot k s.plates with loadBroken := bump s.plates.loadBroken } := by
  simp only [partExpired, h]

/-- Settles O35, by what the slot for the plate holds. -/
theorem laterPartsFollowTheirSlot : Obligations.LaterPartsFollowTheirSlot := by
  refine ⟨fun q now st later => ⟨fun fresh => ?_, fun k sl open' plate lower => ?_⟩, fun k sl s open' => ?_⟩
  · rw [platePart, if_neg later, laterPart, slotFor_none fresh]
  · intro size fits
    have fit : partFits q sl = true ↔ fits := partFits_iff
    rw [platePart, if_neg later, laterPart_open (slotFor_some open' plate lower) open']
    refine ⟨fun bad => if_neg fun h => bad (fit.mp h), fun ok => ?_⟩
    rw [if_pos (fit.mpr ok)]
    dsimp only
    by_cases last : q.index + 1 = sl.parts
    · rw [if_pos last, commitSlot_open (slots_set_self st k _)]
      refine ⟨_, _, rfl, fun wf => written_memory rfl wf, fun e => absurd last e, fun _ => ⟨rfl, ?_⟩⟩
      simp only [vector_set_set]
    · rw [if_neg last]
      exact ⟨_, _, rfl, fun wf => written_memory rfl wf, fun _ => ⟨rfl, rfl⟩, fun e => absurd e last⟩
  · exact congrArg Host.Outcome.next (partExpired_eq open')

end Sys2Proof.Machine
end

section
/-! PROOFS. PLATE-DROP and the way of PLATE cells to the store (R110, R116), and PAGE-SET (R119 to R121). A commit or a drop is
reported to the display controllers, which may start a compose and a transfer: these leave the page tables, the claims lists
and the escalation stage as they are (`Recomposed`). -/

namespace Sys2Proof.Machine

variable {p : Port} {s t u : State} {n : Nat}

/-! ### What a compose request leaves of a sign port -/

/-- What the composer and a transfer do not change of a sign port. -/
def Sign.tables (g : Sign) : Vector Page 8 × Option Staging × List PageClaim × BitVec 16 × Bool × Nat :=
  (g.pages, g.staging, g.claims, g.claimCount, g.dark, g.stage)

/-- At most sign port `p` has changed, and not in its tables. -/
structure Recomposed (p : Port) (s t : State) : Prop where
  own : t.signs[p].tables = s.signs[p].tables
  others : ∀ x : Port, x ≠ p → t.signs[x] = s.signs[x]

theorem Recomposed.refl (s : State) : Recomposed p s s := ⟨rfl, fun _ _ => rfl⟩

theorem Recomposed.trans (h : Recomposed p s t) (k : Recomposed p t u) : Recomposed p s u :=
  ⟨k.own.trans h.own, fun x hx => (k.others x hx).trans (h.others x hx)⟩

theorem Recomposed.ite {c : Prop} [Decidable c] (ht : Recomposed p s t) (hu : Recomposed p s u) :
    Recomposed p s (if c then t else u) := by
  split
  · exact ht
  · exact hu

theorem Recomposed.tables (h : Recomposed p s t) (x : Port) : t.signs[x].tables = s.signs[x].tables := by
  by_cases hx : x = p
  · subst hx
    exact h.own
  · rw [h.others x hx]

theorem recomposed_modSign {f : Sign → Sign} (s : State) (hf : (f s.signs[p]).tables = s.signs[p].tables) :
    Recomposed p s (modSign p f s) :=
  ⟨(congrArg Sign.tables (vector_get_set ..)).trans hf, fun _ hx => vector_get_set_ne _ _ _ _ hx⟩

theorem recomposed_of_keeps {ps : List Part} (h : SameBut ps s t) (hs : Part.signs ∉ ps) : Recomposed p s t := by
  have same : t.signs = s.signs := h.same .signs hs
  exact ⟨by rw [same], fun x _ => by rw [same]⟩

theorem sendService_recomposed (q : Port) (f : Frame) (s : State) : Recomposed p s (sendService q f s) :=
  recomposed_of_keeps (sendService_keeps q f s) (by decide)

theorem startTransfer_recomposed (r : Result) (s : State) : Recomposed p s (startTransfer p r s) :=
  (recomposed_modSign s rfl).trans (sendService_recomposed ..)

theorem receiveResult_recomposed (r : Result) (s : State) : Recomposed p s (receiveResult p r s) :=
  (recomposed_modSign (f := fun g => { g with awaiting := false }) s rfl).trans
    (.ite (.refl _) (.ite (startTransfer_recomposed ..) (recomposed_modSign _ rfl)))

theorem completeCompose_recomposed (c : Compose) (s : State) : Recomposed p s (completeCompose p c s) :=
  (recomposed_modSign s rfl).trans (receiveResult_recomposed ..)

theorem startCompose_recomposed (page : Fin 8) (s : State) : Recomposed p s (startCompose p page s) := by
  unfold startCompose
  split
  · exact recomposed_modSign s rfl
  · exact .ite (completeCompose_recomposed ..) (recomposed_modSign s rfl)

theorem composeRequest_recomposed (page : Fin 8) (s : State) : Recomposed p s (composeRequest p page s) :=
  .ite (.ite (recomposed_modSign s rfl) (.ite (startCompose_recomposed ..) (.refl s))) (.refl s)

theorem requestTarget_recomposed (s : State) : Recomposed p s (requestTarget p s) :=
  .ite ((recomposed_modSign s rfl).trans (composeRequest_recomposed ..)) (.refl s)

theorem setTarget_recomposed (page : Fin 8) (s : State) : Recomposed p s (setTarget p page s) :=
  .ite (.refl s) (recomposed_modSign s rfl)

theorem trySelected_recomposed (s : State) : Recomposed p s (trySelected p s) :=
  (setTarget_recomposed ..).trans (requestTarget_recomposed _)

theorem pageCommitted_recomposed (page : Fin 8) (s : State) : Recomposed p s (pageCommitted p page s) :=
  .ite (trySelected_recomposed s) (.ite (requestTarget_recomposed s) (.refl s))

theorem plateReportedTo_recomposed (s : State) : Recomposed p s (plateReportedTo n p s) :=
  .ite (.refl s) (.ite (trySelected_recomposed s) (.ite (requestTarget_recomposed s) (.refl s)))

/-- R149 case 3: no page and no claim changes where a plate is reported. -/
theorem plateReported_tables (s : State) (x : Port) : (plateReported n s).signs[x].tables = s.signs[x].tables :=
  ((plateReportedTo_recomposed _).tables x).trans <| ((plateReportedTo_recomposed _).tables x).trans <|
    ((plateReportedTo_recomposed _).tables x).trans ((plateReportedTo_recomposed s).tables x)

/-! ### Drops (R116) -/

/-- The parts a drop touches, and what it leaves of the sign ports. -/
structure Dropped (s t : State) : Prop where
  keeps : SameBut [.plates, .signs, .ports, .portCounts] s t
  tables : ∀ x : Port, t.signs[x].tables = s.signs[x].tables

theorem dropPlate_present (h : plateOf s.plates n ≠ none) : dropPlate n s.plates = ({ s.plates with
    blocks := giveBlocks s.plates.blocks (.plate n) .free, dir := s.plates.dir.setIfInBounds n none }, true) := by
  obtain ⟨pl, e⟩ := Option.ne_none_iff_exists'.mp h
  simp only [dropPlate, e]

theorem dropOne_absent (h : plateOf s.plates n = none) : dropOne n s = s := by
  simp only [dropOne, dropPlate, h]

theorem dropOne_present (h : plateOf s.plates n ≠ none) : dropOne n s = plateReported n (s.setPlates { s.plates with
    blocks := giveBlocks s.plates.blocks (.plate n) .free, dir := s.plates.dir.setIfInBounds n none }) := by
  simp only [dropOne, dropPlate_present h]

theorem dropOne_plates (h : plateOf s.plates n ≠ none) : (dropOne n s).plates = { s.plates with
    blocks := giveBlocks s.plates.blocks (.plate n) .free, dir := s.plates.dir.setIfInBounds n none } := by
  rw [dropOne_present h]
  exact (plateReported_keeps ..).same .plates (by decide)

theorem dropOne_tables (n : Nat) (s : State) (x : Port) : (dropOne n s).signs[x].tables = s.signs[x].tables := by
  by_cases h : plateOf s.plates n = none
  · rw [dropOne_absent h]
  · rw [dropOne_present h]
    exact plateReported_tables _ x

theorem dropOne_dropped (n : Nat) (s : State) : Dropped s (dropOne n s) := ⟨dropOne_keeps n s, dropOne_tables n s⟩

theorem dropEach_dropped (ns : List Nat) (s : State) : Dropped s (dropEach ns s) := by
  refine ⟨dropEach_keeps ns s, fun x => ?_⟩
  induction ns generalizing s with
  | nil => rfl
  | cons n ns ih => exact (ih _).trans (dropOne_tables n s x)

/-- The owner of a block once the plates of a list have been dropped. -/
def ownerDropped (ns : List Nat) : Owner → Owner
  | .plate m => if m ∈ ns then .free else .plate m
  | o => o

/-- What the plates of a list, all present and no two the same, leave when they have been dropped. -/
theorem dropEach_plates (ns : List Nat) (s : State) (once : ns.Nodup) (present : ∀ n ∈ ns, plateOf s.plates n ≠ none) :
    (dropEach ns s).plates = { s.plates with
      dir := s.plates.dir.mapIdx (fun i x => if i ∈ ns then none else x), blocks := s.plates.blocks.map (ownerDropped ns) } := by
  induction ns generalizing s with
  | nil =>
    have blocks : s.plates.blocks.map (ownerDropped []) = s.plates.blocks := by
      ext i hi
      simp only [Vector.getElem_map]
      cases s.plates.blocks[i] <;> rfl
    have dir : s.plates.dir.mapIdx (fun i x => if i ∈ ([] : List Nat) then none else x) = s.plates.dir := by
      ext1 i hi
      simp
    simp only [dropEach, dir, blocks]
  | cons n ns ih =>
    obtain ⟨fresh, once⟩ := List.nodup_cons.mp once
    have here := dropOne_plates (present n (List.mem_cons_self ..))
    rw [dropEach, ih (dropOne n s) once fun m hm => ?_, here]
    · have dir : (s.plates.dir.setIfInBounds n none).mapIdx (fun i x => if i ∈ ns then none else x) =
          s.plates.dir.mapIdx (fun i x => if i ∈ n :: ns then none else x) := by
        ext1 i hi
        simp only [Vector.getElem_mapIdx, Vector.getElem_setIfInBounds, List.mem_cons]
        by_cases e : n = i
        · simp [e]
        · simp [e, Ne.symm e]
      have blocks : (giveBlocks s.plates.blocks (.plate n) .free).map (ownerDropped ns) =
          s.plates.blocks.map (ownerDropped (n :: ns)) := by
        ext i hi
        simp only [giveBlocks, Vector.getElem_map]
        cases s.plates.blocks[i] with
        | plate m =>
          by_cases e : m = n
          · simp [ownerDropped, e]
          · simp [ownerDropped, e]
        | free => rfl
        | slot k => rfl
      simp only [dir, blocks]
    · have other : n ≠ m := fun e => fresh (e ▸ hm)
      have := present m (List.mem_cons_of_mem _ hm)
      rw [here]
      simpa only [plateOf, Vector.getElem?_setIfInBounds_ne other] using this

theorem mem_presentPlates {st : PlateStore} : n ∈ presentPlates st ↔ plateOf st n ≠ none := by
  rw [presentPlates, List.mem_filter, List.mem_range, Option.isSome_iff_ne_none]
  exact ⟨And.right, fun h => ⟨plateOf_lt h, h⟩⟩

theorem ownerDropped_present (st : PlateStore) (o : Owner) : ownerDropped (presentPlates st) o = match o with
    | .plate m => if (plateOf st m).isSome then .free else .plate m
    | o => o := by
  cases o with
  | plate m => simp only [ownerDropped, mem_presentPlates, Option.isSome_iff_ne_none]
  | free => rfl
  | slot k => rfl

theorem dropAll_plates (s : State) : (dropAll s).plates = { s.plates with
    dir := Vector.replicate 64 none, blocks := s.plates.blocks.map (ownerDropped (presentPlates s.plates)) } := by
  have dir : s.plates.dir.mapIdx (fun i x => if i ∈ presentPlates s.plates then none else x) =
      Vector.replicate 64 none := by
    ext1 i hi
    rw [Vector.getElem_mapIdx, Vector.getElem_replicate]
    split
    · rfl
    · next absent =>
      have := plateOf_fin s.plates ⟨i, hi⟩
      exact this.symm.trans (Decidable.not_not.mp fun h => absent (mem_presentPlates.mpr h))
  have once : (presentPlates s.plates).Nodup := List.nodup_range.filter _
  rw [dropAll, dropEach_plates _ s once fun n => mem_presentPlates.mp, dir]

/-! ### PLATE cells (R110) -/

theorem portOf_ne_none {k : Profile} : s.portOf k ≠ none ↔ ∃ p, s.profile p = k := by
  refine ⟨fun h => ?_, fun ⟨p, h⟩ none => ?_⟩
  · obtain ⟨p, e⟩ := Option.ne_none_iff_exists'.mp h
    exact ⟨p, portOf_profile e⟩
  · unfold State.portOf at none
    have no {f : Prop} [Decidable f] {p : Port} {rest : Option Port} (e : (if f then some p else rest) = .none) :
        ¬f ∧ rest = .none := by
      split at e
      · cases e
      · next h => exact ⟨h, e⟩
    obtain ⟨h0, none⟩ := no none
    obtain ⟨h1, none⟩ := no none
    obtain ⟨h2, none⟩ := no none
    obtain ⟨h3, none⟩ := no none
    match p, h with
    | 0, h => exact h0 h
    | 1, h => exact h1 h
    | 2, h => exact h2 h
    | 3, h => exact h3 h

theorem plateAllowed_iff {source : Nat} : plateAllowed false source s = true ↔
    (∃ p, s.profile p = .sign) ∧ s.centreHeard source = true := by
  simp only [plateAllowed, Bool.and_eq_true, Option.isSome_iff_ne_none, portOf_ne_none, Bool.false_or]

theorem plateIn_allowed {own : Bool} {source : Nat} {payload : List Byte} (h : plateAllowed own source s = true) :
    (plateIn own source payload s).plates = (platePart (readPlatePart payload) s.now s.plates).1 := by
  rw [plateIn, if_pos h]
  cases e : platePart (readPlatePart payload) s.now s.plates with
  | mk st reported =>
    cases reported with
    | none => rfl
    | some n => exact (plateReported_keeps ..).same .plates (by decide)

theorem plateIn_refused {own : Bool} {source : Nat} {payload : List Byte} (h : plateAllowed own source s ≠ true) :
    (plateIn own source payload s).plates = { s.plates with strayParts := bump s.plates.strayParts } := by
  rw [plateIn, if_neg h]
  rfl

theorem Dropped.kept (h : Dropped s t) : SameBut [.plates, .signs, .ports, .portCounts] s t ∧
    ∀ p : Port, t.signs[p].pages = s.signs[p].pages ∧ t.signs[p].claims = s.signs[p].claims ∧
      t.signs[p].dark = s.signs[p].dark ∧ t.signs[p].stage = s.signs[p].stage := by
  refine ⟨h.keeps, fun p => ?_⟩
  have := h.tables p
  simp only [Sign.tables, Prod.mk.injEq] at this
  obtain ⟨pages, _, claims, _, dark, stage⟩ := this
  exact ⟨pages, claims, dark, stage⟩

/-- Settles O36: the drops by `dropOne_plates` and `dropAll_plates`, the cell by `plateAllowed_iff`. -/
theorem platesAreDroppedAndPartsReachTheStore : Obligations.PlatesAreDroppedAndPartsReachTheStore := by
  refine ⟨fun via n s admitted => ?_, fun l c s h kind active => ?_⟩
  · have one : exec (.plateDrop via n) s = .next (dropCommand n s) :=
      exec_admitted (c := .plateDrop n) admitted rfl rfl
    have all : exec (.plateDropAll via) s = .next (dropAll s) := exec_admitted (c := .plateDropAll) admitted rfl rfl
    rw [one, all]
    refine ⟨fun big => ?_, fun small absent => ?_, fun small present => ⟨_, rfl, ?_⟩, _, rfl,
      (dropEach_dropped _ s).kept, ?_, fun i => ?_⟩
    · rw [dropCommand, if_neg (by omega)]
      rfl
    · rw [dropCommand, if_pos small, dropOne_absent absent]
    · rw [dropCommand, if_pos small]
      exact ⟨(dropOne_dropped _ s).kept, dropOne_plates present⟩
    · rw [dropAll_plates s]
    · have blocks : (dropAll s).plates.blocks = s.plates.blocks.map (ownerDropped (presentPlates s.plates)) := by
        rw [dropAll_plates s]
      rw [blocks]
      exact (Vector.getElem_map ..).trans (ownerDropped_present ..)
  · have plate : c.kind = kPlate := kind
    have valid : SameBut [.lines] s (validWord l s) := validWord_keeps l s
    have arrives : exec (.cellArrives l c) s = .next (plateIn false c.source.toNat c.payload (validWord l s)) := by
      rw [h.exec (by rw [plate]; decide), toCentre_kept (by rw [plate]; rfl), handPlain_plate plate,
        whenActive_active (s := validWord l s) active]
    have keeps : SameBut [.lines, .plates, .signs, .ports, .portCounts] s
        (plateIn false c.source.toNat c.payload (validWord l s)) :=
      (plateIn_keeps ..).step (by decide) (valid.mono (by decide))
    refine ⟨_, arrives, keeps, fun port heard => ?_, fun stray => ?_⟩
    · exact plateIn_allowed (s := validWord l s) (plateAllowed_iff.mpr ⟨port, heard⟩)
    · refine plateIn_refused (s := validWord l s) fun ok => ?_
      obtain ⟨⟨p, sign⟩, heard⟩ := plateAllowed_iff.mp ok
      rcases stray with none | unheard
      · exact none p sign
      · exact absurd (heard.symm.trans unheard) (by decide)

end Sys2Proof.Machine
end

section
/-! PROOFS. PAGE-SET (R119 to R121): the staging copy it writes to, position by position, and the commit. -/

namespace Sys2Proof.Machine

variable {p : Port} {s t : State} {q : PageParams} {g : Staging}

/-! ### The staging copy (R120) -/

theorem recValid_iff {r : LayerRec} : recValid r = true ↔
    r.modes.extractLsb' 6 2 ≠ 3 ∧ r.modes.extractLsb' 4 2 ≠ 3 ∧ r.modes.extractLsb' 2 2 ≠ 3 := by
  rw [recValid, decide_eq_true_eq]
  rfl

theorem pageSetGood_iff : pageSetGood q = true ↔ q.page.toNat ≤ 7 ∧ q.n.toNat ≤ 7 ∧ q.first.toNat + q.n.toNat ≤ 16 ∧
    ∀ r ∈ q.records, r.modes.extractLsb' 6 2 ≠ 3 ∧ r.modes.extractLsb' 4 2 ≠ 3 ∧ r.modes.extractLsb' 2 2 ≠ 3 := by
  rw [pageSetGood, Bool.and_eq_true, decide_eq_true_eq, List.all_eq_true]
  simp only [recValid_iff, and_assoc]

theorem writeLayers_page (rs : List LayerRec) (i : Nat) (g : Staging) : (writeLayers g i rs).page = g.page := by
  induction rs generalizing g i with
  | nil => rfl
  | cons r rs ih => exact ih _ _

/-- R120: each position of the staging copy after records were written from a position on. -/
theorem writeLayers_get (rs : List LayerRec) (i : Nat) (g : Staging) (j : Fin 16) :
    (writeLayers g i rs).layers[j] = if i ≤ j.val ∧ j.val < i + rs.length then rs[j.val - i]? else g.layers[j] := by
  induction rs generalizing g i with
  | nil => exact (if_neg (by simp only [List.length_nil]; omega)).symm
  | cons r rs ih =>
    have written : (writeLayer g i r).layers[j] = if i = j.val then some r else g.layers[j] :=
      Vector.getElem_setIfInBounds ..
    rw [writeLayers, ih, written, List.length_cons]
    by_cases here : i = j.val
    · rw [if_neg (by omega), if_pos here, if_pos (by omega), here, Nat.sub_self]
      rfl
    · rw [if_neg here]
      by_cases later : i + 1 ≤ j.val ∧ j.val < i + 1 + rs.length
      · rw [if_pos later, if_pos (by omega), show j.val - i = j.val - (i + 1) + 1 by omega]
        rfl
      · rw [if_neg later, if_neg (by omega)]

theorem writeLayer_highest (r : LayerRec) (i : Nat) (g : Staging) :
    (writeLayer g i r).highest = some (max (g.highest.getD 0) i) := by
  unfold writeLayer
  cases g.highest with
  | none => exact congrArg some (Nat.zero_max i).symm
  | some x => rfl

/-- R120: the highest index written. -/
theorem writeLayers_highest (r : LayerRec) (rs : List LayerRec) (i : Nat) (g : Staging) :
    (writeLayers g i (r :: rs)).highest = some (max (g.highest.getD 0) (i + rs.length)) := by
  induction rs generalizing g i r with
  | nil => exact writeLayer_highest r i g
  | cons x rs ih =>
    rw [writeLayers, ih x (i + 1) (writeLayer g i r), writeLayer_highest, Option.getD_some, List.length_cons]
    congr 1
    omega

/-! ### The committed page (R121) -/

theorem mapM_id_eq_some {α : Type} {l : List (Option α)} {xs : List α} : l.mapM id = some xs ↔ l = xs.map some := by
  induction l generalizing xs with
  | nil => cases xs <;> simp
  | cons x l ih =>
    cases x with
    | none => cases xs <;> simp
    | some a =>
      cases xs with
      | nil => simp [Option.bind_eq_some_iff]
      | cons b xs =>
        rw [List.map_cons, List.cons.injEq, Option.some.injEq, ← ih, and_comm]
        simp [Option.bind_eq_some_iff]

theorem stagedPage_some {page : Page} : stagedPage g = some page ↔ page.map some = (match g.highest with
    | none => []
    | some h => g.layers.toList.take (h + 1)) := by
  unfold stagedPage
  cases g.highest with
  | none => exact ⟨fun e => by cases e; rfl, fun e => by rw [List.map_eq_nil_iff.mp e]⟩
  | some h => exact mapM_id_eq_some.trans eq_comm

/-- R121: the page is complete when every position up to the highest is written. -/
theorem stagedPage_complete : (∃ page, stagedPage g = some page) ↔
    ∀ h, g.highest = some h → ∀ i : Fin 16, i.val ≤ h → g.layers[i] ≠ none := by
  cases e : g.highest with
  | none => exact iff_of_true ⟨[], stagedPage_some.mpr (by rw [e]; rfl)⟩ nofun
  | some h =>
    simp only [stagedPage_some, e]
    constructor
    · rintro ⟨page, written⟩ h' e' i low hole
      cases e'
      have here : (g.layers.toList.take (h + 1))[i.val]? = some none := by
        rw [List.getElem?_take_of_lt (by omega)]
        simp [← hole]
      rw [← written, List.getElem?_map] at here
      cases x : page[i.val]? <;> simp [x] at here
    · intro full
      have some' (x : Option LayerRec) (hx : x ∈ g.layers.toList.take (h + 1)) : x ≠ none := by
        obtain ⟨i, hi, rfl⟩ := List.mem_take_iff_getElem.mp hx
        have := full h rfl ⟨i, by simpa using (Nat.lt_min.mp hi).2⟩ (Nat.le_of_lt_succ (Nat.lt_min.mp hi).1)
        simpa using this
      generalize g.layers.toList.take (h + 1) = l at some'
      induction l with
      | nil => exact ⟨[], rfl⟩
      | cons x l ih =>
        obtain ⟨page, hp⟩ := ih fun y hy => some' y (List.mem_cons_of_mem _ hy)
        obtain ⟨a, rfl⟩ := Option.ne_none_iff_exists'.mp (some' x (List.mem_cons_self ..))
        exact ⟨a :: page, by rw [List.map_cons, hp]⟩

/-- R121: what a commit leaves of the sign ports. -/
structure Committed (p : Port) (n : Fin 8) (page : Page) (s t : State) : Prop where
  keeps : SameBut [.signs, .ports, .portCounts] s t
  own : t.signs[p].tables = { s.signs[p] with staging := none, pages := s.signs[p].pages.set n page }.tables
  others : ∀ x : Port, x ≠ p → t.signs[x] = s.signs[x]

theorem endPage_complete {page : Page} (h : stagedPage g = some page) : Committed p g.page page s (endPage p g s) := by
  have e : endPage p g s = pageCommitted p g.page
      (modSign p (fun x => { x with staging := none, pages := x.pages.set g.page page }) s) := by simp only [endPage, h]
  rw [e]
  have after := pageCommitted_recomposed (p := p) g.page
    (modSign p (fun x => { x with staging := none, pages := x.pages.set g.page page }) s)
  refine ⟨(pageCommitted_keeps ..).step (by decide) ((modSign_keeps ..).mono (by decide)),
    after.own.trans (congrArg Sign.tables (vector_get_set ..)), fun x hx => ?_⟩
  exact (after.others x hx).trans (vector_get_set_ne _ _ _ _ hx)

theorem endPage_incomplete (h : stagedPage g = none) :
    endPage p g s = rejected .range (modSign p (fun x => { x with staging := some g }) s) := by
  simp only [endPage, h]
  rfl

theorem Committed.tables {n : Fin 8} {page : Page} (h : Committed p n page s t) :
    t.signs[p].staging = none ∧ t.signs[p].claims = s.signs[p].claims ∧
      t.signs[p].pages = s.signs[p].pages.set n page := by
  have own := h.own
  simp only [Sign.tables, Prod.mk.injEq] at own
  obtain ⟨pages, staging, claims, _⟩ := own
  exact ⟨staging, claims, pages⟩

/-! ### The command -/

theorem stagingFor_start {x : Sign} (start : q.start = true) : stagingFor q x =
    some { page := Fin.ofNat 8 q.page.toNat, layers := Vector.replicate 16 none, highest := none } := by
  rw [stagingFor, if_pos start]

theorem stagingFor_open {x : Sign} (start : q.start = false) (h : x.staging = some g) (page : g.page.val = q.page.toNat) :
    stagingFor q x = some g := by
  rw [stagingFor, if_neg (by rw [start]; decide)]
  simp only [h]
  exact if_pos page

theorem stagingFor_eq_some {x : Sign} (h : stagingFor q x = some g) (page : q.page.toNat ≤ 7) :
    (q.start = true ∧ g.page.val = q.page.toNat ∧ g.layers = Vector.replicate 16 none ∧ g.highest = none) ∨
      (q.start = false ∧ x.staging = some g ∧ g.page.val = q.page.toNat) := by
  unfold stagingFor at h
  split at h
  · next start =>
    cases h
    exact .inl ⟨start, Nat.mod_eq_of_lt (by omega), rfl, rfl⟩
  · next start =>
    split at h
    · next st e =>
      split at h
      · next same =>
        cases h
        exact .inr ⟨by simpa using start, e, same⟩
      · cases h
    · cases h

theorem pageSetOn_bad (h : pageSetGood q ≠ true) : pageSetOn q p s = rejected .range s := if_neg h

theorem pageSetOn_closed (good : pageSetGood q = true) (h : stagingFor q s.signs[p] = none) :
    pageSetOn q p s = rejected .state s := by
  rw [pageSetOn, if_pos good, h]
  rfl

theorem pageSetOn_writes (good : pageSetGood q = true) (h : stagingFor q s.signs[p] = some g) :
    pageSetOn q p s = if q.finish then endPage p (writeLayers g q.first.toNat q.records) s
      else modSign p (fun x => { x with staging := some (writeLayers g q.first.toNat q.records) }) s := by
  rw [pageSetOn, if_pos good]
  simp only [h]

/-- Settles O37: the copy written is `writeLayers` of the copy opened, and its end is `endPage`. -/
theorem pageSetWritesThroughTheStagingCopy : Obligations.PageSetWritesThroughTheStagingCopy := by
  intro via p q s admitted unicast sign count legal opened result
  have acts : result = .next (pageSetOn q p s) := by
    refine (exec_admitted (c := .pageSet (natByte p.val) q) admitted rfl rfl).trans (congrArg Host.Outcome.next ?_)
    refine Eq.trans ?_ (portCommand_one (fit := [.sign]) (by rw [sign]; decide))
    rw [commandEffect, unicast]
  have good : pageSetGood q = true ↔ legal := pageSetGood_iff
  rw [acts]
  refine ⟨fun bad => ?_, fun ok closed => ?_, fun g ok open' => ?_⟩
  · rw [pageSetOn_bad fun h => bad (good.mp h)]
  · have none' : stagingFor q s.signs[p] = none := by
      cases e : stagingFor q s.signs[p] with
      | none => rfl
      | some g => exact absurd (stagingFor_eq_some e ok.1) (closed g)
    rw [pageSetOn_closed (good.mpr ok) none']
  · have found : stagingFor q s.signs[p] = some g := by
      rcases open' with ⟨start, page, layers, highest⟩ | ⟨start, staging, page⟩
      · have number : g.page = Fin.ofNat 8 q.page.toNat := by
          refine Fin.ext (page.trans (Nat.mod_eq_of_lt ?_).symm)
          have := ok.1
          omega
        obtain ⟨_, _, _⟩ := g
        cases layers
        cases highest
        cases number
        exact stagingFor_start start
      · exact stagingFor_open start staging page
    rw [pageSetOn_writes (good.mpr ok) found]
    refine ⟨writeLayers g q.first.toNat q.records, writeLayers_page .., fun i => ?_, fun empty => ?_, fun some' => ?_, ?_⟩
    · rw [writeLayers_get, count]
    · have : q.records = [] := List.length_eq_zero_iff.mp (count.trans (by rw [empty]; rfl))
      rw [this, writeLayers]
    · have some' : q.n.toNat ≠ 0 := fun e => some' (BitVec.eq_of_toNat_eq e)
      cases h : q.records with
      | nil => exact absurd (count.symm.trans (by rw [h]; rfl)) some'
      | cons r rs =>
        rw [h, List.length_cons] at count
        rw [writeLayers_highest]
        congr 2
        omega
    · have page : (writeLayers g q.first.toNat q.records).page = g.page := writeLayers_page ..
      generalize writeLayers g q.first.toNat q.records = g' at page ⊢
      intro held
      refine ⟨fun more => ?_, fun finish hole => ?_, fun finish full => ?_⟩
      · rw [more, if_neg Bool.false_ne_true]
        rfl
      · have none' : stagedPage g' = none := by
          cases e : stagedPage g' with
          | none => rfl
          | some x =>
            obtain ⟨h, top, i, low, empty⟩ := hole
            exact absurd empty (stagedPage_complete.mp ⟨x, e⟩ h top i low)
        rw [finish, if_pos rfl, endPage_incomplete none']
        rfl
      · obtain ⟨x, e⟩ := stagedPage_complete.mpr full
        have commit := endPage_complete (p := p) (s := s) e
        obtain ⟨staging, claims, pages⟩ := commit.tables
        rw [page] at pages
        rw [finish, if_pos rfl]
        refine ⟨_, rfl, commit.keeps, staging, claims, fun n hn => ?_, ?_, commit.others⟩
        · rw [pages]
          exact vector_get_set_ne _ _ _ _ hn
        · rw [pages, vector_get_set]
          exact stagedPage_some.mp e

end Sys2Proof.Machine
end

section
/-! PROOFS. The composer at a layer boundary (R126 to R131, R150). What the display controller does to a sign port is written
as one state with the port's sign and its port unit replaced (`State.withSign`); each operation has its equation. -/

namespace Sys2Proof.Machine

variable {p : Port} {s : State} {g : Sign} {u : PortUnit} {c : Compose} {r : LayerRec}

/-! ### A sign port replaced -/

/-- The state with sign port `p` and its port unit replaced. -/
def State.withSign (s : State) (p : Port) (g : Sign) (u : PortUnit) : State :=
  (s.setSigns (s.signs.set p g)).setPorts (s.ports.set p u)

@[simp] theorem withSign_sign : (s.withSign p g u).signs[p] = g := vector_get_set ..

@[simp] theorem withSign_port : (s.withSign p g u).ports[p] = u := vector_get_set ..

@[simp] theorem withSign_twice {g' : Sign} {u' : PortUnit} : (s.withSign p g u).withSign p g' u' = s.withSign p g' u' := by
  unfold State.withSign
  simp only [State.setPorts_signs, State.setSigns_signs, State.setPorts_ports, vector_set_set]
  rfl

@[simp] theorem withSign_now : (s.withSign p g u).now = s.now := rfl

@[simp] theorem withSign_profile : (s.withSign p g u).profile = s.profile := rfl

@[simp] theorem withSign_phase : (s.withSign p g u).phase = s.phase := rfl

theorem withSign_unit : s.withSign p g s.ports[p] = s.setSigns (s.signs.set p g) := by
  have same : s.ports.set p s.ports[p] = s.ports := vector_set_self ..
  rw [State.withSign, same]
  rfl

theorem modSign_withSign (f : Sign → Sign) : modSign p f s = s.withSign p (f s.signs[p]) s.ports[p] := withSign_unit.symm

/-- A port unit that is UP and sending, its queue with room for `n` more frames. -/
structure PortUnit.Queues (u : PortUnit) (n : Nat) : Prop where
  up : u.link = .up
  busy : u.sending ≠ none
  room : u.queue.length + n ≤ 128

theorem sendService_withSign {f : Frame} (h : s.ports[p].Queues 1) : sendService p f s =
    s.withSign p s.signs[p] { s.ports[p] with queue := s.ports[p].queue ++ [f] } := by
  have same : s.signs.set p s.signs[p] = s.signs := vector_set_self ..
  rw [sendService_waits h.busy h.up (Nat.lt_of_succ_le h.room), State.withSign, same]
  rfl

theorem sendServices_withSign {fs : List Frame} (h : s.ports[p].Queues fs.length) : sendServices p fs s =
    s.withSign p s.signs[p] { s.ports[p] with queue := s.ports[p].queue ++ fs } := by
  have same : s.signs.set p s.signs[p] = s.signs := vector_set_self ..
  rw [sendServices_wait fs h.busy h.up h.room, State.withSign, same]
  rfl

/-! ### Transfers and results (R150, R151) -/

theorem sendOffer_eq {t : Transfer} {pic : Pic} (h : s.ports[p].Queues 1) : sendOffer p t pic s = s.withSign p
    { s.signs[p] with transfer := some { t with await := .ready pic }, answerTimer := some (s.now + 500000000),
                      retryTimer := none }
    { s.ports[p] with queue := s.ports[p].queue ++
      [⟨32, [picByte pic, natByte t.result.width, natByte t.result.height]⟩] } := by
  unfold sendOffer
  rw [modSign_withSign, sendService_withSign (by rw [withSign_port]; exact h)]
  simp only [withSign_sign, withSign_port, withSign_twice]
  rfl

theorem startTransfer_eq {r : Result} (h : s.ports[p].Queues 1) : startTransfer p r s = s.withSign p
    { s.signs[p] with transfer := some ⟨r, .ready .a, []⟩, answerTimer := some (s.now + 500000000), retryTimer := none }
    { s.ports[p] with queue := s.ports[p].queue ++ [⟨32, [0, natByte r.width, natByte r.height]⟩] } := sendOffer_eq h

/-- R150: a result that no served sign waits for. -/
theorem receiveResult_unwanted {r : Result}
    (h : s.ports[p].link ≠ .up ∨ s.signs[p].dark = true ∨ r.page ≠ s.signs[p].target) :
    receiveResult p r s = s.withSign p { s.signs[p] with awaiting := false } s.ports[p] := by
  unfold receiveResult
  rw [modSign_withSign]
  refine if_pos ?_
  simp only [State.inService, withSign_sign, withSign_port, withSign_phase, Bool.or_eq_true, Bool.not_eq_true',
    decide_eq_false_iff_not, decide_eq_true_eq]
  rcases h with h | h | h
  · exact .inl (.inl (.inl h))
  · exact .inl (.inl (.inr h))
  · exact .inr h

/-- R150: a result of the target page at a sign that is served. -/
theorem receiveResult_wanted {r : Result} (up : s.ports[p].link = .up) (lit : s.signs[p].dark = false)
    (phase : s.phase ≠ .mute) (page : r.page = s.signs[p].target) : receiveResult p r s =
      let w := s.withSign p { s.signs[p] with awaiting := false } s.ports[p]
      if s.signs[p].transfer.isNone then startTransfer p r w
      else modSign p (fun g => { g with pendingResult := some r }) w := by
  unfold receiveResult
  rw [modSign_withSign]
  refine (if_neg ?_).trans ?_
  · simp [-Fin.getElem_fin, State.inService, up, lit, page, phase]
  · simp only [withSign_sign]

/-! ### The composer -/

theorem applyNext_fault (next : c.layers[c.next]? = some r) (absent : layerPlate s.plates r = none) :
    applyNext s.plates c = { c with faults := c.faults + 1, next := c.next + 1 } := by
  simp only [applyNext, next, absent]

theorem applyNext_applied {pl : Plate} (next : c.layers[c.next]? = some r) (found : layerPlate s.plates r = some pl) :
    applyNext s.plates c = { c with
      a := if r.modes.extractLsb' 2 2 = 2 then c.a else layerPicture s.plates r pl c.a
      b := if r.modes.extractLsb' 2 2 = 1 then c.b else layerPicture s.plates r pl c.b
      next := c.next + 1 } := by
  unfold applyNext
  simp only [next, found]
  rfl

/-- The compose of a page at its start. -/
theorem startCompose_eq {page : Fin 8} {w h : Nat} (geometry : s.signs[p].geometry = some (w, h))
    (layers : s.signs[p].pages[page] ≠ []) : startCompose p page s = s.withSign p { s.signs[p] with
      compose := some ⟨page, s.signs[p].pages[page], 0, 0, List.replicate h (List.replicate w 0),
        List.replicate h (List.replicate w 0), w, h⟩ } s.ports[p] := by
  unfold startCompose
  split
  · next e => cases e.symm.trans geometry
  · next e =>
    cases e.symm.trans geometry
    exact (if_neg fun e => layers (List.isEmpty_iff.mp e)).trans (modSign_withSign _)

theorem completeCompose_eq : completeCompose p c s =
    receiveResult p (resultOf c) (s.withSign p { s.signs[p] with compose := none, faultCount := c.faults } s.ports[p]) := by
  rw [completeCompose, modSign_withSign]

theorem layerBoundary_mute (mute : s.phase = .mute) : layerBoundary p c s =
    s.withSign p { s.signs[p] with compose := none, slot := none } s.ports[p] :=
  (if_pos mute).trans (modSign_withSign _)

theorem layerBoundary_slot {page : Fin 8} (phase : s.phase ≠ .mute) (slot : s.signs[p].slot = some page) :
    layerBoundary p c s = startCompose p page (s.withSign p { s.signs[p] with slot := none } s.ports[p]) := by
  unfold layerBoundary
  rw [if_neg phase, ← modSign_withSign fun g => { g with slot := none }]
  simp only [slot]

theorem layerBoundary_resized (phase : s.phase ≠ .mute) (slot : s.signs[p].slot = none)
    (size : s.signs[p].geometry ≠ some (c.width, c.height)) : layerBoundary p c s = startCompose p c.page s := by
  unfold layerBoundary
  rw [if_neg phase]
  simp only [slot]
  exact if_pos size

theorem layerBoundary_same (phase : s.phase ≠ .mute) (slot : s.signs[p].slot = none)
    (size : s.signs[p].geometry = some (c.width, c.height)) : layerBoundary p c s =
      if c.next = c.layers.length then completeCompose p c s
      else s.withSign p { s.signs[p] with compose := some c } s.ports[p] := by
  unfold layerBoundary
  rw [if_neg phase]
  simp only [slot, modSign_withSign]
  exact if_neg (not_not_intro size)

/-- What a layer leaves of a compose but for its pictures and its faults. -/
theorem applyNext_fields (next : c.layers[c.next]? = some r) : (applyNext s.plates c).page = c.page ∧
    (applyNext s.plates c).layers = c.layers ∧ (applyNext s.plates c).next = c.next + 1 ∧
    (applyNext s.plates c).width = c.width ∧ (applyNext s.plates c).height = c.height := by
  cases e : layerPlate s.plates r with
  | none => rw [applyNext_fault next e]; exact ⟨rfl, rfl, rfl, rfl, rfl⟩
  | some pl => rw [applyNext_applied next e]; exact ⟨rfl, rfl, rfl, rfl, rfl⟩

/-- Settles O39: the boundary's tests in their order. -/
theorem layerApplyTakesTheBoundaryTests : Obligations.LayerApplyTakesTheBoundaryTests := by
  intro p s c c' r compose next found fault applied becomes afresh
  have after : applyNext s.plates c = c' := by
    cases e : layerPlate s.plates r with
    | none => exact (applyNext_fault next e).trans (fault e).symm
    | some pl => exact (applyNext_applied next e).trans (applied pl e).symm
  obtain ⟨page, layers, step, width, height⟩ := applyNext_fields (s := s) next
  rw [after] at page layers step width height
  have exec : exec (.layerApply p) s = .next (layerBoundary p c' s) := by
    refine congrArg Host.Outcome.next (Eq.trans (b := layerBoundary p (applyNext s.plates c) s) ?_ (by rw [after]))
    simp only [applyLayer, compose]
  have becomes_of {g : Sign} (e : layerBoundary p c' s = s.withSign p g s.ports[p]) : becomes g :=
    exec.trans (congrArg Host.Outcome.next (e.trans withSign_unit))
  refine ⟨fun mute => becomes_of (layerBoundary_mute mute), fun phase => ⟨fun pg w h slot size full => becomes_of ?_,
    fun w h slot size other full => becomes_of ?_, fun slot size => ⟨fun more => becomes_of ?_, fun last unwanted => becomes_of ?_,
      fun t last up lit target transfer => becomes_of ?_, fun last up lit target transfer busy room => ?_⟩⟩⟩
  · rw [layerBoundary_slot phase slot, startCompose_eq (w := w) (h := h) (by rw [withSign_sign]; exact size)
      (by rw [withSign_sign]; exact full)]
    simp only [withSign_sign, withSign_port, withSign_twice]
    rfl
  · rw [layerBoundary_resized phase slot (by rw [size, width, height]; exact fun e => other (Option.some.inj e)), page,
      startCompose_eq size full]
  · rw [layerBoundary_same phase slot (by rw [size, width, height]), if_neg (by rw [step, layers]; omega)]
  · rw [layerBoundary_same phase slot (by rw [size, width, height]), if_pos (by rw [step, layers]; omega),
      completeCompose_eq, receiveResult_unwanted]
    · simp only [withSign_sign, withSign_port, withSign_twice]
    · simp only [withSign_sign, withSign_port]
      rcases unwanted with h | h | h
      · exact .inl h
      · exact .inr (.inl h)
      · exact .inr (.inr fun e => h (page.symm.trans e))
  · rw [layerBoundary_same phase slot (by rw [size, width, height]), if_pos (by rw [step, layers]; omega),
      completeCompose_eq, receiveResult_wanted (by rw [withSign_port]; exact up) (by rw [withSign_sign]; exact lit)
        (by rw [withSign_phase]; exact phase)
        (by rw [withSign_sign]; exact page.trans target)]
    simp only [withSign_sign, withSign_port, withSign_twice, transfer, Option.isNone_some, if_neg Bool.false_ne_true,
      modSign_withSign]
  · refine exec.trans (congrArg Host.Outcome.next ?_)
    rw [layerBoundary_same phase slot (by rw [size, width, height]), if_pos (by rw [step, layers]; omega),
      completeCompose_eq, receiveResult_wanted (by rw [withSign_port]; exact up) (by rw [withSign_sign]; exact lit)
        (by rw [withSign_phase]; exact phase)
        (by rw [withSign_sign]; exact page.trans target)]
    simp only [withSign_sign, withSign_port, withSign_twice, transfer, Option.isNone_none, if_true]
    rw [startTransfer_eq (by rw [withSign_port]; exact ⟨up, busy, room⟩)]
    simp only [withSign_sign, withSign_port, withSign_twice]
    rw [← width, ← height]
    rfl

end Sys2Proof.Machine
end

section
/-! PROOFS. The steps of a transfer (R151, R152), missed answers and the escalation of a verification (R153 to R155), each as
the sign and the port unit it leaves (`State.withSign`). -/

namespace Sys2Proof.Machine

variable {p : Port} {s : State} {g : Sign} {u : PortUnit} {t : Transfer} {pic : Pic} {d : Time}

/-! ### The steps that send frames -/

theorem restartSilence_withSign : restartSilence p s =
    s.withSign p s.signs[p] { s.ports[p] with silence := some (s.clock.now + 1000000000) } := by
  have same : s.signs.set p s.signs[p] = s.signs := vector_set_self ..
  rw [restartSilence_eq, State.withSign, same]
  rfl

theorem answered_eq : answered p s = s.withSign p { s.signs[p] with missed := 0 } s.ports[p] := modSign_withSign _

theorem sendRows_eq (h : s.ports[p].Queues (rowFrames t.result pic).length) : sendRows p t pic s = s.withSign p
    { s.signs[p] with transfer := some { t with await := .rows pic }, answerTimer := some (s.now + 500000000) }
    { s.ports[p] with queue := s.ports[p].queue ++ rowFrames t.result pic } := by
  unfold sendRows
  rw [modSign_withSign, sendServices_withSign (by rw [withSign_port]; exact h)]
  simp only [withSign_sign, withSign_port, withSign_twice]
  rfl

theorem sendSwitch_eq (h : s.ports[p].Queues 1) : sendSwitch p t s = s.withSign p
    { s.signs[p] with transfer := some { t with await := .shown .a, shownA := [] },
                      answerTimer := some (s.now + 500000000) }
    { s.ports[p] with queue := s.ports[p].queue ++ [⟨34, [if t.result.flashing then 1 else 0]⟩] } := by
  unfold sendSwitch
  rw [modSign_withSign, sendService_withSign (by rw [withSign_port]; exact h)]
  simp only [withSign_sign, withSign_port, withSign_twice]
  rfl

theorem endTransfer_eq : endTransfer p s =
    s.withSign p { s.signs[p] with transfer := none, answerTimer := none, retryTimer := none } s.ports[p] :=
  modSign_withSign _

/-! ### Answers (R151) -/

section
variable (transfer : s.signs[p].transfer = some t)
include transfer

theorem signReady_awaited (await : t.await = .ready pic) : signReady p s = sendRows p t pic (answered p s) := by
  simp only [signReady, transfer, await]

theorem signReady_ignored (await : ∀ pic, t.await ≠ .ready pic) : signReady p s = s := by
  unfold signReady
  simp only [transfer]

theorem signBusy_awaited (await : t.await = .ready pic) : signBusy p s = s.withSign p { s.signs[p] with
    transfer := some { t with await := .retry pic }, answerTimer := none, retryTimer := some (s.now + 100000000),
    busyCount := bump s.signs[p].busyCount, missed := 0 } s.ports[p] := by
  simp only [signBusy, transfer, await, modSign_withSign, answered_eq, withSign_sign, withSign_port, withSign_twice]
  rfl

theorem signBusy_ignored (await : ∀ pic, t.await ≠ .ready pic) : signBusy p s = s := by
  unfold signBusy
  simp only [transfer]

theorem signRowsTaken_awaited (await : t.await = .rows pic) : signRowsTaken p pic s =
    if pic = .a ∧ t.result.flashing = true then sendOffer p t .b (answered p s) else sendSwitch p t (answered p s) := by
  simp only [signRowsTaken, transfer, await, if_true]

theorem signRowsTaken_ignored (await : t.await ≠ .rows pic) : signRowsTaken p pic s = s := by
  simp only [signRowsTaken, transfer, if_neg await]

theorem signShown_first {checks : List (BitVec 16)} (await : t.await = .shown .a) (flashing : t.result.flashing = true) :
    signShown p .a checks s = s.withSign p { s.signs[p] with
      transfer := some { t with await := .shown .b, shownA := checks }, answerTimer := some (s.now + 500000000),
      missed := 0 } s.ports[p] := by
  simp only [signShown, transfer, await, flashing, if_true, and_self, modSign_withSign, answered_eq, withSign_sign,
    withSign_port, withSign_twice]
  rfl

theorem signShown_last {checks : List (BitVec 16)} (await : t.await = .shown pic)
    (last : pic = .b ∨ t.result.flashing = false) : signShown p pic checks s =
      if pic = .a then verify p t.result checks [] (answered p s)
      else verify p t.result t.shownA checks (answered p s) := by
  have single : ¬(pic = .a ∧ t.result.flashing = true) := by
    rintro ⟨rfl, flashing⟩
    rcases last with b | single
    · cases b
    · cases flashing.symm.trans single
  simp only [signShown, transfer, await, if_true, if_neg single]

theorem signShown_ignored {checks : List (BitVec 16)} (await : t.await ≠ .shown pic) : signShown p pic checks s = s := by
  simp only [signShown, transfer, if_neg await]

theorem signRetry_eq (timer : s.signs[p].retryTimer = some d) (await : t.await = .retry pic) :
    signRetry p s = sendOffer p t pic (reach d s) := by simp only [signRetry, timer, transfer, await]

theorem answerExpired_eq (timer : s.signs[p].answerTimer = some d) : answerExpired p s =
    let w := (reach d s).withSign p { s.signs[p] with
      missed := s.signs[p].missed + 1, missedTotal := bump s.signs[p].missedTotal, answerTimer := none } s.ports[p]
    if 3 ≤ s.signs[p].missed + 1 then portDown p w else resendStep p t w := by
  unfold answerExpired
  rw [timer, transfer]
  dsimp only
  rw [modSign_withSign, withSign_sign]
  rfl

end

/-- R151, R152: the frames of the sign at a port that is served reach the display controller. -/
theorem sign_served {i : Instr} {f : RxFrame} (profile : s.profile p = .sign) (up : s.ports[p].link = .up)
    (idle : s.rx[p] = none) (h : frameOf i = some (p, f)) (type : rxProfile f = some .sign) (good : lengthGood f = true) :
    exec i s = .next (serviceFrame p f
      (s.withSign p s.signs[p] { s.ports[p] with silence := some (s.clock.now + 1000000000) })) := by
  rw [frame_served (i := i) (f := f) (k := .sign) ⟨profile, up⟩ idle h type nofun good, restartSilence_withSign]

/-- Settles O40, answer by answer. -/
theorem signAnswersAdvanceTheTransfer : Obligations.SignAnswersAdvanceTheTransfer := by
  intro p s g tr profile up idle busy sign transfer now flashing rows gives answering fits
  subst sign
  obtain ⟨w, hw⟩ : ∃ w, w = s.withSign p s.signs[p] { s.ports[p] with silence := some (s.clock.now + 1000000000) } :=
    ⟨_, rfl⟩
  have unit : w.ports[p] = { s.ports[p] with silence := some (s.clock.now + 1000000000) } := by rw [hw, withSign_port]
  have sign : w.signs[p] = s.signs[p] := by rw [hw, withSign_sign]
  have replaced {g : Sign} {u : PortUnit} : w.withSign p g u = s.withSign p g u := by rw [hw, withSign_twice]
  have time : w.now = s.clock.now := by rw [hw]; rfl
  have going : w.signs[p].transfer = some tr := by rw [sign]; exact transfer
  have queues {n : Nat} (room : s.ports[p].queue.length + n ≤ 128) {g : Sign} :
      (s.withSign p g w.ports[p]).ports[p].Queues n := by
    rw [withSign_port, unit]
    exact ⟨up, busy, room⟩
  have given {i : Instr} {f : RxFrame} {g' : Sign} {frames : List Frame} (h : frameOf i = some (p, f))
      (type : rxProfile f = some .sign) (good : lengthGood f = true)
      (e : serviceFrame p f w = s.withSign p g' { w.ports[p] with queue := w.ports[p].queue ++ frames }) :
      gives i g' frames := by
    refine (sign_served profile up idle h type good).trans (congrArg Host.Outcome.next ?_)
    rw [← hw, e, unit]
    rfl
  have none' {g' : Sign} : s.withSign p g' w.ports[p] =
      s.withSign p g' { w.ports[p] with queue := w.ports[p].queue ++ [] } := by rw [List.append_nil]
  have still : w = s.withSign p s.signs[p] { w.ports[p] with queue := w.ports[p].queue ++ [] } := by
    rw [← none', unit, hw]
  refine ⟨fun pic await room => given (f := .ready) rfl rfl rfl ?_, fun pic await => given (f := .busy) rfl rfl rfl ?_,
    fun await flash room => given (f := .rowsTaken 0) rfl rfl rfl ?_,
    fun pic await last room => given (f := .rowsTaken (picByte pic)) rfl rfl rfl ?_,
    fun checks await flash => given (f := .shown 0 checks) rfl rfl rfl ?_,
    fun await => ⟨given (f := .ready) rfl rfl rfl ?_, given (f := .busy) rfl rfl rfl ?_⟩,
    fun pic await => given (f := .rowsTaken (picByte pic)) rfl rfl rfl ?_,
    fun pic checks await => given (f := .shown (picByte pic) checks) rfl rfl rfl ?_,
    fun pic d await timer room => congrArg Host.Outcome.next ?_⟩
  · refine (signReady_awaited going await).trans ?_
    rw [answered_eq, replaced, sendRows_eq (queues room)]
    simp only [withSign_sign, withSign_port, withSign_twice, withSign_now, sign]
    rfl
  · refine (signBusy_awaited going await).trans ?_
    rw [replaced, none', sign, time]
  · refine (signRowsTaken_awaited going await).trans ?_
    rw [if_pos ⟨rfl, flash⟩, answered_eq, replaced, sendOffer_eq (queues room)]
    simp only [withSign_sign, withSign_port, withSign_twice, withSign_now, sign]
    rfl
  · have taken : serviceFrame p (.rowsTaken (picByte pic)) w = signRowsTaken p pic w := by cases pic <;> rfl
    have single : ¬(pic = .a ∧ tr.result.flashing = true) := by
      rintro ⟨rfl, flash⟩
      rcases last with b | single
      · cases b
      · cases flash.symm.trans single
    rw [taken, signRowsTaken_awaited going await, if_neg single, answered_eq, replaced, sendSwitch_eq (queues room)]
    simp only [withSign_sign, withSign_port, withSign_twice, withSign_now, sign]
    rfl
  · refine (signShown_first going await flash).trans ?_
    rw [replaced, none', sign, time]
  · exact (signReady_ignored going await).trans still
  · exact (signBusy_ignored going await).trans still
  · have taken : serviceFrame p (.rowsTaken (picByte pic)) w = signRowsTaken p pic w := by cases pic <;> rfl
    exact (taken.trans (signRowsTaken_ignored going await)).trans still
  · have shown : serviceFrame p (.shown (picByte pic) checks) w = signShown p pic checks w := by cases pic <;> rfl
    exact (shown.trans (signShown_ignored going await)).trans still
  · exact (signRetry_eq transfer timer await).trans (sendOffer_eq ⟨up, busy, room⟩)

/-! ### Missed answers (R152) -/

theorem leaveTo_sign (profile : s.profile p = .sign) (up : s.ports[p].link = .up) (link : Link) :
    leaveTo p link s = s.withSign p { s.signs[p] with
      transfer := none, answerTimer := none, retryTimer := none, pendingResult := none, awaiting := false, missed := 0 }
      { s.ports[p] with link := link, queue := [] } := by
  have told : tellLeft p (modPort p (fun u => { u with link := link, queue := [] }) s) =
      signLinkLeft p (modPort p (fun u => { u with link := link, queue := [] }) s) := by
    rw [tellLeft, show (modPort p (fun u => { u with link := link, queue := [] }) s).profile p = .sign from profile]
  have left : modPort p (fun u => { u with link := link, queue := [] }) s =
      s.withSign p s.signs[p] { s.ports[p] with link := link, queue := [] } := by
    have same : s.signs.set p s.signs[p] = s.signs := vector_set_self ..
    rw [State.withSign, same]
    rfl
  rw [leaveTo, if_pos up, told, left, signLinkLeft, endTransfer_eq, modSign_withSign]
  simp only [withSign_sign, withSign_port, withSign_twice]

theorem portDown_sign (profile : s.profile p = .sign) (up : s.ports[p].link = .up) : portDown p s =
    s.withSign p { s.signs[p] with
      transfer := none, answerTimer := none, retryTimer := none, pendingResult := none, awaiting := false, missed := 0 }
      { s.ports[p] with link := .down, silence := none, queue := [] } := by
  have quiet : modPort p (fun u => { u with silence := none }) s =
      s.withSign p s.signs[p] { s.ports[p] with silence := none } := by
    have same : s.signs.set p s.signs[p] = s.signs := vector_set_self ..
    rw [State.withSign, same]
    rfl
  rw [portDown, quiet, leaveTo_sign (by rw [withSign_profile]; exact profile) (by rw [withSign_port]; exact up)]
  simp only [withSign_sign, withSign_port, withSign_twice]

/-- Settles O41: the step awaited, or the third missed answer. -/
theorem missedAnswersRepeatTheStepOrLoseTheSign : Obligations.MissedAnswersRepeatTheStepOrLoseTheSign := by
  intro p s g tr d profile up busy sign transfer timer rows again
  subst sign
  have missed := answerExpired_eq transfer timer
  generalize hw : (reach d s).withSign p { s.signs[p] with
    missed := s.signs[p].missed + 1, missedTotal := bump s.signs[p].missedTotal, answerTimer := none } s.ports[p] = w
    at missed
  have unit : w.ports[p] = s.ports[p] := by rw [← hw, withSign_port]
  have sign : w.signs[p] = { s.signs[p] with
      missed := s.signs[p].missed + 1, missedTotal := bump s.signs[p].missedTotal, answerTimer := none } := by
    rw [← hw, withSign_sign]
  have replaced {g : Sign} {u : PortUnit} : w.withSign p g u = (reach d s).withSign p g u := by rw [← hw, withSign_twice]
  have time : w.now = max s.clock.now d := by rw [← hw]; rfl
  have queues {n : Nat} (room : s.ports[p].queue.length + n ≤ 128) : w.ports[p].Queues n := by
    rw [unit]
    exact ⟨up, busy, room⟩
  have resend (few : s.signs[p].missed < 2) : answerExpired p s = resendStep p tr w :=
    missed.trans (if_neg (by omega))
  refine ⟨fun pic await room few => congrArg Host.Outcome.next ?_, fun pic await room few => congrArg Host.Outcome.next ?_,
    fun pic await room few => congrArg Host.Outcome.next ?_, fun third => congrArg Host.Outcome.next ?_⟩
  · rw [await]
    have step : resendStep p tr w = sendOffer p tr pic w := by simp only [resendStep, await]
    have waiting : ({ tr with await := .ready pic } : Transfer) = tr := by rw [← await]
    refine ((resend few).trans step).trans ((sendOffer_eq (queues room)).trans ?_)
    rw [replaced, sign, unit, time, waiting]
    rfl
  · rw [await]
    have step : resendStep p tr w = sendRows p tr pic w := by simp only [resendStep, await]
    have waiting : ({ tr with await := .rows pic } : Transfer) = tr := by rw [← await]
    refine ((resend few).trans step).trans ((sendRows_eq (queues room)).trans ?_)
    rw [replaced, sign, unit, time, waiting]
    rfl
  · rw [await]
    have step : resendStep p tr w = sendSwitch p tr w := by simp only [resendStep, await]
    refine ((resend few).trans step).trans ((sendSwitch_eq (queues room)).trans ?_)
    rw [replaced, sign, unit, time]
    rfl
  · have down : answerExpired p s = portDown p w := missed.trans (if_pos (by omega))
    have profile' : w.profile p = .sign := by rw [← hw]; exact profile
    refine down.trans ((portDown_sign profile' (unit ▸ up)).trans ?_)
    rw [replaced, sign, unit]
    rfl

/-! ### Verification and escalation (R153 to R155) -/

section
variable {r : Result}

theorem transferPending_none (h : s.signs[p].pendingResult = none) : transferPending p s = s := by
  simp only [transferPending, h]

theorem transferPending_some (h : s.signs[p].pendingResult = some r) : transferPending p s =
    startTransfer p r (s.withSign p { s.signs[p] with pendingResult := none } s.ports[p]) := by
  unfold transferPending
  rw [h]
  dsimp only
  rw [modSign_withSign]

variable {shownA shownB : List (BitVec 16)}

theorem verify_agrees (h : shownA = r.checksA ∧ (r.flashing = false ∨ shownB = r.checksB)) :
    verify p r shownA shownB s = transferPending p (s.withSign p { s.signs[p] with
      transfer := none, answerTimer := none, retryTimer := none, stage := stageAfter s.signs[p].stage r.page }
      s.ports[p]) := by
  rw [verify, if_pos h, endTransfer_eq, modSign_withSign]
  simp only [withSign_sign, withSign_port, withSign_twice]

theorem verify_fails (h : ¬(shownA = r.checksA ∧ (r.flashing = false ∨ shownB = r.checksB))) :
    verify p r shownA shownB s = escalate p r
      (s.withSign p { s.signs[p] with verifyFails := bump s.signs[p].verifyFails } s.ports[p]) := by
  rw [verify, if_neg h, modSign_withSign]

/-- The sign at stage 1, its transfer ended. -/
theorem escalate_first_none (stage : s.signs[p].stage = 0) (pending : s.signs[p].pendingResult = none) :
    escalate p r s = startTransfer p r (s.withSign p { s.signs[p] with
      transfer := none, answerTimer := none, retryTimer := none, stage := 1 } s.ports[p]) := by
  unfold escalate
  rw [if_pos stage, endTransfer_eq, modSign_withSign]
  simp only [withSign_sign, withSign_port, withSign_twice]
  split
  · next e => cases e.symm.trans pending
  · rfl

theorem escalate_first_some {x : Result} (stage : s.signs[p].stage = 0) (pending : s.signs[p].pendingResult = some x) :
    escalate p r s = transferPending p (s.withSign p { s.signs[p] with
      transfer := none, answerTimer := none, retryTimer := none, stage := 1 } s.ports[p]) := by
  unfold escalate
  rw [if_pos stage, endTransfer_eq, modSign_withSign]
  simp only [withSign_sign, withSign_port, withSign_twice]
  split
  · rfl
  · next e => cases e.symm.trans pending

theorem escalate_dark (stage : s.signs[p].stage = 2) (page : r.page = 0) : escalate p r s = enterDark p s := by
  rw [escalate, if_neg (by omega), if_pos ⟨stage, page⟩]

theorem escalate_falls (stage : s.signs[p].stage = 1 ∨ (s.signs[p].stage = 2 ∧ r.page ≠ 0)) :
    escalate p r s = fallBack p s := by
  rw [escalate, if_neg (by omega), if_neg]
  rintro ⟨two, page⟩
  rcases stage with one | ⟨_, other⟩
  · omega
  · exact other page

end

theorem enterDark_eq (h : s.ports[p].Queues 1) : enterDark p s = s.withSign p { s.signs[p] with
    transfer := none, answerTimer := none, retryTimer := none, dark := true, pendingResult := none, awaiting := false }
    { s.ports[p] with queue := s.ports[p].queue ++ [⟨35, []⟩] } := by
  rw [enterDark, endTransfer_eq, modSign_withSign, sendService_withSign (by simp only [withSign_port]; exact h)]
  simp only [withSign_sign, withSign_port, withSign_twice]
  rfl

theorem setTarget_eq (page : Fin 8) : setTarget p page s = s.withSign p { s.signs[p] with
    target := page, pendingResult := if s.signs[p].target = page then s.signs[p].pendingResult else none } s.ports[p] := by
  unfold setTarget
  split
  · next h =>
    subst h
    have same : s.signs.set p s.signs[p] = s.signs := vector_set_self ..
    rw [withSign_unit]
    exact (congrArg s.setSigns same).symm
  · exact modSign_withSign _

theorem composeRequest_busy {page : Fin 8} (phase : s.phase = .active ∨ s.phase = .starting)
    (busy : s.signs[p].compose ≠ none) :
    composeRequest p page s = s.withSign p { s.signs[p] with slot := some page } s.ports[p] := by
  rw [composeRequest, if_pos (Or.symm phase), if_pos (Option.isSome_iff_ne_none.mpr busy), modSign_withSign]

theorem composeRequest_idle {page : Fin 8} (phase : s.phase = .active ∨ s.phase = .starting)
    (idle : s.signs[p].compose = none) (geometry : s.signs[p].geometry ≠ none) :
    composeRequest p page s = startCompose p page s := by
  rw [composeRequest, if_pos (Or.symm phase), if_neg (by rw [idle]; decide),
    if_pos (Option.isSome_iff_ne_none.mpr geometry)]

theorem requestTarget_served (up : s.ports[p].link = .up) (lit : s.signs[p].dark = false)
    (phase : s.phase = .active ∨ s.phase = .starting) : requestTarget p s =
      composeRequest p s.signs[p].target (s.withSign p { s.signs[p] with awaiting := true } s.ports[p]) := by
  rw [requestTarget, if_pos, modSign_withSign]
  rcases phase with e | e <;> simp [-Fin.getElem_fin, State.inService, up, lit, e]

theorem requestTarget_unserved (h : ¬(s.ports[p].link = .up ∧ s.signs[p].dark = false)) : requestTarget p s = s := by
  refine if_neg fun served => h ?_
  simp only [State.inService, Bool.and_eq_true, decide_eq_true_eq, Bool.not_eq_true'] at served
  exact served.1.1

/-- R149: a request while the composer is busy waits in the slot. -/
theorem requestTarget_busy (up : s.ports[p].link = .up) (lit : s.signs[p].dark = false)
    (phase : s.phase = .active ∨ s.phase = .starting) (busy : s.signs[p].compose ≠ none) : requestTarget p s =
      s.withSign p { s.signs[p] with awaiting := true, slot := some s.signs[p].target } s.ports[p] := by
  rw [requestTarget_served up lit phase, composeRequest_busy (by rw [withSign_phase]; exact phase)
    (by rw [withSign_sign]; exact busy)]
  simp only [withSign_sign, withSign_port, withSign_twice]

theorem fallBack_busy (up : s.ports[p].link = .up) (lit : s.signs[p].dark = false)
    (phase : s.phase = .active ∨ s.phase = .starting) (busy : s.signs[p].compose ≠ none) : fallBack p s =
      s.withSign p { s.signs[p] with
        transfer := none, answerTimer := none, retryTimer := none, stage := 2, pendingResult := none, target := 0,
        awaiting := true, slot := some 0 } s.ports[p] := by
  have fallen : setTarget p 0 (modSign p (fun g => { g with stage := 2, pendingResult := none }) (endTransfer p s)) =
      s.withSign p { s.signs[p] with
        transfer := none, answerTimer := none, retryTimer := none, stage := 2, pendingResult := none, target := 0 }
        s.ports[p] := by
    rw [endTransfer_eq, modSign_withSign, setTarget_eq]
    simp only [withSign_sign, withSign_port, withSign_twice, ite_self]
  rw [fallBack, fallen, requestTarget_busy (by rw [withSign_port]; exact up) (by rw [withSign_sign]; exact lit)
    (by rw [withSign_phase]; exact phase) (by rw [withSign_sign]; exact busy)]
  simp only [withSign_sign, withSign_port, withSign_twice]

/-- Settles O42: `verify` by whether the checks agree, and `escalate` by the stage. -/
theorem verificationMovesTheStage : Obligations.VerificationMovesTheStage := by
  intro p s g tr pic checks profile up idle busy room sign transfer await last r agree ended failed heard becomes offering
  subst sign
  obtain ⟨w, hw⟩ : ∃ w, w = s.withSign p { s.signs[p] with missed := 0 }
    { s.ports[p] with silence := some (s.clock.now + 1000000000) } := ⟨_, rfl⟩
  have unit : w.ports[p] = heard := by rw [hw, withSign_port]
  have sign : w.signs[p] = { s.signs[p] with missed := 0 } := by rw [hw, withSign_sign]
  have replaced {g : Sign} {u : PortUnit} : w.withSign p g u = s.withSign p g u := by rw [hw, withSign_twice]
  have queues {g : Sign} : (s.withSign p g heard).ports[p].Queues 1 := by
    rw [withSign_port]
    exact ⟨up, busy, room⟩
  have shows : ∃ a b, exec (.shown p pic checks) s = .next (verify p r a b w) ∧
      (agree ↔ a = r.checksA ∧ (r.flashing = false ∨ b = r.checksB)) := by
    have served := sign_served (i := .shown p pic checks) (f := .shown (picByte pic) checks) profile up idle rfl rfl rfl
    have shown (x : State) : serviceFrame p (.shown (picByte pic) checks) x = signShown p pic checks x := by
      cases pic <;> rfl
    rw [shown, signShown_last (by rw [withSign_sign]; exact transfer) await last, answered_eq] at served
    simp only [withSign_sign, withSign_port, withSign_twice] at served
    rw [← hw] at served
    by_cases first : pic = .a
    · have single : r.flashing = false := last.resolve_left fun b => by cases first.symm.trans b
      rw [if_pos first] at served
      refine ⟨_, _, served, ?_⟩
      simp only [agree, if_pos first, single, true_or, and_true]
    · rw [if_neg first] at served
      refine ⟨_, _, served, ?_⟩
      simp only [agree, if_neg first]
  obtain ⟨a, b, exec, agrees⟩ := shows
  have none' {g' : Sign} : s.withSign p g' heard = s.withSign p g' { heard with queue := heard.queue ++ [] } := by
    rw [List.append_nil]
  have becoming {g' : Sign} {frames : List Frame}
      (e : verify p r a b w = s.withSign p g' { heard with queue := heard.queue ++ frames }) : becomes g' frames :=
    exec.trans (congrArg Host.Outcome.next e)
  have offers {x : Result} {v : State} {g' : Sign} (e : verify p r a b w = startTransfer p x v)
      (hv : v = s.withSign p g' heard) (retry : g'.retryTimer = none) : offering x g' := by
    refine becoming (e.trans ?_)
    rw [hv, startTransfer_eq queues]
    simp only [withSign_sign, withSign_port, withSign_twice, ← retry]
    rfl
  have failing (h : ¬agree) : verify p r a b w =
      escalate p r (s.withSign p { s.signs[p] with missed := 0, verifyFails := bump s.signs[p].verifyFails } heard) := by
    rw [verify_fails fun e => h (agrees.mpr e), replaced, sign, unit]
  have passing (h : agree) : verify p r a b w = transferPending p (s.withSign p { s.signs[p] with
      transfer := none, answerTimer := none, retryTimer := none, missed := 0,
      stage := stageAfter s.signs[p].stage r.page } heard) := by
    rw [verify_agrees (agrees.mp h), replaced, sign, unit]
  refine ⟨fun h pending => becoming ?_, fun x h pending => offers ?_ rfl rfl, fun h stage pending => offers ?_ rfl rfl,
    fun x h stage pending => offers ?_ rfl rfl, fun h stage phase lit c compose => becoming ?_,
    fun h stage page => becoming ?_⟩
  · rw [passing h, transferPending_none (by rw [withSign_sign]; exact pending), none']
    rfl
  · rw [passing h, transferPending_some (by rw [withSign_sign]; exact pending)]
    simp only [withSign_sign, withSign_port, withSign_twice]
    rfl
  · rw [failing h, escalate_first_none (by rw [withSign_sign]; exact stage) (by rw [withSign_sign]; exact pending)]
    simp only [withSign_sign, withSign_port, withSign_twice]
    rfl
  · rw [failing h, escalate_first_some (by rw [withSign_sign]; exact stage) (by rw [withSign_sign]; exact pending),
      transferPending_some (by rw [withSign_sign, withSign_sign]; exact pending)]
    simp only [withSign_sign, withSign_port, withSign_twice]
    rfl
  · rw [failing h, escalate_falls (by rw [withSign_sign]; exact stage), fallBack_busy, none']
    · simp only [withSign_sign, withSign_port, withSign_twice]
      rfl
    · rw [withSign_port]; exact up
    · rw [withSign_sign]; exact lit
    · exact phase
    · rw [withSign_sign]; exact fun e => by cases compose.symm.trans e
  · rw [failing h, escalate_dark (by rw [withSign_sign]; exact stage) page, enterDark_eq queues]
    simp only [withSign_sign, withSign_port, withSign_twice]
    rfl

end Sys2Proof.Machine
end

section
/-! PROOFS. The selected page claim (R141, R142), SHOW (R143) and SIGN-RESTORE (R156). -/

namespace Sys2Proof.Machine

variable {p : Port} {s : State} {g : Sign} {page prio : Byte}

/-! ### The selected entry (R142) -/

/-- R142: what the selected entry is the greatest of: priority, then the order counted from a base. -/
def claimKey (base : BitVec 16) (c : PageClaim) : Int := c.priority * 65536 + (c.order - base).toNat

theorem outranks_iff {base : BitVec 16} {a b : PageClaim} (ha : (a.order - base).toNat < 32768)
    (hb : (b.order - base).toNat < 32768) : outranks a b = true ↔ claimKey base b < claimKey base a := by
  rw [outranks, Bool.or_eq_true, Bool.and_eq_true, decide_eq_true_eq, decide_eq_true_eq, isBefore_iff hb ha, claimKey,
    claimKey]
  omega

theorem selectedClaim_best {claims : List PageClaim} {base : BitVec 16} (some' : claims ≠ [])
    (near : ∀ c ∈ claims, (c.order - base).toNat < 32768) : selectedClaim claims ∈ claims ∧
      ∀ c ∈ claims, claimKey base c ≤ claimKey base (selectedClaim claims) := by
  cases claims with
  | nil => exact absurd rfl some'
  | cons x rest => exact foldl_best (claimKey base) x rest fun a ha b hb => outranks_iff (near a ha) (near b hb)

/-! ### A change of the claims list (R149) -/

theorem changeClaims_same {f : Sign → Sign} (same : selectedPage (f s.signs[p]) = selectedPage s.signs[p]) :
    changeClaims p f s = s.withSign p (f s.signs[p]) s.ports[p] := by
  unfold changeClaims
  rw [modSign_withSign]
  exact if_pos (by rw [withSign_sign]; exact same)

theorem changeClaims_other {f : Sign → Sign} (other : selectedPage (f s.signs[p]) ≠ selectedPage s.signs[p]) :
    changeClaims p f s = trySelected p (s.withSign p (f s.signs[p]) s.ports[p]) := by
  unfold changeClaims
  rw [modSign_withSign]
  exact if_neg (by rw [withSign_sign]; exact other)

/-- R149: the sign whose target is its selected page. -/
def Sign.aimed (g : Sign) : Sign := { g with
  target := selectedPage g, pendingResult := if g.target = selectedPage g then g.pendingResult else none }

theorem setTarget_selected : setTarget p (selectedPage s.signs[p]) s = s.withSign p s.signs[p].aimed s.ports[p] :=
  setTarget_eq _

theorem trySelected_unserved (h : ¬(s.ports[p].link = .up ∧ s.signs[p].dark = false)) :
    trySelected p s = s.withSign p s.signs[p].aimed s.ports[p] := by
  rw [trySelected, setTarget_selected, requestTarget_unserved]
  rw [withSign_sign, withSign_port]
  exact h

theorem trySelected_busy (up : s.ports[p].link = .up) (lit : s.signs[p].dark = false) (active : s.phase = .active)
    (busy : s.signs[p].compose ≠ none) : trySelected p s = s.withSign p { s.signs[p].aimed with
      awaiting := true, slot := some (selectedPage s.signs[p]) } s.ports[p] := by
  rw [trySelected, setTarget_selected, requestTarget_busy]
  · rw [withSign_sign, withSign_port, withSign_twice]
    rfl
  · rw [withSign_port]; exact up
  · rw [withSign_sign]; exact lit
  · exact .inl active
  · rw [withSign_sign]; exact busy

theorem trySelected_idle {w h : Nat} (up : s.ports[p].link = .up) (lit : s.signs[p].dark = false)
    (active : s.phase = .active) (idle : s.signs[p].compose = none) (geometry : s.signs[p].geometry = some (w, h))
    (full : s.signs[p].pages[selectedPage s.signs[p]] ≠ []) : trySelected p s = s.withSign p { s.signs[p].aimed with
      awaiting := true
      compose := some ⟨selectedPage s.signs[p], s.signs[p].pages[selectedPage s.signs[p]], 0, 0,
        List.replicate h (List.replicate w 0), List.replicate h (List.replicate w 0), w, h⟩ } s.ports[p] := by
  rw [trySelected, setTarget_selected, requestTarget_served, composeRequest_idle, startCompose_eq (w := w) (h := h)]
  all_goals simp only [withSign_sign, withSign_port, withSign_twice, withSign_phase]
  · rfl
  · exact geometry
  · exact full
  · exact .inl active
  · exact idle
  · exact fun e => by cases geometry.symm.trans e
  · exact up
  · exact lit
  · exact .inl active

/-! ### SHOW (R143) -/

theorem withClaim_plain {source : ClaimSource} {pg : Fin 8} {x : Nat}
    (inOrder : ∀ c ∈ g.claims, g.claimCount + 1 - c.order ≠ 32768) : withClaim source pg x g = { g with
      claims := g.claims.filter (fun c => decide (c.source ≠ source)) ++ [⟨source, pg, x, g.claimCount + 1⟩]
      claimCount := g.claimCount + 1 } := by
  have plain : advanceOrder g.claimCount (g.claims.map (·.order)) = (id, g.claimCount + 1) := by
    refine if_neg fun e => ?_
    obtain ⟨o, mem, wrap⟩ := List.any_eq_true.mp e
    obtain ⟨c, hc, rfl⟩ := List.mem_map.mp mem
    exact inOrder c hc (of_decide_eq_true wrap)
  have same : g.claims.map (fun c => { c with order := id c.order }) = g.claims := List.map_id _
  unfold withClaim
  rw [plain]
  dsimp only
  rw [same]

theorem withClaim_renumbered {source : ClaimSource} {pg : Fin 8} {x : Nat}
    (wraps : ∃ c ∈ g.claims, g.claimCount + 1 - c.order = 32768) :
    (withClaim source pg x g).claimCount = BitVec.ofNat 16 g.claims.length ∧
      ∀ c ∈ (withClaim source pg x g).claims, c.order.toNat ≤ g.claims.length := by
  obtain ⟨c, hc, wrap⟩ := wraps
  have any : (g.claims.map (·.order)).any (fun o => decide (g.claimCount + 1 - o = 32768)) = true :=
    List.any_eq_true.mpr ⟨c.order, List.mem_map_of_mem hc, decide_eq_true wrap⟩
  have renumbered : advanceOrder g.claimCount (g.claims.map (·.order)) =
      (fun o => BitVec.ofNat 16 ((g.claims.map (·.order)).countP (fun o' => isBefore o' o)),
        BitVec.ofNat 16 (g.claims.map (·.order)).length) := if_pos any
  have small (n : Nat) : (BitVec.ofNat 16 n).toNat ≤ n := by
    rw [BitVec.toNat_ofNat]
    exact Nat.mod_le ..
  unfold withClaim
  rw [renumbered]
  dsimp only
  rw [List.length_map]
  refine ⟨rfl, fun y hy => ?_⟩
  rcases List.mem_append.mp hy with hy | hy
  · obtain ⟨x, _, rfl⟩ := List.mem_map.mp (List.mem_filter.mp hy).1
    exact Nat.le_trans (small _) (Nat.le_trans List.countP_le_length (Nat.le_of_eq (List.length_map _)))
  · rw [List.mem_singleton.mp hy]
    exact small _

/-- R141: what placing a claim leaves of the others, apart from their orders. -/
theorem withClaim_entries (source : ClaimSource) (pg : Fin 8) (x : Nat) (g : Sign) :
    (withClaim source pg x g).claims.map (fun c => (c.source, c.page, c.priority)) =
      (g.claims.filter (fun c => decide (c.source ≠ source))).map (fun c => (c.source, c.page, c.priority)) ++
        [(source, pg, x)] := by
  unfold withClaim
  simp only [List.map_append, List.filter_map, List.map_map, List.map_cons, List.map_nil]
  rfl

theorem showOn_range (other : page ≠ 255) (bad : ¬(page.toNat ≤ 7 ∧ 1 ≤ prio.toNat ∧ prio.toNat ≤ 7)) :
    showOn page prio p s = rejected .range s := by
  rw [showOn, if_neg other, if_neg bad]
  rfl

theorem showOn_places (good : page.toNat ≤ 7 ∧ 1 ≤ prio.toNat ∧ prio.toNat ≤ 7) :
    showOn page prio p s = changeClaims p (withClaim .centre (Fin.ofNat 8 page.toNat) prio.toNat) s := by
  have other : page ≠ 255 := by
    rintro rfl
    exact absurd good.1 (by decide)
  rw [showOn, if_neg other, if_pos good]
  rfl

/-- Settles O43: `foldl_best` for the selection, `changeClaims` and `trySelected` for the commands. -/
theorem selectionShowAndSignRestore : Obligations.SelectionShowAndSignRestore := by
  refine ⟨fun claims base some' near => ?_, fun via p page prio s g admitted unicast sign hg => ?_⟩
  · obtain ⟨mem, best⟩ := selectedClaim_best some' near
    refine ⟨mem, fun c hc => ?_⟩
    have key := best c hc
    have hc := near c hc
    have hs := near _ mem
    rw [claimKey, claimKey] at key
    omega
  · subst hg
    intro shown places others served becomes reaches restored
    have active : s.phase = .active := admitted.1
    have show' : shown = .next (showOn page prio p s) := by
      refine (exec_admitted (c := .showPage (natByte p.val) page prio) admitted rfl rfl).trans
        (congrArg Host.Outcome.next (Eq.trans ?_ (portCommand_one (fit := [.sign]) (by rw [sign]; decide))))
      rw [commandEffect, unicast]
    have restore : exec (.signRestore via (natByte p.val)) s = .next (restoreSign p s) := by
      refine (exec_admitted (c := .signRestore (natByte p.val)) admitted rfl rfl).trans
        (congrArg Host.Outcome.next (Eq.trans ?_ (portCommand_one (fit := [.sign]) (by rw [sign]; decide))))
      rw [commandEffect, unicast]
    have restarts : restoreSign p s = trySelected p (s.withSign p { s.signs[p] with
        dark := false, stage := 0, missed := 0, pendingResult := none, transfer := none, answerTimer := none,
        retryTimer := none } s.ports[p]) := by
      unfold restoreSign
      rw [endTransfer_eq, modSign_withSign]
      simp only [withSign_sign, withSign_port, withSign_twice]
    have reach {f : Sign → Sign} (e : showOn page prio p s = changeClaims p f s)
        (dark : (f s.signs[p]).dark = s.signs[p].dark) (compose : (f s.signs[p]).compose = s.signs[p].compose)
        (target : (f s.signs[p]).target = s.signs[p].target)
        (pending : (f s.signs[p]).pendingResult = s.signs[p].pendingResult) : reaches (f s.signs[p]) := by
      have aimed : (f s.signs[p]).aimed = { f s.signs[p] with
          target := selectedPage (f s.signs[p]), pendingResult := if s.signs[p].target = selectedPage (f s.signs[p])
            then s.signs[p].pendingResult else none } := by
        rw [Sign.aimed, target, pending]
      have becomes_of {g' : Sign} (h : changeClaims p f s = s.withSign p g' s.ports[p]) : shown = becomes g' :=
        show'.trans (congrArg Host.Outcome.next (e.trans (h.trans withSign_unit)))
      refine ⟨fun same => becomes_of (changeClaims_same same), fun other unserved => becomes_of ?_,
        fun other ⟨up, lit⟩ busy => becomes_of ?_⟩
      · rw [changeClaims_other other, trySelected_unserved, withSign_sign, withSign_port, withSign_twice, aimed]
        rw [withSign_sign, withSign_port, dark]
        exact unserved
      · rw [changeClaims_other other, trySelected_busy (by rw [withSign_port]; exact up)
          (by rw [withSign_sign, dark]; exact lit) (by rw [withSign_phase]; exact active) (by rw [withSign_sign, compose]; exact busy),
          withSign_sign, withSign_port, withSign_twice, aimed]
    have restoring {g' : Sign} (h : restoreSign p s = s.withSign p g' s.ports[p]) :
        exec (.signRestore via (natByte p.val)) s = becomes g' :=
      restore.trans (congrArg Host.Outcome.next (h.trans withSign_unit))
    refine ⟨fun other bad => ?_, fun clear => reach (f := withoutClaim .centre) (if_pos clear) rfl rfl rfl rfl,
      fun good inOrder => ?_, fun good wraps => ?_, fun off => restoring ?_, fun up busy => restoring ?_,
      fun w h up idle geometry full => restoring ?_⟩
    · rw [show', showOn_range other bad]
    · have placed := reach (showOn_places good) rfl rfl rfl rfl
      rwa [withClaim_plain inOrder] at placed
    · refine ⟨_, show'.trans (congrArg Host.Outcome.next (showOn_places good)), ?_, ?_, ?_⟩
      · rw [changeClaims_claims, if_pos rfl]
        exact withClaim_entries ..
      · rw [changeClaims_claimCount, if_pos rfl]
        exact (withClaim_renumbered wraps).1
      · rw [changeClaims_claims, if_pos rfl]
        exact (withClaim_renumbered wraps).2
    · rw [restarts, trySelected_unserved (by rw [withSign_port]; exact fun h => off h.1), withSign_sign, withSign_port,
        withSign_twice]
      simp only [Sign.aimed, ite_self]
      rfl
    · rw [restarts, trySelected_busy (by rw [withSign_port]; exact up) (by rw [withSign_sign])
        (by rw [withSign_phase]; exact active)
        (by rw [withSign_sign]; exact busy), withSign_sign, withSign_port, withSign_twice]
      simp only [Sign.aimed, ite_self]
      rfl
    · rw [restarts, trySelected_idle (by rw [withSign_port]; exact up) (by rw [withSign_sign])
        (by rw [withSign_phase]; exact active)
        (by rw [withSign_sign]; exact idle) (by rw [withSign_sign]; exact geometry)
        (by simp only [withSign_sign]; exact full)]
      simp only [withSign_sign, withSign_port, withSign_twice, Sign.aimed, ite_self]
      rfl

end Sys2Proof.Machine
end

section
/-! PROOFS. The response table (R144 to R148). Placing an entry's claims and removing them are read off the lists port by port
(`forPorts_at`); the claims of other sources keep page and priority (`PageClaim.entry`). -/

namespace Sys2Proof.Machine

variable {s t u : State} {k : Fin 16} {p : Port} {v : Bool} {e : Response}

/-! ### Claims port by port -/

/-- What `forPorts` leaves of one port, where the work for another port does not touch it. -/
theorem forPorts_at {α : Type} {f : Port → State → State} {g : State → α} {F : α → α} (I : State → Prop)
    (keep : ∀ q t, I t → I (f q t)) (other : ∀ q t, q ≠ p → g (f q t) = g t) (own : ∀ t, I t → g (f p t) = F (g t))
    (h : I s) : g (forPorts f s) = F (g s) := by
  unfold forPorts
  match p with
  | 0 =>
    rw [other 3 _ (by decide), other 2 _ (by decide), other 1 _ (by decide), own _ h]
  | 1 =>
    rw [other 3 _ (by decide), other 2 _ (by decide), own _ (keep 0 _ h), other 0 _ (by decide)]
  | 2 =>
    rw [other 3 _ (by decide), own _ (keep 1 _ (keep 0 _ h)), other 1 _ (by decide), other 0 _ (by decide)]
  | 3 =>
    rw [own _ (keep 2 _ (keep 1 _ (keep 0 _ h))), other 2 _ (by decide), other 1 _ (by decide), other 0 _ (by decide)]

/-- R141: an entry of a claims list without its order. -/
def PageClaim.entry (c : PageClaim) : ClaimSource × Fin 8 × Nat := (c.source, c.page, c.priority)

/-- The claims list of a port without the orders. -/
def State.entries (s : State) (p : Port) : List (ClaimSource × Fin 8 × Nat) := s.signs[p].claims.map PageClaim.entry

theorem placeClaims_entries (k : Fin 16) (s : State) (p : Port) : (placeClaims k s).entries p =
    if s.responses[k].mask.getLsbD p.val = true ∧ s.profile p = .sign then
      (s.entries p).filter (fun x => decide (x.1 ≠ .response k)) ++
        [(.response k, s.responses[k].page, s.responses[k].priority)]
    else s.entries p := by
  refine forPorts_at (p := p) (g := fun t => t.entries p)
    (F := fun l => if s.responses[k].mask.getLsbD p.val = true ∧ s.profile p = .sign then
      l.filter (fun x => decide (x.1 ≠ .response k)) ++ [(.response k, s.responses[k].page, s.responses[k].priority)]
      else l)
    (fun t => t.responses = s.responses ∧ t.straps = s.straps) (fun q t h => ?_) (fun q t h => ?_) (fun t h => ?_)
    ⟨rfl, rfl⟩
  · split
    · exact ⟨Eq.trans ((placeClaim_keeps ..).same .responses (by decide)) h.1,
        Eq.trans ((placeClaim_keeps ..).same .straps (by decide)) h.2⟩
    · exact h
  · split
    · exact congrArg (List.map PageClaim.entry) ((changeClaims_claims ..).trans (if_neg (Ne.symm h)))
    · rfl
  · obtain ⟨responses, straps⟩ := h
    have profile : t.profile p = s.profile p := by rw [State.profile, straps]; rfl
    rw [responses, profile]
    by_cases named : s.responses[k].mask.getLsbD p.val = true ∧ s.profile p = .sign
    · rw [if_pos (by simpa [inMask] using named), if_pos named]
      refine (congrArg (List.map PageClaim.entry) ((changeClaims_claims ..).trans (if_pos rfl))).trans ?_
      refine (withClaim_entries ..).trans (congrArg (· ++ _) ?_)
      rw [State.entries, List.filter_map]
      rfl
    · rw [if_neg (by simpa [inMask] using named), if_neg named]

/-- The entries of one source, as page and priority. -/
theorem entries_of (s : State) (p : Port) (k : Fin 16) :
    (s.signs[p].claims.filter (fun c => decide (c.source = .response k))).map (fun c => (c.page, c.priority)) =
      ((s.entries p).filter (fun x => decide (x.1 = .response k))).map Prod.snd := by
  rw [State.entries, List.filter_map, List.map_map]
  rfl

/-- The entries of the other sources. -/
theorem entries_others (s : State) (p : Port) (k : Fin 16) :
    (s.signs[p].claims.filter (fun c => decide (c.source ≠ .response k))).map (fun c => (c.source, c.page, c.priority)) =
      (s.entries p).filter (fun x => decide (x.1 ≠ .response k)) := by
  rw [State.entries, List.filter_map]
  rfl

theorem removeClaims_entries (k : Fin 16) (s : State) (p : Port) : (removeClaims k s).entries p =
    (s.entries p).filter (fun x => decide (x.1 ≠ .response k)) := by
  rw [State.entries, removeClaims_claims]
  exact entries_others s p k

/-! ### One entry replaced -/

/-- The state with response entry `k` replaced. -/
def State.withResponse (s : State) (k : Fin 16) (e : Response) : State := s.setResponses (s.responses.set k e)

@[simp] theorem withResponse_get {e : Response} : (s.withResponse k e).responses[k] = e := vector_get_set ..

@[simp] theorem withResponse_twice {e e' : Response} : (s.withResponse k e).withResponse k e' = s.withResponse k e' := by
  unfold State.withResponse
  simp only [State.setResponses_responses, vector_set_set]
  rfl

@[simp] theorem withResponse_signs {e : Response} : (s.withResponse k e).signs = s.signs := rfl

theorem withResponse_keeps (e : Response) : SameBut [.responses] s (s.withResponse k e) := State.setResponses_keeps

/-! ### The steps of an entry (R146 to R148) -/

theorem removeClaims_unclaimed (k : Fin 16) (s : State) : ∀ c ∈ (removeClaims k s).signs[p].claims,
    c.source ≠ .response k := by
  rw [removeClaims_claims]
  exact fun c hc => of_decide_eq_true (List.mem_filter.mp hc).2

/-- R147: the claims of an entry that has claimed. -/
theorem placeClaims_claimed (k : Fin 16) (s : State) (p : Port) :
    ((placeClaims k s).signs[p].claims.filter (fun c => decide (c.source = .response k))).map
        (fun c => (c.page, c.priority)) =
      if s.responses[k].mask.getLsbD p.val = true ∧ s.profile p = .sign
      then [(s.responses[k].page, s.responses[k].priority)]
      else (s.signs[p].claims.filter (fun c => decide (c.source = .response k))).map (fun c => (c.page, c.priority)) := by
  rw [entries_of, placeClaims_entries, entries_of]
  by_cases named : s.responses[k].mask.getLsbD p.val = true ∧ s.profile p = .sign
  · rw [if_pos named, if_pos named, List.filter_append, List.filter_filter]
    have none' : (s.entries p).filter (fun x => decide (x.1 = .response k) && decide (x.1 ≠ .response k)) = [] :=
      List.filter_eq_nil_iff.mpr fun x _ h => by simp at h
    rw [none', List.nil_append, List.filter_cons_of_pos (by exact decide_eq_true rfl)]
    rfl
  · rw [if_neg named, if_neg named]

theorem respondEntry_same (h : conditionValue s s.responses[k].condition = s.responses[k].value) :
    respondEntry s k = s := if_pos h

theorem respondEntry_changed (hv : v = conditionValue s s.responses[k].condition) (h : v ≠ s.responses[k].value) :
    respondEntry s k = let w := s.withResponse k { s.responses[k] with value := v }
      if s.responses[k].enable then (if s.responses[k].latch then latchStep k v w else levelStep k v w) else w := by
  subst hv
  exact if_neg h

/-- R147: the claims of an entry that claims after its change, and the table as the change left it. -/
theorem placeClaims_changed (s : State) (k : Fin 16) (e : Response) :
    (placeClaims k (s.withResponse k e)).responses = s.responses.set k e ∧
      ∀ p : Port, ((placeClaims k (s.withResponse k e)).signs[p].claims.filter
          (fun c => decide (c.source = .response k))).map (fun c => (c.page, c.priority)) =
        if e.mask.getLsbD p.val = true ∧ s.profile p = .sign then [(e.page, e.priority)]
        else (s.signs[p].claims.filter (fun c => decide (c.source = .response k))).map (fun c => (c.page, c.priority)) := by
  refine ⟨(placeClaims_keeps ..).same .responses (by decide), fun p => ?_⟩
  rw [placeClaims_claimed, withResponse_get]
  rfl

theorem removeClaims_changed (s : State) (k : Fin 16) (e : Response) :
    (removeClaims k (s.withResponse k e)).responses = s.responses.set k e :=
  (removeClaims_keeps ..).same .responses (by decide)

theorem latchStep_latches (h : s.responses[k].claim ≠ .latched) : latchStep k true s =
    placeClaims k (s.withResponse k { s.responses[k] with claim := .latched }) := if_pos ⟨rfl, h⟩

theorem latchStep_rests (h : v = false ∨ s.responses[k].claim = .latched) : latchStep k v s = s := by
  refine if_neg fun ⟨hv, claim⟩ => ?_
  rcases h with rfl | e
  · cases hv
  · exact claim e

theorem levelStep_idle (h : s.responses[k].claim = .idle) : levelStep k true s =
    placeClaims k (s.withResponse k { s.responses[k] with claim := .active }) := by
  unfold levelStep
  rw [h]
  rfl

theorem levelStep_lingering (h : s.responses[k].claim = .lingering) : levelStep k true s =
    s.withResponse k { s.responses[k] with claim := .active, timer := none } := by
  unfold levelStep
  rw [h]
  rfl

theorem levelStep_ends (h : s.responses[k].claim = .active) (linger : s.responses[k].linger = 0) :
    levelStep k false s = removeClaims k (s.withResponse k { s.responses[k] with claim := .idle }) := by
  unfold levelStep
  rw [h]
  exact if_pos linger

theorem levelStep_lingers (h : s.responses[k].claim = .active) (linger : s.responses[k].linger ≠ 0) :
    levelStep k false s = s.withResponse k { s.responses[k] with
      claim := .lingering, timer := some (s.clock.now + s.responses[k].linger * 1000000000) } := by
  unfold levelStep
  rw [h]
  exact if_neg linger

/-! ### Condition values (R145) -/

theorem callRange_iff {lo hi x : Nat} : conditionValue s (.callRange lo hi x) = true ↔ ∃ (c : Fin 16) (h y : Nat),
    circuitHolder (s.own.getD 0) s.call.circuits[c] = some (h, y) ∧ lo ≤ h ∧ h ≤ hi ∧ x ≤ y := by
  rw [conditionValue, List.any_eq_true]
  constructor
  · rintro ⟨circuit, mem, holds⟩
    obtain ⟨i, hi, rfl⟩ := Vector.mem_iff_getElem.mp (Vector.mem_toList_iff.mp mem)
    split at holds
    · next h y e => exact ⟨⟨i, hi⟩, h, y, e, of_decide_eq_true holds⟩
    · cases holds
  · rintro ⟨c, h, y, e, range⟩
    refine ⟨s.call.circuits[c], Vector.mem_toList_iff.mpr (Vector.getElem_mem c.isLt), ?_⟩
    rw [e]
    exact decide_eq_true range

theorem wxRange_iff {lo hi x : Nat} {alarm : Alarm} : conditionValue s (.wxRange lo hi alarm x) = true ↔
    ∃ n, lo ≤ n ∧ n ≤ hi ∧ x ≤ stationLevel s alarm n := by
  rw [conditionValue, List.any_eq_true]
  simp only [List.mem_range'_1, decide_eq_true_eq]
  constructor
  · rintro ⟨n, ⟨low, high⟩, level⟩
    exact ⟨n, low, by omega, level⟩
  · rintro ⟨n, low, high, level⟩
    exact ⟨n, ⟨low, by omega⟩, level⟩

/-- Settles O45: the steps by the entry's mode and claim state. -/
theorem responsesFollowTheirCondition : Obligations.ResponsesFollowTheirCondition := by
  intro s k e v he hv
  subst he
  intro t moves claimed unclaimed
  refine ⟨fun same => respondEntry_same (hv.symm.trans same), fun changed => ⟨respondEntry_keeps s k, ?_⟩,
    fun lo hi x => callRange_iff, fun lo hi alarm x => wxRange_iff, Option.isNone_iff_eq_none⟩
  have step : t = _ := respondEntry_changed hv changed
  dsimp only at step
  obtain ⟨w, hw⟩ : ∃ w, w = s.withResponse k { s.responses[k] with value := v } := ⟨_, rfl⟩
  rw [← hw] at step
  have entry : w.responses[k] = { s.responses[k] with value := v } := by rw [hw, withResponse_get]
  have replaced {e : Response} : w.withResponse k e = s.withResponse k e := by rw [hw, withResponse_twice]
  have time : w.clock.now = s.clock.now := by rw [hw]; rfl
  have placing {e : Response} (mask : e.mask = s.responses[k].mask) (page : e.page = s.responses[k].page)
      (priority : e.priority = s.responses[k].priority) (h : t = placeClaims k (s.withResponse k e)) :
      moves e ∧ claimed := by
    obtain ⟨responses, claims⟩ := placeClaims_changed s k e
    rw [mask, page, priority, ← h] at claims
    exact ⟨(congrArg State.responses h).trans responses, claims⟩
  have setting {e : Response} (h : t = s.withResponse k e) : moves e ∧ t.signs = s.signs :=
    ⟨congrArg State.responses h, (congrArg State.signs h).trans withResponse_signs⟩
  refine ⟨fun off => ?_, fun on level => ?_, fun on latch => ?_⟩
  · rw [off, if_neg Bool.false_ne_true] at step
    exact setting (step.trans hw)
  · rw [on, level, if_pos rfl, if_neg Bool.false_ne_true] at step
    refine ⟨fun idle hv => ?_, fun lingering hv => ?_, fun active hv linger => ?_, fun active hv linger => ?_⟩ <;>
      rw [hv] at step
    · rw [levelStep_idle (by rw [entry]; exact idle), replaced, entry] at step
      exact placing rfl rfl rfl step
    · rw [levelStep_lingering (by rw [entry]; exact lingering), replaced, entry] at step
      exact setting step
    · rw [levelStep_ends (by rw [entry]; exact active) (by rw [entry]; exact linger), replaced, entry] at step
      refine ⟨(congrArg State.responses step).trans (removeClaims_changed ..), fun p => ?_⟩
      rw [step]
      exact removeClaims_unclaimed _ _
    · rw [levelStep_lingers (by rw [entry]; exact active) (by rw [entry]; exact linger), replaced, entry, time] at step
      exact (setting step).symm
  · rw [on, latch, if_pos rfl, if_pos rfl] at step
    refine ⟨fun hv other => ?_, fun rests => ?_⟩
    · rw [hv, latchStep_latches (by rw [entry]; exact other), replaced, entry] at step
      exact placing rfl rfl rfl step
    · rw [latchStep_rests (by rw [entry]; exact rests)] at step
      exact setting (step.trans hw)

end Sys2Proof.Machine
end

section
/-! PROOFS. RESPONSE-SET, RESPONSE-CLEAR and the linger timer (R144, R147, R148). -/

namespace Sys2Proof.Machine

variable {s t u : State} {k : Fin 16} {p : Port} {q : ResponseParams} {c : Condition} {d : Time}

/-! ### An entry that ends its claims -/

/-- What a change that ends the claims of entry `k` leaves of the lists. -/
theorem removeClaims_others (k : Fin 16) (s : State) (p : Port) :
    ((removeClaims k s).entries p).filter (fun x => decide (x.1 ≠ .response k)) =
      (s.entries p).filter (fun x => decide (x.1 ≠ .response k)) := by
  rw [removeClaims_entries, List.filter_filter]
  simp only [Bool.and_self]

theorem removeClaims_none (k : Fin 16) (s : State) (p : Port) :
    ((removeClaims k s).entries p).filter (fun x => decide (x.1 = .response k)) = [] := by
  rw [removeClaims_entries, List.filter_filter]
  exact List.filter_eq_nil_iff.mpr fun x _ h => by simp at h

/-- What a placement leaves of the other sources. -/
theorem placeClaims_others (k : Fin 16) (s : State) (p : Port) :
    ((placeClaims k s).entries p).filter (fun x => decide (x.1 ≠ .response k)) =
      (s.entries p).filter (fun x => decide (x.1 ≠ .response k)) := by
  rw [placeClaims_entries]
  split
  · rw [List.filter_append, List.filter_filter, List.filter_cons_of_neg (by exact fun h => of_decide_eq_true h rfl)]
    simp only [Bool.and_self, List.filter_nil, List.append_nil]
  · rfl

/-! ### RESPONSE-SET (R144) -/

theorem SameBut.conditionValue_eq (h : SameBut [.signs, .responses, .ports, .portCounts] s t) :
    conditionValue t c = conditionValue s c := by
  have call : t.call = s.call := h.same .call (by decide)
  have weather : t.weather = s.weather := h.same .weather (by decide)
  have own : t.own = s.own := h.own_eq (by decide)
  have centre : t.selectedCentre = s.selectedCentre := h.selectedCentre_eq (by decide)
  cases c with
  | callRange lo hi x => rw [conditionValue, conditionValue, call, own]
  | wxRange lo hi alarm x =>
    have level : stationLevel t alarm = stationLevel s alarm := by
      funext n
      simp only [stationLevel, own, weather, State.viewOf]
    rw [conditionValue, conditionValue, level]
  | noCentre => rw [conditionValue, conditionValue, centre]

theorem responseGood_iff : responseGood q = true ↔ q.index.toNat ≤ 15 ∧ q.page.toNat ≤ 7 ∧ 1 ≤ q.priority.toNat ∧
    q.priority.toNat ≤ 7 ∧ q.mode.toNat ≤ 1 := by rw [responseGood, decide_eq_true_eq]

/-- R144: the entry that RESPONSE-SET leaves, its claims placed or not. -/
def responseSet (q : ResponseParams) (c : Condition) (s : State) : Response :=
  let e := responseOf (maskOf s.straps.profiles .sign) q c (conditionValue s c)
  if e.enable && e.value then { e with claim := if e.latch then .latched else .active } else e

theorem claimAtOnce_idle (h : (s.responses[k].enable && s.responses[k].value) = false) : claimAtOnce k s = s :=
  if_neg (by rw [h]; decide)

theorem claimAtOnce_claims (h : (s.responses[k].enable && s.responses[k].value) = true) : claimAtOnce k s =
    placeClaims k (s.withResponse k { s.responses[k] with
      claim := if s.responses[k].latch then .latched else .active }) := if_pos h

/-- What RESPONSE-SET leaves of the table and of the lists. -/
structure ResponseReplaced (k : Fin 16) (e : Response) (s t : State) : Prop where
  keeps : SameBut [.signs, .responses, .ports, .portCounts] s t
  table : t.responses = s.responses.set k e
  others : ∀ p : Port, (t.entries p).filter (fun x => decide (x.1 ≠ .response k)) =
    (s.entries p).filter (fun x => decide (x.1 ≠ .response k))
  own : ∀ p : Port, (t.entries p).filter (fun x => decide (x.1 = .response k)) =
    if (e.enable && e.value) = true ∧ e.mask.getLsbD p.val = true ∧ s.profile p = .sign
    then [(.response k, e.page, e.priority)] else []

/-- An entry's own claims are gone, and then placed afresh where it claims. -/
theorem placeClaims_own (k : Fin 16) (s : State) (p : Port) :
    ((placeClaims k s).entries p).filter (fun x => decide (x.1 = .response k)) =
      if s.responses[k].mask.getLsbD p.val = true ∧ s.profile p = .sign
      then [(.response k, s.responses[k].page, s.responses[k].priority)]
      else (s.entries p).filter (fun x => decide (x.1 = .response k)) := by
  rw [placeClaims_entries]
  split
  · have none' : (s.entries p).filter (fun x => decide (x.1 = .response k) && decide (x.1 ≠ .response k)) = [] :=
      List.filter_eq_nil_iff.mpr fun x _ h => by simp at h
    rw [List.filter_append, List.filter_filter, none', List.filter_cons_of_pos (by exact decide_eq_true rfl)]
    rfl
  · rfl

theorem setResponse_eq (index : q.index.toNat = k.val) (good : responseGood q = true) (condition : readCondition q = some c) :
    setResponse q s = claimAtOnce k
      ((removeClaims k (s.withResponse k { s.responses[k] with claim := .idle, timer := none })).withResponse k
        (responseOf (maskOf s.straps.profiles .sign) q c (conditionValue s c))) := by
  have number : (Fin.ofNat 16 q.index.toNat) = k := by
    rw [index]
    exact Fin.ext (Nat.mod_eq_of_lt k.isLt)
  have keeps : SameBut [.signs, .responses, .ports, .portCounts] s
      (removeClaims k (modResponse k (fun e => { e with claim := .idle, timer := none }) s)) :=
    (removeClaims_keeps ..).step (by decide) ((modResponse_keeps ..).mono (by decide))
  simp only [setResponse, condition, good, if_true, number, keeps.conditionValue_eq]
  rfl

theorem setResponse_replaced (index : q.index.toNat = k.val) (good : responseGood q = true)
    (condition : readCondition q = some c) : ResponseReplaced k (responseSet q c s) s (setResponse q s) := by
  rw [setResponse_eq index good condition]
  have others := removeClaims_others k (s.withResponse k { s.responses[k] with claim := .idle, timer := none })
  have own := removeClaims_none k (s.withResponse k { s.responses[k] with claim := .idle, timer := none })
  have keeps := removeClaims_keeps k (s.withResponse k { s.responses[k] with claim := .idle, timer := none })
  generalize removeClaims k (s.withResponse k { s.responses[k] with claim := .idle, timer := none }) = w at others own keeps
  have table : w.responses = s.responses.set k { s.responses[k] with claim := .idle, timer := none } :=
    keeps.same .responses (by decide)
  have straps : w.straps = s.straps := keeps.same .straps (by decide)
  have set (e : Response) : (w.withResponse k e).responses = s.responses.set k e := by
    rw [State.withResponse, State.setResponses_responses, table, vector_set_set]
  have kept (e : Response) : SameBut [.signs, .responses, .ports, .portCounts] s (w.withResponse k e) :=
    (withResponse_keeps e).step (by decide) (keeps.step (by decide) ((withResponse_keeps _).mono (by decide)))
  generalize he : responseOf (maskOf s.straps.profiles .sign) q c (conditionValue s c) = e
  cases claims : e.enable && e.value with
  | false =>
    have final : responseSet q c s = e := by simp only [responseSet, he, claims, if_neg Bool.false_ne_true]
    rw [claimAtOnce_idle (by rw [withResponse_get]; exact claims), final]
    exact ⟨kept e, set e, others, fun p => by rw [claims, if_neg (by simp)]; exact own p⟩
  | true =>
    have final : responseSet q c s = { e with claim := if e.latch then .latched else .active } := by
      simp only [responseSet, he, claims, if_true]
    rw [claimAtOnce_claims (by rw [withResponse_get]; exact claims), final, withResponse_get, withResponse_twice]
    refine ⟨(placeClaims_keeps ..).step (by decide) (kept _),
      Eq.trans ((placeClaims_keeps ..).same .responses (by decide)) (set _),
      fun p => (placeClaims_others ..).trans (others p), fun p => ?_⟩
    have profile : (w.withResponse k { e with claim := if e.latch then .latched else .active }).profile p = s.profile p := by
      rw [State.profile, show (w.withResponse k _).straps = s.straps from straps]
      rfl
    rw [placeClaims_own, withResponse_get, profile]
    simp only [claims, true_and]
    split
    · rfl
    · exact own p

/-! ### RESPONSE-CLEAR (R148) -/

/-- What clearing the entries of a set leaves. -/
structure Cleared (P : Fin 16 → Prop) (s t : State) : Prop where
  keeps : SameBut [.signs, .responses, .ports, .portCounts] s t
  ends : ∀ k, P k → s.responses[k].claim = .latched → t.responses[k] = { s.responses[k] with claim := .idle }
  rests : ∀ k, ¬(P k ∧ s.responses[k].claim = .latched) → t.responses[k] = s.responses[k]
  claims : ∀ (k : Fin 16) (p : Port) (c : PageClaim), c.source = .response k →
    (c ∈ t.signs[p].claims ↔ c ∈ s.signs[p].claims ∧ ¬(P k ∧ s.responses[k].claim = .latched))

theorem Cleared.nothing (s : State) {P : Fin 16 → Prop} (h : ∀ k, ¬(P k ∧ s.responses[k].claim = .latched)) :
    Cleared P s s :=
  ⟨SameBut.refl _ s, fun k hk latched => absurd ⟨hk, latched⟩ (h k), fun _ _ => rfl,
    fun k _ _ _ => ⟨fun mem => ⟨mem, h k⟩, And.left⟩⟩

theorem clearEntry_cleared (s : State) (k : Fin 16) : Cleared (· = k) s (clearEntry s k) := by
  by_cases latched : s.responses[k].claim = .latched
  · have cleared : clearEntry s k = removeClaims k (s.withResponse k { s.responses[k] with claim := .idle }) :=
      if_pos latched
    have table : (clearEntry s k).responses = s.responses.set k { s.responses[k] with claim := .idle } := by
      rw [cleared]
      exact removeClaims_changed ..
    refine ⟨clearEntry_keeps s k, fun j hj _ => ?_, fun j hj => ?_, fun j p c hc => ?_⟩
    · subst hj
      rw [table, vector_get_set]
    · rw [table]
      exact vector_get_set_ne _ _ _ _ fun e => hj ⟨e, e ▸ latched⟩
    · rw [cleared, removeClaims_claims]
      refine List.mem_filter.trans (and_congr Iff.rfl ?_)
      rw [decide_eq_true_eq, hc]
      refine not_congr ⟨fun e => ?_, fun ⟨e, _⟩ => congrArg _ e⟩
      cases e
      exact ⟨rfl, latched⟩
  · have same : clearEntry s k = s := if_neg latched
    rw [same]
    exact .nothing s fun j ⟨e, h⟩ => latched (e ▸ h)

theorem Cleared.trans {P Q : Fin 16 → Prop} (h : Cleared P s t) (h' : Cleared Q t u) : Cleared (fun k => P k ∨ Q k) s u := by
  have latched (k : Fin 16) : t.responses[k].claim = .latched ↔ s.responses[k].claim = .latched ∧ ¬P k := by
    by_cases hk : P k ∧ s.responses[k].claim = .latched
    · rw [h.ends k hk.1 hk.2]
      exact ⟨nofun, fun ⟨_, no⟩ => absurd hk.1 no⟩
    · rw [h.rests k hk]
      exact ⟨fun e => ⟨e, fun hp => hk ⟨hp, e⟩⟩, And.left⟩
  refine ⟨h.keeps.trans h'.keeps, fun k hk l => ?_, fun k hk => ?_, fun k p c hc => ?_⟩
  · by_cases hp : P k
    · rw [h'.rests k fun ⟨_, e⟩ => ((latched k).mp e).2 hp, h.ends k hp l]
    · have before := h.rests k fun ⟨e, _⟩ => hp e
      rw [h'.ends k (hk.resolve_left hp) ((latched k).mpr ⟨l, hp⟩), before]
  · rw [h'.rests k fun ⟨hq, e⟩ => hk ⟨.inr hq, ((latched k).mp e).1⟩, h.rests k fun ⟨hp, e⟩ => hk ⟨.inl hp, e⟩]
  · rw [h'.claims k p c hc, h.claims k p c hc, latched]
    grind

theorem Cleared.congr {P Q : Fin 16 → Prop} (h : Cleared P s t) (e : ∀ k, P k ↔ Q k) : Cleared Q s t := by
  have : P = Q := funext fun k => propext (e k)
  exact this ▸ h

theorem foldl_clearEntry (ks : List (Fin 16)) (s : State) : Cleared (· ∈ ks) s (ks.foldl clearEntry s) := by
  induction ks generalizing s with
  | nil => exact .nothing s fun k ⟨e, _⟩ => by cases e
  | cons k ks ih => exact ((clearEntry_cleared s k).trans (ih _)).congr fun j => List.mem_cons.symm

theorem clearResponses_named {i : Byte} (h : i.toNat ≤ 15 ∨ i = 255) :
    Cleared (fun k => i = 255 ∨ i.toNat = k.val) s (clearResponses i s) := by
  by_cases all : i = 255
  · have every : clearResponses i s = (List.finRange 16).foldl clearEntry s := if_pos all
    rw [every]
    exact (foldl_clearEntry _ s).congr fun k => iff_of_true (List.mem_finRange k) (.inl all)
  · have low : i.toNat ≤ 15 := h.resolve_right all
    have one : clearResponses i s = clearEntry s (Fin.ofNat 16 i.toNat) := by rw [clearResponses, if_neg all, if_pos low]
    rw [one]
    refine (clearEntry_cleared s _).congr fun k => ⟨fun e => .inr ?_, fun e => ?_⟩
    · rw [e]
      exact (Nat.mod_eq_of_lt (by omega)).symm
    · exact Fin.ext ((e.resolve_left all).symm.trans (Nat.mod_eq_of_lt (by omega)).symm)

/-! ### The linger timer (R147) -/

theorem lingerExpired_ends (timer : s.responses[k].timer = some d) (lingering : s.responses[k].claim = .lingering) :
    lingerExpired k s =
      removeClaims k ((reach d s).withResponse k { s.responses[k] with claim := .idle, timer := none }) := by
  unfold lingerExpired
  rw [timer]
  exact if_pos lingering

theorem lingerExpired_rests (timer : s.responses[k].timer = some d) (h : s.responses[k].claim ≠ .lingering) :
    lingerExpired k s = s := by
  unfold lingerExpired
  rw [timer]
  exact if_neg h

theorem setResponse_range (h : 15 < q.index.toNat ∨ 7 < q.page.toNat ∨ q.priority.toNat = 0 ∨ 7 < q.priority.toNat ∨
    1 < q.mode.toNat ∨ readCondition q = none) : setResponse q s = rejected .range s := by
  unfold setResponse
  split
  · rfl
  · next c e =>
    refine if_neg fun good => ?_
    have := responseGood_iff.mp good
    simp only [e, reduceCtorEq, or_false] at h
    omega

/-- R144: the entry's mask holds the SIGN ports of the command's mask. -/
theorem responseSet_mask (q : ResponseParams) (c : Condition) (s : State) (p : Port) :
    (responseSet q c s).mask.getLsbD p.val = (q.mask.getLsbD p.val && decide (s.profile p = .sign)) := by
  have mask : (responseSet q c s).mask = q.mask.extractLsb' 0 4 &&& maskOf s.straps.profiles .sign := by
    unfold responseSet
    dsimp only
    split <;> rfl
  rw [mask, BitVec.getLsbD_and, maskOf_get, BitVec.getLsbD_extractLsb', Nat.zero_add, decide_eq_true p.isLt, Bool.true_and]
  rfl

/-- R144: the entry is the one that the parameters give. -/
theorem responseSet_eq (q' : Response) (hq : q' = responseSet q c s) :
    q' = { enable := q.enable, latch := decide (q.mode = 1), condition := c, mask := q'.mask,
           page := Fin.ofNat 8 q.page.toNat, priority := q.priority.toNat, linger := q.linger.toNat,
           value := conditionValue s c, timer := none,
           claim := if q.enable && conditionValue s c then (if q.mode = 1 then .latched else .active) else .idle } := by
  subst hq
  unfold responseSet
  dsimp only [responseOf]
  cases q.enable && conditionValue s c with
  | false => rfl
  | true =>
    by_cases latch : q.mode = 1 <;> simp only [latch, decide_true, decide_false, if_true, if_false, Bool.false_eq_true]

/-- Settles O44: RESPONSE-SET by `setResponse_replaced`, RESPONSE-CLEAR by `clearResponses_named`. -/
theorem responseCommandsAndTheLingerTimer : Obligations.ResponseCommandsAndTheLingerTimer := by
  intro via s admitted kept
  have set (q : ResponseParams) : exec (.responseSet via q) s = .next (setResponse q s) :=
    exec_admitted (c := .responseSet q) admitted rfl rfl
  have clear (i : Byte) : exec (.responseClear via i) s = .next (clearResponses i s) :=
    exec_admitted (c := .responseClear i) admitted rfl rfl
  refine ⟨fun q c k v index page low high mode condition hv => ?_, fun q bad => ?_, fun i big other => ?_,
    fun i named => ?_, fun k d timer => ⟨fun lingering => ?_, fun rests => ?_⟩⟩
  · have good : responseGood q = true := responseGood_iff.mpr ⟨by omega, page, low, high, mode⟩
    obtain ⟨keeps, table, others, own⟩ := setResponse_replaced (s := s) index good condition
    refine ⟨_, set q, keeps, fun p => ?_, fun j hj => ?_, ?_, fun p => ?_, fun p => ?_⟩
    · rw [entries_others, entries_others]
      exact others p
    · rw [table]
      exact vector_get_set_ne _ _ _ _ hj
    · rw [table, vector_get_set, hv]
      exact responseSet_eq _ rfl
    · rw [table, vector_get_set]
      exact responseSet_mask q c s p
    · rw [entries_of, own p, table, vector_get_set]
      have value : (responseSet q c s).enable = q.enable ∧ (responseSet q c s).value = v ∧
          (responseSet q c s).page = Fin.ofNat 8 q.page.toNat ∧ (responseSet q c s).priority = q.priority.toNat := by
        rw [responseSet_eq _ rfl, hv]
        exact ⟨rfl, rfl, rfl, rfl⟩
      obtain ⟨enable, value, pg, priority⟩ := value
      have sign : (responseSet q c s).mask.getLsbD p.val = true → s.profile p = .sign := fun bit => by
        rw [responseSet_mask, Bool.and_eq_true, decide_eq_true_eq] at bit
        exact bit.2
      rw [enable, value, pg, priority]
      by_cases claims : q.enable = true ∧ v = true ∧ (responseSet q c s).mask.getLsbD p.val = true
      · obtain ⟨on, true', bit⟩ := claims
        rw [if_pos ⟨by rw [on, true']; rfl, bit, sign bit⟩, if_pos ⟨on, true', bit⟩]
        rfl
      · rw [if_neg, if_neg claims]
        · rfl
        · rintro ⟨both, bit, _⟩
          rw [Bool.and_eq_true] at both
          exact claims ⟨both.1, both.2, bit⟩
  · rw [set, setResponse_range bad]
  · rw [clear, clearResponses, if_neg other, if_neg (by omega)]
    rfl
  · intro ends
    obtain ⟨keeps, ending, resting, claims⟩ := clearResponses_named (s := s) named
    exact ⟨_, clear i, keeps, fun k => ⟨fun h => ending k h.1 h.2, resting k, fun p c => claims k p c⟩⟩
  · have ends := lingerExpired_ends timer lingering
    refine ⟨_, rfl, lingerExpired_keeps k s, fun p => ?_, ?_, ?_, fun p => ?_⟩ <;> rw [ends]
    · rw [entries_others, entries_others]
      exact removeClaims_others k _ p
    · exact (removeClaims_keeps ..).same .clock (by decide)
    · exact removeClaims_changed ..
    · exact removeClaims_unclaimed k _
  · exact congrArg Host.Outcome.next (lingerExpired_rests timer rests)

end Sys2Proof.Machine
end

section
/-! PROOFS. Polls and their evaluations (R159, R161 to R165, R169 to R171). An evaluation is described once, for the state in
which it begins (`Evaluated`); a suspended poll, a missed poll and a reply differ only in that state. -/

namespace Sys2Proof.Machine

variable {s t u v : State} {p : Port} {d : Time} {w : Weather}

/-! ### Bulk cells offered -/

theorem Queued.bulk {n : Nat} (h : Queued n s t) (k : Line) : (t.tx.get k).insert.b = (s.tx.get k).insert.b := by
  obtain ⟨xs, _, tx⟩ := h.grows
  rw [tx, State.withQueued]
  by_cases here : k = insertLine s.fold
  · subst here
    rw [Both.get_set_same]
  · rw [Both.get_set_other _ _ _ _ here]

theorem withBulk_get (s : State) (xs : List Cell) :
    ((s.withBulk xs).get (insertLine s.fold)).insert.b = s.insertQueue .b ++ xs := by
  rw [State.withBulk, Both.get_set_same]

theorem withBulk_signals (s : State) (xs : List Cell) (k : Line) :
    ((s.withBulk xs).get k).insert.c = (s.tx.get k).insert.c := by
  rw [State.withBulk]
  by_cases here : k = insertLine s.fold
  · subst here
    rw [Both.get_set_same]
  · rw [Both.get_set_other _ _ _ _ here]

theorem offerBulk_room {kind dest : Byte} {bytes : List Byte} (bulk : classOf kind = .b)
    (room : (s.insertQueue .b).length < 32) :
    offerCounted kind dest bytes s = s.setTx (s.withBulk [originate kind dest bytes s]) := by
  rw [offerCounted_joins (by rw [bulk]; exact room), bulk]
  rfl

theorem offerBulk_full {kind dest : Byte} {bytes : List Byte} (bulk : classOf kind = .b)
    (full : 32 ≤ (s.insertQueue .b).length) :
    offerCounted kind dest bytes s = s.setRing { s.ring with insertDrops := bump s.ring.insertDrops } :=
  offerCounted_drops (by rw [bulk]; exact full)

theorem bump_le (c : Count) : c.toNat ≤ (bump c).toNat := by
  unfold bump
  split
  · exact Nat.le_refl _
  · next h =>
    have : c.toNat ≠ 65535 := fun e => h (BitVec.eq_of_toNat_eq e)
    rw [BitVec.toNat_add]
    have := c.isLt
    change _ ≤ (c.toNat + 1) % 65536
    omega

theorem bump_lt {c : Count} (h : c ≠ 65535) : c.toNat < (bump c).toNat := by
  have : c.toNat ≠ 65535 := fun e => h (BitVec.eq_of_toNat_eq e)
  rw [bump, if_neg h, BitVec.toNat_add]
  have := c.isLt
  change _ < (c.toNat + 1) % 65536
  omega

/-! ### Alarm levels told (R165 step 5, R171) -/

/-- What the report of changed levels leaves. -/
structure LevelsTold (before : Weather) (s t : State) : Prop where
  keeps : SameBut [.tx, .ring, .signs, .responses, .weather, .ports, .portCounts] s t
  weather : t.weather = { s.weather with alarmTimer := t.weather.alarmTimer }
  bulk : ∀ k : Line, (t.tx.get k).insert.b = (s.tx.get k).insert.b
  drops : s.ring.insertDrops.toNat ≤ t.ring.insertDrops.toNat
  alarm : s.phase = .active → levelsChanged before s.weather = true →
    t.weather.alarmTimer = some (s.now + 10000000000) ∧ ((s.insertQueue .c).length < 32 →
      (t.tx.get (insertLine s.fold)).insert.c = s.insertQueue .c ++ [originate 14 255 (alarmBytes s.weather) s])
  quiet : s.phase ≠ .active ∨ levelsChanged before s.weather = false →
    t.weather.alarmTimer = s.weather.alarmTimer ∧ ∀ k : Line, (t.tx.get k).insert.c = (s.tx.get k).insert.c

theorem sendAlarm_room (room : (s.insertQueue .c).length < 32) : sendAlarm s =
    (s.setTx (s.withQueued [originate kWxAlarm allStations (alarmBytes s.weather) s])).setWeather
      { s.weather with alarmTimer := some (s.now + 10000000000) } := by
  unfold sendAlarm
  rw [offerCounted_room rfl room]
  rfl

theorem sendAlarm_full (full : 32 ≤ (s.insertQueue .c).length) : sendAlarm s =
    (s.setRing { s.ring with insertDrops := bump s.ring.insertDrops }).setWeather
      { s.weather with alarmTimer := some (s.now + 10000000000) } := by
  unfold sendAlarm
  rw [offerCounted_full rfl full]
  rfl

theorem sendAlarm_weather (s : State) :
    (sendAlarm s).weather = { s.weather with alarmTimer := some (s.now + 10000000000) } := by
  rcases Nat.lt_or_ge (s.insertQueue .c).length 32 with room | full
  · rw [sendAlarm_room room]; rfl
  · rw [sendAlarm_full full]; rfl

theorem sendAlarm_tx (room : (s.insertQueue .c).length < 32) : (sendAlarm s).tx =
    s.withQueued [originate kWxAlarm allStations (alarmBytes s.weather) s] := by
  rw [sendAlarm_room room]
  rfl

theorem sendAlarm_drops (s : State) : s.ring.insertDrops.toNat ≤ (sendAlarm s).ring.insertDrops.toNat := by
  rcases Nat.lt_or_ge (s.insertQueue .c).length 32 with room | full
  · have ring : (sendAlarm s).ring = s.ring := by rw [sendAlarm_room room]; rfl
    exact Nat.le_of_eq (congrArg (fun r => r.insertDrops.toNat) ring.symm)
  · have ring : (sendAlarm s).ring = { s.ring with insertDrops := bump s.ring.insertDrops } := by
      rw [sendAlarm_full full]; rfl
    rw [ring]
    exact bump_le _

theorem tellLevels_told (before : Weather) (s : State) : LevelsTold before s (tellLevels before s) := by
  have responds := respond_keeps s
  have weather : (respond s).weather = s.weather := responds.same .weather (by decide)
  have tx : (respond s).tx = s.tx := responds.same .tx (by decide)
  have ring : (respond s).ring = s.ring := responds.same .ring (by decide)
  have station : (respond s).station = s.station := responds.same .station (by decide)
  by_cases sends : levelsChanged before s.weather = true ∧ s.phase = .active
  · obtain ⟨changed, active⟩ := sends
    have active' : (respond s).phase = .active := (congrArg Station.phase station).trans active
    have told : tellLevels before s = sendAlarm (respond s) := (if_pos changed).trans (if_pos active')
    have queued := sendAlarm_queued (respond s)
    have now : (respond s).now = s.now := congrArg Clock.now (responds.same .clock (by decide))
    have fold : (respond s).fold = s.fold := responds.fold_eq (by decide)
    have queue : (respond s).insertQueue .c = s.insertQueue .c := responds.insertQueue_eq (by decide) (by decide) _
    have cell : originate kWxAlarm allStations (alarmBytes (respond s).weather) (respond s) =
        originate kWxAlarm allStations (alarmBytes s.weather) s := by
      rw [weather]
      exact responds.originate_eq (by decide) ..
    refine ⟨tellLevels_keeps before s, ?_, fun k => ?_, ?_, fun _ _ => ⟨?_, fun room => ?_⟩, fun h => ?_⟩
    · rw [told, sendAlarm_weather, weather]
    · rw [told, queued.bulk, tx]
    · rw [told, ← ring]
      exact sendAlarm_drops _
    · rw [told, sendAlarm_weather, now]
    · rw [told, sendAlarm_tx (by rw [queue]; exact room), cell, ← fold, withQueued_get, queue]
      rfl
    · rcases h with h | h
      · exact absurd active h
      · cases changed.symm.trans h
  · have kept : (tellLevels before s).weather = s.weather ∧ (tellLevels before s).tx = s.tx ∧
        (tellLevels before s).ring = s.ring := by
      by_cases changed : levelsChanged before s.weather = true
      · have idle : (respond s).phase ≠ .active := fun e =>
          sends ⟨changed, (congrArg Station.phase station).symm.trans e⟩
        have told : tellLevels before s = respond s := (if_pos changed).trans (if_neg idle)
        rw [told]
        exact ⟨weather, tx, ring⟩
      · have told : tellLevels before s = s := if_neg changed
        rw [told]
        exact ⟨rfl, rfl, rfl⟩
    obtain ⟨weather, tx, ring⟩ := kept
    exact ⟨tellLevels_keeps before s, by rw [weather], fun k => by rw [tx],
      Nat.le_of_eq (congrArg (fun r => r.insertDrops.toNat) ring.symm), fun active changed =>
      absurd ⟨changed, active⟩ sends, fun _ => ⟨by rw [weather], fun k => by rw [tx]⟩⟩

/-! ### The light told (R165 step 6, R159) -/

theorem evaluateBrightness_level (a : Int) (s : State) :
    (evaluateBrightness a s).brightness = brightnessStep s.brightness a := by
  unfold evaluateBrightness
  dsimp only
  split
  · next same => exact Eq.symm same
  · split
    · have keep (q : Port) (t : State) : (sendBright q t).brightness = t.brightness :=
        (sendBright_keeps q t).same .brightness (by decide)
      exact (keep 3 _).trans ((keep 2 _).trans ((keep 1 _).trans (keep 0 _)))
    · rfl

theorem tellLight_level (s : State) : (tellLight s).brightness =
    if s.weather.quantities[6].stale then s.brightness
    else brightnessStep s.brightness (s.weather.quantities[6].average.getD 0) := by
  unfold tellLight
  split
  · rfl
  · exact evaluateBrightness_level _ s

theorem average_of {q : Quantity} (h : 3 ≤ q.window.length) :
    q.average.getD 0 = (2 * q.sum + q.window.length) / (2 * q.window.length) := by
  have some' : q.window.isEmpty = false := by
    rw [Bool.eq_false_iff]
    intro e
    rw [List.isEmpty_iff.mp e] at h
    cases h
  rw [Quantity.average, some', if_neg Bool.false_ne_true]
  rfl

/-! ### The evaluation (R165) -/

/-- R165: an evaluation but for the report that may follow. -/
def evaluatedState (v : State) : State := tellLight (tellLevels v.weather (v.setWeather (judge v.now v.weather)))

/-- What an evaluation leaves, apart from the report that may follow. -/
structure Evaluated (v t : State) : Prop where
  keeps : SameBut [.tx, .ring, .signs, .brightness, .responses, .weather, .ports, .portCounts] v t
  weather : t.weather = { judge v.now v.weather with alarmTimer := t.weather.alarmTimer }
  bulk : ∀ k : Line, (t.tx.get k).insert.b = (v.tx.get k).insert.b
  drops : v.ring.insertDrops.toNat ≤ t.ring.insertDrops.toNat
  alarm : v.phase = .active → levelsChanged v.weather (judge v.now v.weather) = true →
    t.weather.alarmTimer = some (v.now + 10000000000) ∧ ((v.insertQueue .c).length < 32 →
      (t.tx.get (insertLine v.fold)).insert.c =
        v.insertQueue .c ++ [originate 14 255 (alarmBytes (judge v.now v.weather)) v])
  quiet : v.phase ≠ .active ∨ levelsChanged v.weather (judge v.now v.weather) = false →
    t.weather.alarmTimer = v.weather.alarmTimer ∧ ∀ k : Line, (t.tx.get k).insert.c = (v.tx.get k).insert.c
  brightness : t.brightness = if (judge v.now v.weather).quantities[6].stale then v.brightness
    else brightnessStep v.brightness ((judge v.now v.weather).quantities[6].average.getD 0)

theorem evaluatedState_evaluated (v : State) : Evaluated v (evaluatedState v) := by
  have told := tellLevels_told v.weather (v.setWeather (judge v.now v.weather))
  have light := tellLight_keeps (tellLevels v.weather (v.setWeather (judge v.now v.weather)))
  have level := tellLight_level (tellLevels v.weather (v.setWeather (judge v.now v.weather)))
  rw [← evaluatedState] at light level
  have weather := light.same .weather (by decide)
  have tx := light.same .tx (by decide)
  have ring := light.same .ring (by decide)
  have phase : (v.setWeather (judge v.now v.weather)).phase = v.phase := rfl
  have judged : (v.setWeather (judge v.now v.weather)).weather = judge v.now v.weather := rfl
  have bright := told.keeps.same .brightness (by decide)
  obtain ⟨keeps, toldWeather, bulk, drops, alarm, quiet⟩ := told
  generalize tellLevels v.weather (v.setWeather (judge v.now v.weather)) = m at *
  generalize evaluatedState v = t at *
  have weather : t.weather = m.weather := weather
  have tx : t.tx = m.tx := tx
  have ring : t.ring = m.ring := ring
  rw [judged] at toldWeather alarm quiet
  refine ⟨light.step (by decide) (keeps.step (by decide) (State.setWeather_keeps.mono (by decide))), ?_, fun k => ?_, ?_,
    fun active changed => ?_, fun h => ?_, ?_⟩
  · rw [weather]; exact toldWeather
  · rw [tx]; exact bulk k
  · rw [ring]; exact drops
  · rw [weather, tx]; exact alarm active changed
  · rw [weather, tx]; exact quiet h
  · have quantities : m.weather.quantities = (judge v.now v.weather).quantities := by rw [toldWeather]
    rw [level, quantities, show m.brightness = v.brightness from bright]

/-- The parts of a judged weather unit that an evaluation acts on. -/
structure Alike (j j' : Weather) : Prop where
  ice : j.ice = j'.ice
  fog : j.fog = j'.fog
  wind : j.wind = j'.wind
  light : j.quantities[(6 : Fin 7)].window = j'.quantities[(6 : Fin 7)].window

/-- What an evaluation that judges `taken` leaves, counted from the state before the step. -/
def EvaluatedFrom (s : State) (now : Time) (taken : Weather) (t : State) : Prop :=
  let j := judge now taken
  let light := j.quantities[(6 : Fin 7)].window
  let sum := (light.map (fun x => x.value)).sum
  t.weather.ice = j.ice ∧ t.weather.fog = j.fog ∧ t.weather.wind = j.wind ∧
  (s.phase = .active → ¬(j.ice = s.weather.ice ∧ j.fog = s.weather.fog ∧ j.wind = s.weather.wind) →
    t.weather.alarmTimer = some (now + 10000000000) ∧
    ((s.insertQueue .c).length < 32 → (t.tx.get (insertLine s.fold)).insert.c = s.insertQueue .c ++
      [originate 14 255 [levelByte j.ice, levelByte j.fog, levelByte j.wind] s])) ∧
  (s.phase = .starting ∨ (j.ice = s.weather.ice ∧ j.fog = s.weather.fog ∧ j.wind = s.weather.wind) →
    t.weather.alarmTimer = s.weather.alarmTimer ∧ ∀ k : Line, (t.tx.get k).insert.c = (s.tx.get k).insert.c) ∧
  (light.length < 3 → t.brightness = s.brightness) ∧
  (3 ≤ light.length →
    t.brightness = brightnessStep s.brightness ((2 * sum + light.length) / (2 * light.length)))

theorem levelsChanged_iff {before after : Weather} : levelsChanged before after = true ↔
    ¬(after.ice = before.ice ∧ after.fog = before.fog ∧ after.wind = before.wind) := by
  simp only [levelsChanged, Bool.or_eq_true, decide_eq_true_eq]
  constructor
  · rintro ((h | h) | h) ⟨i, f, w⟩
    · exact h i.symm
    · exact h f.symm
    · exact h w.symm
  · intro h
    refine Classical.byContradiction fun same => ?_
    simp only [not_or, Decidable.not_not] at same
    exact h ⟨same.1.1.symm, same.1.2.symm, same.2.symm⟩

/-- The state in which an evaluation begins is the state before the step, but for what the step took and the clock. -/
structure Begins (s : State) (now : Time) (taken : Weather) (v : State) : Prop where
  time : v.now = now
  tx : v.tx = s.tx
  lines : v.lines = s.lines
  straps : v.straps = s.straps
  ring : v.ring = s.ring
  station : v.station = s.station
  brightness : v.brightness = s.brightness
  alarmTimer : v.weather.alarmTimer = s.weather.alarmTimer
  before : v.weather.ice = s.weather.ice ∧ v.weather.fog = s.weather.fog ∧ v.weather.wind = s.weather.wind
  alike : Alike (judge now v.weather) (judge now taken)

theorem Begins.fold {now : Time} {taken : Weather} (h : Begins s now taken v) : v.fold = s.fold := by
  rw [State.fold, h.lines]; rfl

theorem Begins.phase {now : Time} {taken : Weather} (h : Begins s now taken v) : v.phase = s.phase :=
  congrArg Station.phase h.station

theorem Begins.insertQueue {now : Time} {taken : Weather} (h : Begins s now taken v) (k : CellClass) :
    v.insertQueue k = s.insertQueue k := by rw [State.insertQueue, State.insertQueue, h.fold, h.tx]

theorem Begins.originate {now : Time} {taken : Weather} (h : Begins s now taken v) (kind dest : Byte) (bytes : List Byte) :
    originate kind dest bytes v = originate kind dest bytes s := by
  have own : v.ownByte = s.ownByte := by rw [State.ownByte, State.ownByte, h.straps]
  unfold Machine.originate
  rw [own]

theorem Evaluated.evaluatedFrom {now : Time} {taken : Weather} (h : Evaluated v t) (b : Begins s now taken v) :
    EvaluatedFrom s now taken t := by
  obtain ⟨ice, fog, wind, light⟩ := b.alike
  have weather := h.weather
  have alarm := h.alarm
  have quiet := h.quiet
  have bright := h.brightness
  rw [b.time] at weather alarm quiet bright
  rw [b.phase] at alarm quiet
  have changed : levelsChanged v.weather (judge now v.weather) = true ↔ ¬((judge now taken).ice = s.weather.ice ∧
      (judge now taken).fog = s.weather.fog ∧ (judge now taken).wind = s.weather.wind) := by
    rw [levelsChanged_iff, ice, fog, wind, b.before.1, b.before.2.1, b.before.2.2]
  have stale : (judge now v.weather).quantities[6].stale = decide ((judge now taken).quantities[(6 : Fin 7)].window.length < 3) :=
    congrArg (fun w => decide (List.length w < 3)) light
  refine ⟨by rw [weather]; exact ice, by rw [weather]; exact fog, by rw [weather]; exact wind, fun active other => ?_,
    fun same => ?_, fun few => ?_, fun enough => ?_⟩
  · obtain ⟨timer, cell⟩ := alarm active (changed.mpr other)
    refine ⟨timer, fun room => ?_⟩
    rw [b.insertQueue, b.fold, b.originate, alarmBytes, ice, fog, wind] at cell
    exact cell room
  · rw [b.tx, b.alarmTimer] at quiet
    refine quiet (same.imp (fun e => by rw [e]; decide) fun e => ?_)
    exact Bool.eq_false_iff.mpr fun yes => changed.mp yes e
  · rw [bright, stale, decide_eq_true few, if_pos rfl, b.brightness]
  · have same : (judge now v.weather).quantities[6].average.getD 0 = _ :=
      average_of (q := (judge now v.weather).quantities[(6 : Fin 7)]) (by rw [light]; exact enough)
    rw [bright, stale, decide_eq_false (by omega), if_neg Bool.false_ne_true, b.brightness, same, Quantity.sum, light]

/-! ### Reports (R169, R170) -/

theorem withBulk_insertQueue (s : State) (xs : List Cell) :
    (s.setTx (s.withBulk xs)).insertQueue .b = s.insertQueue .b ++ xs := withBulk_get s xs

theorem sendReport_one {outcome : Byte} {c : Nat} (copies : reportTo s = [c]) (room : (s.insertQueue .b).length < 32) :
    ((sendReport outcome s).tx.get (insertLine s.fold)).insert.b =
      s.insertQueue .b ++ [originate 13 (natByte c) (reportBytes outcome s.weather) s] := by
  rw [sendReport, copies, sendReportTo, sendReportTo, offerBulk_room rfl room]
  exact withBulk_get s _

theorem sendReport_two {outcome : Byte} {c x : Nat} (copies : reportTo s = [c, x])
    (room : (s.insertQueue .b).length < 31) :
    ((sendReport outcome s).tx.get (insertLine s.fold)).insert.b = s.insertQueue .b ++
      [originate 13 (natByte c) (reportBytes outcome s.weather) s,
        originate 13 (natByte x) (reportBytes outcome s.weather) s] := by
  have first := offerBulk_room (s := s) (kind := kWxReport) (dest := natByte c) (bytes := reportBytes outcome s.weather)
    rfl (by omega)
  have queue := withBulk_insertQueue s [originate kWxReport (natByte c) (reportBytes outcome s.weather) s]
  have fold : insertLine (s.setTx (s.withBulk [originate kWxReport (natByte c) (reportBytes outcome s.weather) s])).fold =
    insertLine s.fold := rfl
  have second (d : Byte) (bytes : List Byte) : originate kWxReport d bytes
      (s.setTx (s.withBulk [originate kWxReport (natByte c) (reportBytes outcome s.weather) s])) =
    originate kWxReport d bytes s := rfl
  generalize s.setTx (s.withBulk [originate kWxReport (natByte c) (reportBytes outcome s.weather) s]) = v at *
  rw [sendReport, copies, sendReportTo, sendReportTo, sendReportTo, first,
    offerBulk_room rfl (by rw [queue, List.length_append]; exact Nat.succ_lt_succ room), ← fold]
  refine (withBulk_get v _).trans ?_
  rw [queue, second, List.append_assoc]
  rfl

theorem sendReportTo_full (bytes : List Byte) (cs : List Nat) (s : State) (full : 32 ≤ (s.insertQueue .b).length) :
    (sendReportTo bytes cs s).tx = s.tx ∧ s.ring.insertDrops.toNat ≤ (sendReportTo bytes cs s).ring.insertDrops.toNat ∧
      (cs ≠ [] → s.ring.insertDrops ≠ 65535 →
        s.ring.insertDrops.toNat < (sendReportTo bytes cs s).ring.insertDrops.toNat) := by
  induction cs generalizing s with
  | nil => exact ⟨rfl, Nat.le_refl _, fun h => absurd rfl h⟩
  | cons c cs ih =>
    rw [sendReportTo, offerBulk_full rfl full]
    obtain ⟨tx, drops, _⟩ := ih (s.setRing { s.ring with insertDrops := bump s.ring.insertDrops }) full
    exact ⟨tx, Nat.le_trans (bump_le _) drops, fun _ few => Nat.lt_of_lt_of_le (bump_lt few) drops⟩

theorem reportTo_one {c : Nat} (centre : s.selectedCentre = some c) (toll : s.tollCentre = none ∨ s.tollCentre = some c) :
    reportTo s = [c] := by
  unfold reportTo
  rw [centre]
  rcases toll with e | e <;> rw [e]
  · rfl
  · simp

theorem reportTo_two {c x : Nat} (centre : s.selectedCentre = some c) (toll : s.tollCentre = some x) (other : x ≠ c) :
    reportTo s = [c, x] := by
  unfold reportTo
  rw [centre, toll]
  simp [other]

theorem reportTo_none (centre : s.selectedCentre = none) : reportTo s = [] := by
  unfold reportTo
  rw [centre]

/-! ### What an evaluation begins with -/

theorem evaluate_suspended (runs : v.phase = .starting ∨ v.phase = .active) : evaluate none v = evaluatedState v := by
  have yes : weatherRuns v = true := by rcases runs with e | e <;> rw [weatherRuns, e] <;> rfl
  exact if_pos yes

theorem evaluate_replied {outcome : Byte} (runs : v.phase = .starting ∨ v.phase = .active) :
    evaluate (some outcome) v =
      if (evaluatedState v).phase = .active then sendReport outcome (evaluatedState v) else evaluatedState v := by
  have yes : weatherRuns v = true := by rcases runs with e | e <;> rw [weatherRuns, e] <;> rfl
  exact if_pos yes

theorem clearLatest_quantity (w : Weather) (i : Fin 7) :
    (clearLatest w).quantities[i] = { w.quantities[i] with latest := none } := Vector.getElem_map ..

theorem ageOut_quantity (now : Time) (w : Weather) (i : Fin 7) : (ageOut now w).quantities[i] =
    { w.quantities[i] with window := w.quantities[i].window.filter (fun x => fresh now w.interval x.taken) } :=
  Vector.getElem_map ..

theorem ageOut_clearLatest (now : Time) (w : Weather) (i : Fin 7) : (ageOut now (clearLatest w)).quantities[i] =
    { (ageOut now w).quantities[i] with latest := none } := by
  rw [ageOut_quantity, ageOut_quantity, clearLatest_quantity]
  rfl

/-- The levels do not hang on the latest values. -/
theorem judge_clearLatest (now : Time) (w : Weather) : Alike (judge now (clearLatest w)) (judge now w) := by
  have q := ageOut_clearLatest now w
  have spread : (ageOut now (clearLatest w)).spread = (ageOut now w).spread := by
    unfold Weather.spread
    rw [show (ageOut now (clearLatest w)).quantities[1] = _ from q 1, show (ageOut now (clearLatest w)).quantities[2] = _ from q 2]
    rfl
  have atMost (x : Int) : spreadAtMost (ageOut now (clearLatest w)) x = spreadAtMost (ageOut now w) x := by
    rw [spreadAtMost, spreadAtMost, spread]
  refine ⟨?_, ?_, ?_, ?_⟩
  · change judgeIce now (ageOut now (clearLatest w)) = judgeIce now (ageOut now w)
    unfold judgeIce
    rw [show (ageOut now (clearLatest w)).quantities[0] = _ from q 0]
    simp only [atMost]
    rfl
  · change judgeFog now (ageOut now (clearLatest w)) = judgeFog now (ageOut now w)
    unfold judgeFog
    rw [show (ageOut now (clearLatest w)).quantities[3] = _ from q 3]
    rfl
  · change judgeWind now (ageOut now (clearLatest w)) = judgeWind now (ageOut now w)
    unfold judgeWind
    rw [show (ageOut now (clearLatest w)).quantities[4] = _ from q 4]
    rfl
  · have window : (ageOut now (clearLatest w)).quantities[(6 : Fin 7)].window =
        (ageOut now w).quantities[(6 : Fin 7)].window := by rw [q 6]
    exact window

/-- R161: the state in which the evaluation of a suspended poll begins. -/
def suspendedState (d : Time) (s : State) : State :=
  (reach d s).setWeather { s.weather with pollTimer := some (d + s.weather.interval * 1000000000) }

/-- R163: the state in which the evaluation of a missed poll begins. -/
def missedState (d : Time) (s : State) : State :=
  (reach d s).setWeather { clearLatest s.weather with reply := none, missedPolls := bump s.weather.missedPolls }

/-- R163: the state in which the evaluation of a reply begins. -/
def repliedState (p : Port) (r : Reading) (s : State) : State :=
  (restartSilence p s).setWeather { takeReading s.clock.now r s.weather with reply := none }

theorem suspendedState_begins (d : Time) (s : State) : Begins s (max s.clock.now d) s.weather (suspendedState d s) :=
  ⟨rfl, rfl, rfl, rfl, rfl, rfl, rfl, rfl, ⟨rfl, rfl, rfl⟩, ⟨rfl, rfl, rfl, rfl⟩⟩

theorem missedState_begins (d : Time) (s : State) : Begins s (max s.clock.now d) s.weather (missedState d s) := by
  obtain ⟨ice, fog, wind, light⟩ := judge_clearLatest (max s.clock.now d) s.weather
  exact ⟨rfl, rfl, rfl, rfl, rfl, rfl, rfl, rfl, ⟨rfl, rfl, rfl⟩, ⟨ice, fog, wind, light⟩⟩

theorem repliedState_begins (p : Port) (r : Reading) (s : State) :
    Begins s s.clock.now (takeReading s.clock.now r s.weather) (repliedState p r s) :=
  ⟨rfl, rfl, rfl, rfl, rfl, rfl, rfl, rfl, ⟨rfl, rfl, rfl⟩, ⟨rfl, rfl, rfl, rfl⟩⟩

theorem poll_suspended (timer : s.weather.pollTimer = some d) (port : s.portOf .weather = some p)
    (off : s.ports[p].link ≠ .up) : exec .pollTime s = .next (evaluate none (suspendedState d s)) := by
  refine congrArg Host.Outcome.next ?_
  unfold poll
  rw [timer, port]
  exact if_neg (by rw [State.inService, decide_eq_true_eq]; exact off)

theorem poll_served (timer : s.weather.pollTimer = some d) (port : s.portOf .weather = some p)
    (up : s.ports[p].link = .up) (runs : s.phase = .starting ∨ s.phase = .active) : exec .pollTime s =
      .next (sendService p readFrameOut ((atMoment d s).setWeather { s.weather with
        pollTimer := some (d + s.weather.interval * 1000000000), pollNumber := s.weather.pollNumber + 1,
        reply := some (max s.clock.now d + 2000000000) })) := by
  refine congrArg Host.Outcome.next ?_
  have yes : weatherRuns (suspendedState d s) = true := by
    have phase : (suspendedState d s).phase = s.phase := rfl
    rcases runs with e | e <;> rw [weatherRuns, phase, e] <;> rfl
  unfold poll
  rw [timer, port]
  exact (if_pos (decide_eq_true up)).trans (if_pos yes)

theorem reply_missed (reply : s.weather.reply = some d) :
    exec .replyTimerExpires s = .next (evaluate (some 2) (missedState d s)) := by
  refine congrArg Host.Outcome.next ?_
  unfold replyExpired
  rw [reply]
  rfl

theorem reading_served {r : Reading} (port : s.portOf .weather = some p) (up : s.ports[p].link = .up)
    (idle : s.rx[p] = none) : exec (.reading p r) s = .next (readingIn r (restartSilence p s)) :=
  frame_served (i := .reading p r) (f := .reading r) (k := .weather) ⟨portOf_profile port, up⟩ idle rfl rfl nofun rfl

theorem reading_awaited {r : Reading} (port : s.portOf .weather = some p) (up : s.ports[p].link = .up)
    (idle : s.rx[p] = none) (reply : s.weather.reply = some d) :
    exec (.reading p r) s = .next (evaluate (some 1) (repliedState p r s)) := by
  rw [reading_served port up idle]
  refine congrArg Host.Outcome.next ?_
  unfold readingIn
  rw [show (restartSilence p s).weather.reply = some d from reply]
  rfl

/-! ### What an evaluation ends with -/

theorem EvaluatedFrom.congr {now : Time} {taken : Weather} {x : State} (h : EvaluatedFrom s now taken x)
    (weather : t.weather = x.weather) (bright : t.brightness = x.brightness)
    (signals : ∀ k : Line, (t.tx.get k).insert.c = (x.tx.get k).insert.c) : EvaluatedFrom s now taken t := by
  unfold EvaluatedFrom
  simp only [weather, bright, signals]
  exact h

theorem offerBulk_signals {kind dest : Byte} {bytes : List Byte} (bulk : classOf kind = .b) (s : State) (k : Line) :
    ((offerCounted kind dest bytes s).tx.get k).insert.c = (s.tx.get k).insert.c := by
  rcases Nat.lt_or_ge (s.insertQueue .b).length 32 with room | full
  · rw [offerBulk_room bulk room]
    exact withBulk_signals s _ k
  · rw [offerBulk_full bulk full]
    rfl

theorem sendReportTo_signals (bytes : List Byte) (cs : List Nat) (s : State) (k : Line) :
    ((sendReportTo bytes cs s).tx.get k).insert.c = (s.tx.get k).insert.c := by
  induction cs generalizing s with
  | nil => rfl
  | cons c cs ih => exact (ih _).trans (offerBulk_signals rfl s k)

/-- What the evaluation of a poll that was answered or missed leaves. -/
structure Replied (s : State) (now : Time) (taken : Weather) (v t : State) : Prop where
  evaluated : EvaluatedFrom s now taken t
  keeps : SameBut [.tx, .ring, .signs, .brightness, .responses, .weather, .ports, .portCounts] v t
  weather : t.weather = { judge now v.weather with alarmTimer := t.weather.alarmTimer }

theorem evaluate_leaves {now : Time} {taken : Weather} {outcome : Option Byte} (b : Begins s now taken v)
    (runs : s.phase = .starting ∨ s.phase = .active) : Replied s now taken v (evaluate outcome v) := by
  have runs' : v.phase = .starting ∨ v.phase = .active := by rw [b.phase]; exact runs
  have done := evaluatedState_evaluated v
  have from' := done.evaluatedFrom b
  have weather := done.weather
  rw [b.time] at weather
  cases outcome with
  | none =>
    rw [evaluate_suspended runs']
    exact ⟨from', done.keeps, weather⟩
  | some o =>
    rw [evaluate_replied runs']
    split
    · have sent := sendReport_keeps o (evaluatedState v)
      have same : (sendReport o (evaluatedState v)).weather = (evaluatedState v).weather := sent.same .weather (by decide)
      have bright : (sendReport o (evaluatedState v)).brightness = (evaluatedState v).brightness :=
        sent.same .brightness (by decide)
      refine ⟨from'.congr same bright fun k => sendReportTo_signals _ _ _ k, sent.step (by decide) done.keeps, ?_⟩
      rw [same]
      exact weather
    · exact ⟨from', done.keeps, weather⟩

theorem Replied.quantity {now : Time} {taken : Weather} (h : Replied s now taken v t) (i : Fin 7) :
    t.weather.quantities[i] = { v.weather.quantities[i] with
      window := v.weather.quantities[i].window.filter (fun x => fresh now v.weather.interval x.taken) } := by
  rw [h.weather]
  exact ageOut_quantity now v.weather i

/-- R163: a numeric value is held to its range. -/
theorem clampValue_eq (i : Fin 7) (x : BitVec 32) :
    clampValue i x = max (quantityRange i).1 (min (quantityRange i).2 x.toInt) := by
  have range : (quantityRange i).1 ≤ (quantityRange i).2 := by
    unfold quantityRange
    split
    · decide
    · split
      · decide
      · split <;> decide
  rw [clampValue, clampTo]
  split
  · omega
  · split <;> omega

theorem selectedCentre_of_station (h : t.station = s.station) : t.selectedCentre = s.selectedCentre := by
  simp only [State.selectedCentre, State.centreHeard, State.heardOf, h]

theorem tollCentre_of_station (h : t.station = s.station) : t.tollCentre = s.tollCentre := by
  simp only [State.tollCentre, State.heardOf, h]

theorem fresh_now {now : Time} {interval : Nat} (h : 5 ≤ interval) : fresh now interval now = true := by
  refine decide_eq_true ?_
  exact Nat.lt_add_of_pos_right (Nat.mul_pos (Nat.mul_pos (by decide) (by omega)) (by decide))

/-- What the report that follows an evaluation finds. -/
structure Reported (s v : State) (outcome : Byte) : Prop where
  sends : evaluate (some outcome) v = sendReport outcome (evaluatedState v)
  weather : (sendReport outcome (evaluatedState v)).weather = (evaluatedState v).weather
  fold : (evaluatedState v).fold = s.fold
  bulk : ∀ k : Line, ((evaluatedState v).tx.get k).insert.b = (s.tx.get k).insert.b
  queue : (evaluatedState v).insertQueue .b = s.insertQueue .b
  cell : ∀ dest bytes, originate 13 dest bytes (evaluatedState v) = originate 13 dest bytes s
  drops : s.ring.insertDrops.toNat ≤ (evaluatedState v).ring.insertDrops.toNat
  selected : (evaluatedState v).selectedCentre = s.selectedCentre
  toll : (evaluatedState v).tollCentre = s.tollCentre

theorem Begins.reported {now : Time} {taken : Weather} {outcome : Byte} (b : Begins s now taken v)
    (active : s.phase = .active) : Reported s v outcome := by
  have done := evaluatedState_evaluated v
  have fold : (evaluatedState v).fold = s.fold := (done.keeps.fold_eq (by decide)).trans b.fold
  have station : (evaluatedState v).station = s.station :=
    Eq.trans (b := v.station) (done.keeps.same .station (by decide)) b.station
  have bulk (k : Line) : ((evaluatedState v).tx.get k).insert.b = (s.tx.get k).insert.b :=
    (done.bulk k).trans (by rw [b.tx])
  have phase : (evaluatedState v).phase = .active := (congrArg Station.phase station).trans active
  refine ⟨(evaluate_replied (.inr (b.phase.trans active))).trans (if_pos phase),
    (sendReport_keeps ..).same .weather (by decide), fold, bulk, ?_,
    fun dest bytes => (done.keeps.originate_eq (by decide) ..).trans (b.originate ..), ?_,
    selectedCentre_of_station station, tollCentre_of_station station⟩
  · rw [State.insertQueue, State.insertQueue, fold]
    exact bulk _
  · rw [← b.ring]
    exact done.drops

/-- Settles O46: the three evaluations by the state in which each begins. -/
theorem pollsRepliesAndReports : Obligations.PollsRepliesAndReports := by
  refine ⟨fun s p d port runs => ?_, fun s p d i outcome c port active reply centre way => ?_,
    fun s p d i port active reply centre way => ?_⟩
  · intro w touched young aged evaluated
    refine ⟨fun timer up busy room => ?_, fun timer off => ?_, fun reply => ?_, fun r up idle reply => ?_,
      fun r up idle reply => ?_⟩
    · rw [poll_served timer port up runs]
      exact congrArg Host.Outcome.next (sendService_waits (p := p) busy up room)
    · have b := suspendedState_begins d s
      have left := evaluate_leaves (outcome := none) b runs
      have bulk : ∀ k : Line, ((evaluate none (suspendedState d s)).tx.get k).insert.b = (s.tx.get k).insert.b := by
        rw [evaluate_suspended (v := suspendedState d s) runs]
        exact (evaluatedState_evaluated _).bulk
      have weather := left.weather
      refine ⟨_, poll_suspended timer port off, ?_, by rw [weather]; rfl, by rw [weather]; rfl, by rw [weather]; rfl,
        by rw [weather]; rfl, bulk, left.evaluated, fun i => (left.quantity i).trans rfl⟩
      exact left.keeps.step (by decide) (State.setWeather_keeps.step (by decide) ((reach_keeps d s).mono (by decide)))
    · have b := missedState_begins d s
      have left := evaluate_leaves (outcome := some 2) b runs
      have weather := left.weather
      refine ⟨_, reply_missed reply, ?_, by rw [weather]; rfl, by rw [weather]; rfl, by rw [weather]; rfl,
        by rw [weather]; rfl, by rw [weather]; rfl, left.evaluated, fun i => ?_⟩
      · exact left.keeps.step (by decide) (State.setWeather_keeps.step (by decide) ((reach_keeps d s).mono (by decide)))
      · rw [left.quantity, show (missedState d s).weather.quantities[i] = _ from clearLatest_quantity s.weather i]
        rfl
    · rw [reading_served port up idle]
      refine congrArg Host.Outcome.next ?_
      unfold readingIn
      rw [show (restartSilence p s).weather.reply = none from reply]
      rfl
    · have b := repliedState_begins p r s
      have left := evaluate_leaves (outcome := some 1) b runs
      have weather := left.weather
      have quantity (i : Fin 7) : (repliedState p r s).weather.quantities[i] =
          takeValue s.clock.now i r.numeric[i] w.quantities[i] := Vector.getElem_ofFn ..
      refine ⟨_, reading_awaited port up idle reply, left.evaluated, ?_, by rw [weather]; rfl, by rw [weather]; rfl,
        by rw [weather]; rfl, by rw [weather]; rfl, fun x hx often => ?_, fun i => ⟨fun absent => ?_, fun v hv often => ?_⟩⟩
      · exact left.keeps.step (by decide)
          (State.setWeather_keeps.step (by decide) ((restartSilence_keeps' p s).mono (by decide)))
      · have held : (repliedState p r s).weather.held = some (x, s.clock.now) := by
          change (match r.surface.bind readSurface with
            | some x => some (x, s.clock.now)
            | none => w.held) = _
          rw [hx]
        rw [weather]
        change (repliedState p r s).weather.held.filter (fun h => fresh s.clock.now w.interval h.2) = _
        rw [held]
        exact if_pos (fresh_now often)
      · rw [left.quantity, quantity, absent]
        rfl
      · rw [left.quantity, quantity, hv]
        intro x trimmed
        have value : clampValue i v = x := clampValue_eq i v
        rw [takeValue, value]
        dsimp only
        rw [List.filter_append, List.filter_cons_of_pos (by exact fresh_now often)]
        rfl
  · have begins : ∃ now taken v, Begins s now taken v ∧ exec i s = .next (evaluate (some outcome) v) := by
      rcases way with ⟨r, rfl, up, idle, rfl⟩ | ⟨rfl, rfl⟩
      · exact ⟨_, _, _, repliedState_begins p r s, reading_awaited port up idle reply⟩
      · exact ⟨_, _, _, missedState_begins d s, reply_missed reply⟩
    obtain ⟨now, taken, v, b, exec⟩ := begins
    have reported := b.reported (outcome := outcome) active
    have selected := reported.selected.trans centre
    have toll := reported.toll
    rw [exec, reported.sends]
    refine ⟨_, rfl, fun one room => ?_, fun x two other room => ?_, fun full => ?_⟩
    · rw [reported.weather, ← reported.fold, ← reported.queue, ← reported.cell]
      exact sendReport_one (reportTo_one selected (toll ▸ one)) (by rw [reported.queue]; exact room)
    · rw [reported.weather, ← reported.fold, ← reported.queue, ← reported.cell, ← reported.cell]
      exact sendReport_two (reportTo_two selected (toll.trans two) other) (by rw [reported.queue]; exact room)
    · obtain ⟨tx, kept, more⟩ := sendReportTo_full (reportBytes outcome (evaluatedState v).weather)
        (reportTo (evaluatedState v)) (evaluatedState v) (by rw [reported.queue]; exact full)
      have some' : reportTo (evaluatedState v) ≠ [] := by
        unfold reportTo
        rw [selected]
        nofun
      refine ⟨(congrArg (fun b : Both Transmitter => (b.get (insertLine s.fold)).insert.b) tx).trans (reported.bulk _),
        fun few same => ?_⟩
      have before := reported.drops
      have kept : (evaluatedState v).ring.insertDrops.toNat ≤ (sendReport outcome (evaluatedState v)).ring.insertDrops.toNat :=
        kept
      rw [same] at kept
      by_cases top : (evaluatedState v).ring.insertDrops = 65535
      · rw [top] at kept
        exact few (BitVec.eq_of_toNat_eq (Nat.le_antisymm (Nat.le_of_lt_succ s.ring.insertDrops.isLt) kept))
      · have after : (evaluatedState v).ring.insertDrops.toNat <
            (sendReport outcome (evaluatedState v)).ring.insertDrops.toNat := more some' top
        rw [same] at after
        omega
  · have begins : ∃ now taken v outcome, Begins s now taken v ∧ v.weather.reply = none ∧
        exec i s = .next (evaluate (some outcome) v) := by
      rcases way with ⟨r, rfl, up, idle⟩ | rfl
      · exact ⟨_, _, _, _, repliedState_begins p r s, rfl, reading_awaited port up idle reply⟩
      · exact ⟨_, _, _, _, missedState_begins d s, rfl, reply_missed reply⟩
    obtain ⟨now, taken, v, outcome, b, idle, exec⟩ := begins
    have reported := b.reported (outcome := outcome) active
    have left := (evaluate_leaves (outcome := some outcome) b (.inr active)).weather
    have nobody : sendReport outcome (evaluatedState v) = evaluatedState v := by
      rw [sendReport, reportTo_none (reported.selected.trans centre), sendReportTo]
    refine ⟨_, exec, by rw [left]; exact idle, ?_⟩
    rw [reported.sends, nobody]
    exact reported.bulk

end Sys2Proof.Machine
end

section
/-! PROOFS. WX-RATE, WX-LIMITS, the alarm timer, the weather view and the brightness step (R159, R162, R168, R171, R172). -/

namespace Sys2Proof.Machine

variable {s t u : State} {k : Fin 16} {p : Port} {d : Time} {q : LimitParams}

/-! ### Every entry's value computed afresh (R146) -/

/-- Entry `k` keeps its condition and its value, and the other entries are as they were. -/
structure EntryKept (k : Fin 16) (s t : State) : Prop where
  condition : t.responses[k].condition = s.responses[k].condition
  value : t.responses[k].value = s.responses[k].value
  others : ∀ j : Fin 16, j ≠ k → t.responses[j] = s.responses[j]

theorem EntryKept.of_set {e : Response} (h : t.responses = s.responses.set k e)
    (condition : e.condition = s.responses[k].condition) (value : e.value = s.responses[k].value) : EntryKept k s t := by
  have own : t.responses[k] = e := by rw [h, vector_get_set]
  refine ⟨by rw [own, condition], by rw [own, value], fun j hj => ?_⟩
  rw [h]
  exact vector_get_set_ne _ _ _ _ hj

theorem EntryKept.refl (k : Fin 16) (s : State) : EntryKept k s s := ⟨rfl, rfl, fun _ _ => rfl⟩

theorem placeClaims_entryKept (e : Response) (condition : e.condition = s.responses[k].condition)
    (value : e.value = s.responses[k].value) : EntryKept k s (placeClaims k (s.withResponse k e)) :=
  .of_set (placeClaims_changed s k e).1 condition value

theorem levelStep_entryKept (k : Fin 16) (v : Bool) (s : State) : EntryKept k s (levelStep k v s) := by
  unfold levelStep
  split
  · exact placeClaims_entryKept _ rfl rfl
  · exact .of_set rfl rfl rfl
  · split
    · exact .of_set (removeClaims_changed s k { s.responses[k] with claim := .idle }) rfl rfl
    · exact .of_set rfl rfl rfl
  · exact .refl k s

theorem latchStep_entryKept (k : Fin 16) (v : Bool) (s : State) : EntryKept k s (latchStep k v s) := by
  unfold latchStep
  split
  · exact placeClaims_entryKept _ rfl rfl
  · exact .refl k s

/-- The conditions of all entries are as they were, and those of a list have their value. -/
structure Followed (ks : List (Fin 16)) (s t : State) : Prop where
  keeps : SameBut [.signs, .responses, .ports, .portCounts] s t
  condition : ∀ k : Fin 16, t.responses[k].condition = s.responses[k].condition
  value : ∀ k ∈ ks, t.responses[k].value = conditionValue s s.responses[k].condition
  others : ∀ k : Fin 16, k ∉ ks → t.responses[k] = s.responses[k]

theorem respondEntry_followed (s : State) (k : Fin 16) : Followed [k] s (respondEntry s k) := by
  have keeps := respondEntry_keeps s k
  by_cases same : conditionValue s s.responses[k].condition = s.responses[k].value
  · rw [respondEntry_same same] at *
    exact ⟨keeps, fun _ => rfl, fun j hj => by rw [List.mem_singleton.mp hj, same], fun _ _ => rfl⟩
  · have step := respondEntry_changed rfl same
    dsimp only at step
    generalize hv : conditionValue s s.responses[k].condition = v at step
    have kept : EntryKept k (s.withResponse k { s.responses[k] with value := v }) (respondEntry s k) := by
      rw [step]
      split
      · split
        · exact latchStep_entryKept ..
        · exact levelStep_entryKept ..
      · exact .refl ..
    obtain ⟨condition, value, others⟩ := kept
    rw [withResponse_get] at condition value
    have others' (j : Fin 16) (hj : j ≠ k) : (respondEntry s k).responses[j] = s.responses[j] :=
      (others j hj).trans (vector_get_set_ne _ _ _ _ hj)
    refine ⟨keeps, fun j => ?_, fun j hj => ?_, fun j hj => others' j fun e => hj (List.mem_singleton.mpr e)⟩
    · by_cases hj : j = k
      · rw [hj]; exact condition
      · rw [others' j hj]
    · rw [List.mem_singleton.mp hj, hv]
      exact value

theorem foldl_followed (ks : List (Fin 16)) (s : State) : Followed ks s (ks.foldl respondEntry s) := by
  induction ks generalizing s with
  | nil => exact ⟨.refl _ s, fun _ => rfl, (fun _ h => by cases h), fun _ _ => rfl⟩
  | cons k ks ih =>
    have first := respondEntry_followed s k
    have rest := ih (respondEntry s k)
    refine ⟨first.keeps.trans rest.keeps, fun j => (rest.condition j).trans (first.condition j), fun j hj => ?_, fun j hj => ?_⟩
    · by_cases later : j ∈ ks
      · rw [List.foldl_cons, rest.value j later, first.condition, first.keeps.conditionValue_eq]
      · rw [List.foldl_cons, rest.others j later]
        exact first.value j (List.mem_singleton.mpr ((List.mem_cons.mp hj).resolve_right later))
    · rw [List.mem_cons, not_or] at hj
      rw [List.foldl_cons, rest.others j hj.2]
      exact first.others j fun e => hj.1 (List.mem_singleton.mp e)

/-- R146: after a change has been reported every entry has the value of its condition. -/
theorem respond_values (s : State) (k : Fin 16) :
    (respond s).responses[k].value = conditionValue (respond s) (respond s).responses[k].condition := by
  have all := foldl_followed (List.finRange 16) s
  rw [show (respond s).responses[k].value = _ from all.value k (List.mem_finRange k),
    show (respond s).responses[k].condition = _ from all.condition k]
  exact (respond_keeps s).conditionValue_eq.symm

/-- Entries and conditions are read alike where the parts they rest on are the same. -/
theorem conditionValue_of_parts {c : Condition} (call : t.call = s.call) (weather : t.weather = s.weather)
    (straps : t.straps = s.straps) (station : t.station = s.station) : conditionValue t c = conditionValue s c := by
  have own : t.own = s.own := by rw [State.own, straps]; rfl
  cases c with
  | callRange lo hi x => rw [conditionValue, conditionValue, call, own]
  | wxRange lo hi alarm x =>
    have level : stationLevel t alarm = stationLevel s alarm := by
      funext n
      simp only [stationLevel, own, weather, State.viewOf]
    rw [conditionValue, conditionValue, level]
  | noCentre => rw [conditionValue, conditionValue, selectedCentre_of_station station]

/-! ### WX-RATE and WX-LIMITS (R162, R168) -/

theorem clampTo_eq {lo hi : Int} (h : lo ≤ hi) (x : Int) : clampTo lo hi x = max lo (min hi x) := by
  rw [clampTo]
  split
  · omega
  · split <;> omega

theorem setRate_eq (n : Byte) (s : State) : setRate n s = s.setWeather { s.weather with
    interval := max 5 (min 60 n.toNat), pollTimer := some (s.clock.now + max 5 (min 60 n.toNat) * 1000000000) } := by
  have held : (if n.toNat < 5 then 5 else if 60 < n.toNat then 60 else n.toNat) = max 5 (min 60 n.toNat) := by
    split
    · omega
    · split <;> omega
  unfold setRate
  rw [held]
  rfl

theorem setLimits_ice (kind : q.kind = 1) : setLimits q s =
    if max (-400) (min 800 q.level2.toInt) < max (-400) (min 800 q.level1.toInt) ∧
        max (-1200) (min 1200 q.spread2.toInt) < max (-1200) (min 1200 q.spread1.toInt)
    then s.setWeather { s.weather with thresholds := { s.weather.thresholds with
      ice1 := max (-400) (min 800 q.level1.toInt), ice2 := max (-400) (min 800 q.level2.toInt),
      spread1 := max (-1200) (min 1200 q.spread1.toInt), spread2 := max (-1200) (min 1200 q.spread2.toInt) } }
    else rejected .range s := by
  have alarm : readAlarm q.kind = some .ice := if_pos kind
  have sets : setLimits q s = setIce q s := by rw [setLimits, alarm]
  rw [sets, setIce, clampTo_eq (by decide), clampTo_eq (by decide), clampTo_eq (by decide), clampTo_eq (by decide)]
  rfl

theorem setLimits_fog (kind : q.kind = 2) : setLimits q s =
    if max 0 (min 10000 q.level2.toInt) < max 0 (min 10000 q.level1.toInt)
    then s.setWeather { s.weather with thresholds := { s.weather.thresholds with
      fog1 := max 0 (min 10000 q.level1.toInt), fog2 := max 0 (min 10000 q.level2.toInt) } }
    else rejected .range s := by
  have alarm : readAlarm q.kind = some .fog := by rw [kind]; rfl
  have sets : setLimits q s = setFog q s := by rw [setLimits, alarm]
  rw [sets, setFog, clampTo_eq (by decide), clampTo_eq (by decide)]
  rfl

theorem setLimits_wind (kind : q.kind = 3) : setLimits q s =
    if max 0 (min 750 q.level1.toInt) < max 0 (min 750 q.level2.toInt)
    then s.setWeather { s.weather with thresholds := { s.weather.thresholds with
      wind1 := max 0 (min 750 q.level1.toInt), wind2 := max 0 (min 750 q.level2.toInt) } }
    else rejected .range s := by
  have alarm : readAlarm q.kind = some .wind := by rw [kind]; rfl
  have sets : setLimits q s = setWind q s := by rw [setLimits, alarm]
  rw [sets, setWind, clampTo_eq (by decide), clampTo_eq (by decide)]
  rfl

theorem setLimits_unknown (kind : q.kind.toNat = 0 ∨ 3 < q.kind.toNat) : setLimits q s = rejected .range s := by
  have alarm : readAlarm q.kind = none := by
    have away (b : Byte) (low : 1 ≤ b.toNat) (high : b.toNat ≤ 3) : q.kind ≠ b := by
      rintro rfl
      omega
    rw [readAlarm, if_neg (away 1 (by decide) (by decide)), if_neg (away 2 (by decide) (by decide)),
      if_neg (away 3 (by decide) (by decide))]
  rw [setLimits, alarm]
  rfl

/-! ### The weather view (R172) -/

theorem readLevel_levelByte (x : Level) : readLevel (levelByte x) = some x := by cases x <;> rfl

theorem readLevel_unknown {b : Byte} (h : 3 < b.toNat) : readLevel b = none := by
  have away (x : Byte) (high : x.toNat ≤ 3) : b ≠ x := by
    rintro rfl
    omega
  rw [readLevel, if_neg (away 0 (by decide)), if_neg (away 1 (by decide)), if_neg (away 2 (by decide)),
    if_neg (away 3 (by decide))]

theorem readAlarmCell_levels {bytes : List Byte} {ice fog wind : Level}
    (h : bytes.take 3 = [levelByte ice, levelByte fog, levelByte wind]) :
    readAlarmCell bytes = some (ice, fog, wind) := by
  have at' (i : Nat) (hi : i < 3) : byteAt bytes i = [levelByte ice, levelByte fog, levelByte wind].getD i 0 := by
    rw [← h, byteAt, List.getD_eq_getElem?_getD, List.getD_eq_getElem?_getD, List.getElem?_take_of_lt hi]
  rw [readAlarmCell, at' 0 (by decide), at' 1 (by decide), at' 2 (by decide)]
  simp only [List.getD_cons_zero, List.getD_cons_succ, readLevel_levelByte]

theorem readAlarmCell_unknown {bytes : List Byte} (h : 3 < (byteAt bytes 0).toNat ∨ 3 < (byteAt bytes 1).toNat ∨
    3 < (byteAt bytes 2).toNat) : readAlarmCell bytes = none := by
  unfold readAlarmCell
  rcases h with h | h | h <;> rw [readLevel_unknown h]
  · cases readLevel (byteAt bytes 0) <;> rfl
  · cases readLevel (byteAt bytes 0) <;> cases readLevel (byteAt bytes 1) <;> rfl

theorem handPlain_wxAlarm {x : Cell} (h : x.kind = kWxAlarm) (own : Bool) (s : State) :
    handPlain false own x s = alarmCopied x.source.toNat x.payload s := by
  unfold handPlain
  rw [if_neg (by rw [h]; decide), if_neg (by rw [h]; decide), if_neg (by rw [h]; decide), if_neg (by rw [h]; decide),
    if_neg (by rw [h]; decide), if_neg (by rw [h]; decide), if_neg (by rw [h]; decide), if_neg (by rw [h]; decide),
    if_neg (by rw [h]; decide), if_neg (by rw [h]; decide), if_pos h]
  exact if_neg nofun

section
variable {n : Nat} {bytes : List Byte}

theorem alarmCopied_unknown (h : readAlarmCell bytes = none) : alarmCopied n bytes s = s := by
  unfold alarmCopied
  rw [h]
  exact ite_self _

variable {ice fog wind : Level} (runs : s.phase = .starting ∨ s.phase = .active)
  (h : readAlarmCell bytes = some (ice, fog, wind))
include runs h

theorem alarmCopied_eq : alarmCopied n bytes s =
    match s.viewOf n with
    | none => respond (setView n (some ⟨ice, fog, wind, s.now⟩) s)
    | some e => if e.ice = ice ∧ e.fog = fog ∧ e.wind = wind then setView n (some ⟨ice, fog, wind, s.now⟩) s
        else respond (setView n (some ⟨ice, fog, wind, s.now⟩) s) := by
  have yes : weatherRuns s = true := by rcases runs with e | e <;> rw [weatherRuns, e] <;> rfl
  rw [alarmCopied, if_pos yes, h] <;> rfl

theorem alarmCopied_weather : (alarmCopied n bytes s).weather = { s.weather with
    view := s.weather.view.setIfInBounds n (some ⟨ice, fog, wind, s.clock.now⟩) } := by
  have responds : (respond (setView n (some ⟨ice, fog, wind, s.now⟩) s)).weather =
      (setView n (some ⟨ice, fog, wind, s.now⟩) s).weather := (respond_keeps _).same .weather (by decide)
  rw [alarmCopied_eq runs h]
  split
  · exact responds
  · split
    · rfl
    · exact responds

theorem alarmCopied_responds (changed : ∀ at' : Time, s.viewOf n ≠ some ⟨ice, fog, wind, at'⟩) :
    alarmCopied n bytes s = respond (setView n (some ⟨ice, fog, wind, s.now⟩) s) := by
  rw [alarmCopied_eq runs h]
  split
  · rfl
  · next e he =>
    refine if_neg ?_
    rintro ⟨rfl, rfl, rfl⟩
    exact changed e.refreshed he

end

theorem viewExpired_eq {n : Nat} {e : ViewEntry} (h : s.viewOf n = some e) :
    viewExpired n s = respond (setView n none (reach (e.refreshed + 35000000000) s)) := by
  unfold viewExpired
  rw [h]
  rfl

/-! ### The brightness step (R159) -/

section
variable {level : Nat} {a : Int}

theorem brightThreshold_rises (low : 2 ≤ level) (high : level ≤ 7) :
    0 < brightThreshold (level - 1) ∧ brightThreshold (level - 1) < brightThreshold level := by
  have rises : ∀ l : Fin 8, 2 ≤ l.val →
      0 < brightThreshold (l.val - 1) ∧ brightThreshold (l.val - 1) < brightThreshold l.val := by decide
  exact rises ⟨level, by omega⟩ low

theorem brightnessStep_up (more : level ≤ 7) (bright : (brightThreshold level : Int) ≤ a) :
    brightnessStep level a = level + 1 := if_pos ⟨more, bright⟩

theorem brightnessStep_down (less : 2 ≤ level) (dark : 4 * a < 3 * (brightThreshold (level - 1) : Int)) :
    brightnessStep level a = level - 1 := by
  refine (if_neg fun ⟨more, bright⟩ => ?_).trans (if_pos ⟨less, dark⟩)
  have := brightThreshold_rises less more
  omega

theorem brightnessStep_stays (up : ¬(level ≤ 7 ∧ (brightThreshold level : Int) ≤ a))
    (down : ¬(2 ≤ level ∧ 4 * a < 3 * (brightThreshold (level - 1) : Int))) : brightnessStep level a = level :=
  (if_neg up).trans (if_neg down)

theorem brightnessStep_bounds (low : 1 ≤ level) (high : level ≤ 8) :
    1 ≤ brightnessStep level a ∧ brightnessStep level a ≤ 8 := by
  unfold brightnessStep
  split
  · omega
  · split <;> omega

end

/-- Settles O48, command by command. -/
theorem weatherCommandsTimersAndBrightness : Obligations.WeatherCommandsTimersAndBrightness := by
  refine ⟨⟨fun via p n q s admitted unicast weather => ?_, fun s d active timer => ?_, fun s n e he => ?_,
    fun l c s copied kind runs => ?_⟩, fun level a low high => ?_⟩
  · intro limits sets held th
    have fits : s.profile p ∈ [Profile.weather] := by rw [weather]; decide
    have rate : exec (.wxRate via (natByte p.val) n) s = .next (setRate n s) := by
      refine (exec_admitted (c := .wxRate (natByte p.val) n) admitted rfl rfl).trans
        (congrArg Host.Outcome.next (Eq.trans ?_ (portCommand_one (act := fun _ => setRate n) fits)))
      rw [commandEffect, unicast]
    have limit : limits = .next (setLimits q s) := by
      refine (exec_admitted (c := .wxLimits (natByte p.val) q) admitted rfl rfl).trans
        (congrArg Host.Outcome.next (Eq.trans ?_ (portCommand_one (act := fun _ => setLimits q) fits)))
      rw [commandEffect, unicast]
    refine ⟨rate.trans (congrArg Host.Outcome.next (setRate_eq n s)), fun kind => ?_, fun kind => ?_, fun kind => ?_,
      fun kind => ?_⟩ <;> rw [limit]
    · rw [setLimits_ice kind]
      exact apply_ite ..
    · rw [setLimits_fog kind]
      exact apply_ite ..
    · rw [setLimits_wind kind]
      exact apply_ite ..
    · rw [setLimits_unknown kind]
  · intro later
    have expires : exec .alarmTimerExpires s = .next (sendAlarm (reach d s)) := by
      refine congrArg Host.Outcome.next ?_
      unfold alarmExpired
      rw [timer]
      exact if_pos active
    rw [expires]
    refine ⟨fun room => ⟨_, congrArg Host.Outcome.next (sendAlarm_room (s := reach d s) room), rfl⟩, fun full => ?_⟩
    exact congrArg Host.Outcome.next (sendAlarm_full (s := reach d s) full)
  · have responds := respond_keeps (setView n none (reach (e.refreshed + 35000000000) s))
    have view : SameBut [.clock, .weather] s (setView n none (reach (e.refreshed + 35000000000) s)) :=
      State.setWeather_keeps.step (by decide) ((reach_keeps _ s).mono (by decide))
    refine ⟨_, congrArg Host.Outcome.next (viewExpired_eq he), responds.step (by decide) (view.mono (by decide)),
      responds.same .clock (by decide), responds.same .weather (by decide), respond_values _⟩
  · have alarm : c.kind = kWxAlarm := kind
    obtain ⟨t, exec, _, behind⟩ := copied.unit (by rw [alarm]; decide)
    rw [handPlain_wxAlarm alarm] at behind
    have valid : SameBut [.lines] s (validWord l s) := validWord_keeps l s
    have judged := alarmCopied_keeps c.source.toNat c.payload (validWord l s)
    have runs' : (validWord l s).phase = .starting ∨ (validWord l s).phase = .active := runs
    have weather : t.weather = (alarmCopied c.source.toNat c.payload (validWord l s)).weather :=
      behind.same .weather (by decide)
    refine ⟨t, exec, behind.step (by decide) (judged.step (by decide) (valid.mono (by decide))),
      fun ice fog wind levels => ⟨?_, fun changed k => ?_⟩, fun unknown => ?_⟩
    · rw [weather, alarmCopied_weather runs' (readAlarmCell_levels levels)]
      rfl
    · have responded := alarmCopied_responds (n := c.source.toNat) runs' (readAlarmCell_levels levels) changed
      rw [responded] at behind
      have responses : t.responses = _ := behind.same .responses (by decide)
      have same : ∀ x, conditionValue t x = conditionValue _ x := fun x =>
        conditionValue_of_parts (behind.same .call (by decide)) (behind.same .weather (by decide))
          (behind.same .straps (by decide)) (behind.same .station (by decide))
      rw [same, responses]
      exact respond_values _ k
    · rw [weather, alarmCopied_unknown (readAlarmCell_unknown unknown)]
      rfl
  · exact ⟨fun more bright => brightnessStep_up more bright, fun less dark => brightnessStep_down less dark,
      fun up down => brightnessStep_stays up down, brightnessStep_bounds low high⟩

end Sys2Proof.Machine
end

section
/-! PROOFS. Payloads and frames are read back as they were written (O60). -/

namespace Sys2Proof.Machine

/-! ### Bytes of a padded payload -/

/-- Within the payload, a padded list of bytes holds the bytes written and zeros behind them. -/
theorem byteAt_padded {bytes : List Byte} {i : Nat} (h : i < 56) : byteAt (padded bytes) i = byteAt bytes i := by
  simp only [byteAt, padded, List.getD_eq_getElem?_getD, List.getElem?_take, h, if_true, List.getElem?_append]
  split
  · rfl
  · next past =>
    have none : bytes[i]? = none := List.getElem?_eq_none (by omega)
    have zero : (List.replicate 56 (0 : Byte))[i - bytes.length]? = some 0 := by
      rw [List.getElem?_replicate, if_pos (by omega)]
    rw [none, zero]
    rfl

/-- The bytes written can be taken back out of a padded payload that has room for them. -/
theorem padded_drop_take {first rest : List Byte} (h : first.length + rest.length ≤ 56) :
    ((padded (first ++ rest)).drop first.length).take rest.length = rest := by
  unfold padded
  rw [List.drop_take, List.append_assoc, List.drop_left', List.take_take, List.take_left' (by omega)]
  rfl

theorem wordAt_padded {bytes : List Byte} {i : Nat} (h : i < 55) : wordAt (padded bytes) i = wordAt bytes i := by
  unfold wordAt
  rw [byteAt_padded (by omega), byteAt_padded (by omega)]

@[simp] theorem byteAt_zero (b : Byte) (rest : List Byte) : byteAt (b :: rest) 0 = b := rfl

@[simp] theorem byteAt_succ (b : Byte) (rest : List Byte) (i : Nat) : byteAt (b :: rest) (i + 1) = byteAt rest i := rfl

/-- Two bytes beside one another are the word they were cut from. -/
theorem join_halves (w : BitVec 16) : (w.extractLsb' 8 8 ++ w.extractLsb' 0 8 : BitVec 16) = w := by
  rw [BitVec.extractLsb'_append_extractLsb'_eq_extractLsb' (by omega)]
  simp

theorem join_quarters (v : BitVec 32) :
    (v.extractLsb' 24 8 ++ v.extractLsb' 16 8 ++ v.extractLsb' 8 8 ++ v.extractLsb' 0 8 : BitVec 32) = v := by
  rw [BitVec.extractLsb'_append_extractLsb'_eq_extractLsb' (by omega),
    BitVec.extractLsb'_append_extractLsb'_eq_extractLsb' (by omega),
    BitVec.extractLsb'_append_extractLsb'_eq_extractLsb' (by omega)]
  simp

theorem natByte_toNat {n : Nat} (h : n < 256) : (natByte n).toNat = n := by
  simp [natByte, Nat.mod_eq_of_lt h]

theorem flagByte_read (b : Bool) : (flagByte b)[0] = b := by cases b <;> rfl

theorem circuit_natByte (c : Fin 16) : (Fin.ofNat 16 (natByte c.val).toNat : Fin 16) = c := by
  have := c.isLt
  rw [natByte_toNat (by omega)]
  exact Fin.ofNat_val_eq_self c

theorem port_natByte (p : Port) : (Fin.ofNat 4 (natByte p.val).toNat : Port) = p := by
  have := p.isLt
  rw [natByte_toNat (by omega)]
  exact Fin.ofNat_val_eq_self p

theorem foldAt_foldByte (bytes : List Byte) (i : Nat) (f : Fold) (h : byteAt bytes i = foldByte f) : foldAt bytes i = f := by
  unfold foldAt
  rw [h]
  cases f <;> rfl

/-! ### Cell payloads -/

theorem readHello_padded (h : Hello) : readHello (padded (helloBytes h)) = h := by
  obtain ⟨stamp, fold, restart, centre, toll, duplicate, profiles⟩ := h
  have stampRead : wordAt (padded (helloBytes ⟨stamp, fold, restart, centre, toll, duplicate, profiles⟩)) 0 = stamp :=
    (wordAt_padded (by omega)).trans (join_halves stamp)
  have foldRead := foldAt_foldByte (padded (helloBytes ⟨stamp, fold, restart, centre, toll, duplicate, profiles⟩)) 2 fold
    (byteAt_padded (by omega))
  have profilesRead : #v[profiles[0], profiles[1], profiles[2], profiles[3]] = profiles := by
    ext i hi
    match i, hi with
    | 0, _ => rfl
    | 1, _ => rfl
    | 2, _ => rfl
    | 3, _ => rfl
  unfold readHello
  rw [stampRead, foldRead]
  simp [flagAt, byteAt_padded, helloBytes, wordBytes, flagByte_read, profilesRead]

theorem readClaim_padded {c : Claim} (priority : c.priority ≤ 3) (target : c.target ≤ 60) :
    readClaim (padded (claimBytes c)) = c := by
  obtain ⟨circuit, prio, port, preempt, ring, target', number, beaten⟩ := c
  change prio ≤ 3 at priority
  change target' ≤ 60 at target
  have prioRead : (natByte prio).toNat % 4 = prio := by
    rw [natByte_toNat (by omega)]
    exact Nat.mod_eq_of_lt (by omega)
  have targetRead : (natByte target').toNat = target' := natByte_toNat (by omega)
  have numberRead : (number.setWidth 8 : Byte).extractLsb' 0 4 = number := by
    rw [← BitVec.setWidth_eq_extractLsb' (by omega)]
    simp
  simp only [readClaim, circuitAt, claimBytes, Nat.zero_lt_succ, byteAt_padded, byteAt_zero, circuit_natByte,
    priorityAt, Nat.reduceLT, byteAt_succ, prioRead, portAt, port_natByte, flagAt, BitVec.getLsbD_eq_getElem,
    flagByte_read, targetRead, numberRead]

theorem readVoice_padded {c : Fin 16} {seq : BitVec 8} {voice : List Byte} (h : voice.length = 40) :
    readVoice (padded (voiceBytes c seq voice)) = voice := by
  have taken := padded_drop_take (first := [natByte c.val, seq]) (rest := voice) (by simp [h])
  rw [h] at taken
  exact taken

theorem readTollBody_padded {n : BitVec 16} {body : List Byte} (h : body.length ≤ 53) :
    readTollBody (padded (tollBodyBytes n body)) = ⟨n, body.length, body⟩ := by
  have length : (byteAt (padded (tollBodyBytes n body)) 2).toNat = body.length := by
    rw [byteAt_padded (by omega)]
    exact natByte_toNat (by omega)
  have number : wordAt (padded (tollBodyBytes n body)) 0 = n := (wordAt_padded (by omega)).trans (join_halves n)
  have taken := padded_drop_take (first := wordBytes n ++ [natByte body.length]) (rest := body)
    (by simp [wordBytes]; omega)
  unfold readTollBody
  rw [length, number]
  exact congrArg (TollBody.mk n body.length) taken

theorem readPass_padded {p : Port} {data : List Byte} (h : data.length ≤ 48) :
    (byteAt (padded (passBytes p data)) 0).toNat = p.val ∧ (byteAt (padded (passBytes p data)) 1).toNat = data.length ∧
    ((padded (passBytes p data)).drop 2).take data.length = data := by
  have := p.isLt
  refine ⟨?_, ?_, ?_⟩
  · rw [byteAt_padded (by omega)]
    exact natByte_toNat (by omega)
  · rw [byteAt_padded (by omega)]
    exact natByte_toNat (by omega)
  · exact padded_drop_take (first := [natByte p.val, natByte data.length]) (by simp; omega)

/-! ### The bytes sent as 0 (R4) -/

/-- The bytes below a length that depends on the kind are kept, the others cleared. -/
theorem clearUnused_keeps {kind : Byte} {b : List Byte} {i : Nat} {used : Prop}
    (h : usesByte kind b i = true ↔ used) :
    (used → byteAt (clearUnused kind b) i = byteAt b i) ∧ (¬used → byteAt (clearUnused kind b) i = 0) := by
  rw [byteAt_clearUnused]
  exact ⟨fun u => if_pos (h.mpr u), fun u => if_neg (u ∘ h.mp)⟩

/-- The bytes of a COMMAND in use. -/
theorem usesByte_command (b : List Byte) (i : Nat) : usesByte 7 b i = true ↔
    i < commandLength b ∧ ¬(byteAt b 0 = 9 ∧ (6 ≤ i ∧ i < 10) ∧ conditionUnused (byteAt b 5) (i - 6) = true) := by
  have : usesByte 7 b i = (decide (i < commandLength b) &&
      !(decide (byteAt b 0 = 9) && decide (6 ≤ i ∧ i < 10) && conditionUnused (byteAt b 5) (i - 6))) := rfl
  rw [this]
  simp only [Bool.and_eq_true, Bool.not_eq_true', decide_eq_true_eq, ← Bool.not_eq_true, not_and, and_imp]

/-! ### Frames -/

theorem readWords_wordsBytes (ws : List (BitVec 16)) : readWords (wordsBytes ws) = some ws := by
  induction ws with
  | nil => rfl
  | cons w ws ih =>
    have step : readWords (wordsBytes (w :: ws)) = (readWords (wordsBytes ws)).map ((w.extractLsb' 8 8 ++ w.extractLsb' 0 8) :: ·) := rfl
    rw [step, ih, join_halves]
    rfl

theorem byteAt_append_left {a b : List Byte} {i : Nat} (h : i < a.length) : byteAt (a ++ b) i = byteAt a i := by
  simp [byteAt, List.getElem?_append_left h]

theorem byteAt_append_right {a b : List Byte} {i : Nat} (h : a.length ≤ i) : byteAt (a ++ b) i = byteAt b (i - a.length) := by
  simp [byteAt, List.getElem?_append_right h]

theorem valueBytes_length (v : Option (BitVec 32)) : (valueBytes v).length = 5 := by cases v <;> rfl

theorem codeBytes_length (c : Option Byte) : (codeBytes c).length = 2 := by cases c <;> rfl

@[simp] theorem valueAt_valueBytes (v : Option (BitVec 32)) : valueAt (valueBytes v) 0 = v := by
  cases v with
  | none => rfl
  | some v => exact (if_pos (by simp [flagAt, valueBytes])).trans (congrArg some (join_quarters v))

@[simp] theorem codeAt_codeBytes (c : Option Byte) : codeAt (codeBytes c) 0 = c := by
  cases c with
  | none => rfl
  | some c => exact if_pos (by simp [flagAt, codeBytes])

theorem flagAt_congr {a b : List Byte} {i j : Nat} (h : byteAt a i = byteAt b j) : flagAt a i = flagAt b j := by
  rw [flagAt, flagAt, h]

/-- A value that lies in the first bytes is read from them. -/
theorem valueAt_append_left {a b : List Byte} {i : Nat} (h : i + 4 < a.length) : valueAt (a ++ b) i = valueAt a i := by
  unfold valueAt
  rw [flagAt_congr (byteAt_append_left (by omega)), byteAt_append_left (by omega), byteAt_append_left (by omega),
    byteAt_append_left (by omega), byteAt_append_left h]

theorem codeAt_append_left {a b : List Byte} {i : Nat} (h : i + 1 < a.length) : codeAt (a ++ b) i = codeAt a i := by
  unfold codeAt
  rw [flagAt_congr (byteAt_append_left (by omega)), byteAt_append_left h]

/-- A value behind the first bytes is read from those behind them. -/
theorem valueAt_append_right {a b : List Byte} {i : Nat} (h : a.length = i) : valueAt (a ++ b) i = valueAt b 0 := by
  have byte (k : Nat) : byteAt (a ++ b) (i + k) = byteAt b k := by
    rw [byteAt_append_right (by omega), ← h, Nat.add_sub_cancel_left]
  unfold valueAt
  rw [flagAt_congr (i := i) (byte 0), byte, byte, byte, byte]

theorem codeAt_append_right {a b : List Byte} {i : Nat} (h : a.length = i) : codeAt (a ++ b) i = codeAt b 0 := by
  have byte (k : Nat) : byteAt (a ++ b) (i + k) = byteAt b k := by
    rw [byteAt_append_right (by omega), ← h, Nat.add_sub_cancel_left]
  unfold codeAt
  rw [flagAt_congr (i := i) (byte 0), byte]

theorem readingBytes_length (r : Reading) : (readingBytes r).length = 39 := by
  simp [readingBytes, valueBytes_length, codeBytes_length]

theorem readReading_readingBytes (r : Reading) : readReading (readingBytes r) = r := by
  obtain ⟨numeric, surface, precip⟩ := r
  have values : #v[numeric[0], numeric[1], numeric[2], numeric[3], numeric[4], numeric[5], numeric[6]] = numeric := by
    ext1 i hi
    match i, hi with
    | 0, _ | 1, _ | 2, _ | 3, _ | 4, _ | 5, _ | 6, _ => rfl
  simp [readReading, readingBytes, valueAt_append_left, valueAt_append_right, codeAt_append_left, codeAt_append_right,
    valueBytes_length, codeBytes_length, values, -List.append_assoc]

/-- A frame of the equipment is read back as it was written. -/
theorem readFrame_rxFrame (f : RxFrame) (samples : ∀ v, f = .samples v → v.length = 40) : readFrame (rxFrame f) = some f := by
  cases f with
  | ident k size =>
    cases size with
    | none => rfl
    | some size => rfl
  | alive | offHook | onHook | answer | ready | busy | rowsTaken | record | cell => rfl
  | samples v => exact if_pos (samples v rfl)
  | shown pic checks =>
    have : readFrame (rxFrame (.shown pic checks)) = (readWords (wordsBytes checks)).map (.shown pic) := rfl
    rw [this, readWords_wordsBytes]
    rfl
  | reading r =>
    have : readFrame (rxFrame (.reading r)) =
        if (readingBytes r).length = 39 then some (.reading (readReading (readingBytes r))) else none := rfl
    rw [this, if_pos (readingBytes_length r), readReading_readingBytes]

theorem padded_length (bytes : List Byte) : (padded bytes).length = 56 := by simp [padded]

/-- R144: the bytes of a RESPONSE-SET in use. -/
theorem responseByte_used {kind : Byte} {i : Nat} :
    (i < 14 ∧ ¬((6 ≤ i ∧ i < 10) ∧ conditionUnused kind (i - 6) = true)) ↔
    (i < 14 ∧ ¬(kind = 1 ∧ i = 9) ∧ ¬(kind = 3 ∧ 6 ≤ i ∧ i ≤ 9)) := by
  simp only [conditionUnused, Bool.or_eq_true, Bool.and_eq_true, decide_eq_true_eq]
  grind

/-- A COMMAND of code `k` other than RESPONSE-SET uses the bytes that its fields reach to. -/
theorem command_used {b : List Byte} {i n : Nat} {k : Nat} (code : (byteAt b 0).toNat = k) (plain : k ≠ 9)
    (length : commandLength b = n) : usesByte 7 b i = true ↔ i < n := by
  have other : byteAt b 0 ≠ 9 := fun e => plain (code.symm.trans (congrArg BitVec.toNat e))
  rw [usesByte_command, length]
  exact ⟨fun h => h.1, fun h => ⟨h, fun x => other x.1⟩⟩

theorem commandLength_eq {b : List Byte} {k : Nat} (code : (byteAt b 0).toNat = k) : commandLength b =
    ([56, 4, 3, 3, 3, 2, 7 + 7 * min (byteAt b 6).toNat 7, 4, 2, 14, 3, 3,
      if byteAt b 2 = 2 ∨ byteAt b 2 = 3 then 7 else 11, 3, 2, 2] : List Nat).getD k 56 := by
  rw [commandLength, code]

/-- Settles O60: each field is read from the bytes at which it was written, and `usesByte` is the table of the bytes a
kind uses. -/
theorem cellsAndFramesReadBackAsWritten : Obligations.CellsAndFramesReadBackAsWritten := by
  unfold Obligations.CellsAndFramesReadBackAsWritten
  refine ⟨fun kind dest bytes s => ⟨decide_eq_true rfl, padded_length bytes, rfl⟩, readHello_padded,
    fun c => readClaim_padded, fun c seq voice h => ⟨?circuit, byteAt_padded (by omega), readVoice_padded h⟩,
    fun n body => readTollBody_padded, fun p data => readPass_padded,
    fun b i => ⟨clearUnused_keeps ?voice, clearUnused_keeps ?down, clearUnused_keeps ?plate, clearUnused_keeps ?pass,
      fun h => clearUnused_keeps ?two, fun h => clearUnused_keeps ?three, fun h => clearUnused_keeps ?four,
      fun h => clearUnused_keeps ?page, fun h => clearUnused_keeps ?response, fun h => clearUnused_keeps ?limits,
      fun h => clearUnused_keeps ?unknown⟩, readFrame_rxFrame⟩
  case circuit =>
    rw [circuitAt, byteAt_padded (by omega)]
    exact circuit_natByte c
  case voice | down | plate | pass => exact decide_eq_true_iff
  case two =>
    simp only [List.mem_cons, List.not_mem_nil, or_false] at h
    rcases h with h | h | h | h <;> exact command_used h (by omega) (commandLength_eq h)
  case three =>
    simp only [List.mem_cons, List.not_mem_nil, or_false] at h
    rcases h with h | h | h | h | h | h <;> exact command_used h (by omega) (commandLength_eq h)
  case four => rcases h with h | h <;> exact command_used h (by omega) (commandLength_eq h)
  case page => exact command_used h (by omega) (commandLength_eq h)
  case response =>
    have nine : byteAt b 0 = 9 := BitVec.eq_of_toNat_eq h
    rw [usesByte_command, commandLength_eq h, ← responseByte_used]
    simp [nine]
  case limits =>
    rw [command_used h (by omega) (commandLength_eq h)]
    change i < (if byteAt b 2 = 2 ∨ byteAt b 2 = 3 then 7 else 11) ↔ _
    split
    · next spread => 
      rcases spread with e | e <;> simp [e]
    · next plain =>
      rw [not_or] at plain
      simp only [plain.1, plain.2, ne_eq, not_false_eq_true, and_true]
      omega
  case unknown =>
    have length : commandLength b = 56 := by
      rcases h with h | h
      · exact commandLength_eq h
      · rw [commandLength_eq rfl]
        rw [List.getD_eq_getElem?_getD, List.getElem?_eq_none h]
        rfl
    exact command_used rfl (by omega) length

end Sys2Proof.Machine
end

section
/-! PROOFS. The frame reader of a port unit and the frames that it sends (R176, R177, R183: O50). -/

namespace Sys2Proof.Machine

variable {s t : State} {p : Port} {stopped : Bool} {bytes more part : List Byte} {f : Frame} {x : BitVec 16} {r : RxFrame}

/-! ### The frame reader (R176) -/

/-- The bytes behind the start flag of a frame that carries this check. -/
def checkedBytes (f : Frame) (x : BitVec 16) : List Byte := f.type :: natByte f.payload.length :: f.payload ++ wordBytes x

theorem setRx_idle (idle : s.rx[p] = none) : setRx p none s = s := by
  have same : s.rx.set p none = s.rx := by rw [← idle, vector_set_self]
  rw [setRx, same]
  rfl

/-- A port unit that waits for a start flag reads the bytes that come. -/
theorem takeBytes_idle (idle : s.rx[p] = none) : takeBytes p stopped bytes s = readBytes p stopped bytes.length bytes s := by
  have read : bytesRead p s = [] := by rw [bytesRead, idle]
  rw [takeBytes, read, setRx_idle idle]
  rfl

/-- Bytes that follow those of the frame being read. -/
theorem takeBytes_behind {y : PartFrame} (busy : s.rx[p] = some y) :
    takeBytes p stopped more s = takeBytes p stopped (y.bytes ++ more) (s.setRx (s.rx.set p none)) := by
  have read : bytesRead p s = y.bytes := by rw [bytesRead, busy]
  rw [takeBytes_idle (s := s.setRx (s.rx.set p none)) (vector_get_set s.rx p none), takeBytes, read]
  rfl

/-- R176: bytes before a start flag are ignored. -/
theorem takeBytes_ignored (idle : s.rx[p] = none) {b : Byte} (h : b ≠ 0x7E) :
    takeBytes p stopped (b :: more) s = takeBytes p stopped more s := by
  rw [takeBytes_idle idle, takeBytes_idle idle]
  exact if_pos h

/-- What stands behind a start flag is a whole frame. -/
theorem frameAt_checkedBytes (short : f.payload.length ≤ 255) :
    frameAt (checkedBytes f x ++ more) = some (f, x, more) := by
  obtain ⟨type, payload⟩ := f
  have length : (natByte payload.length).toNat = payload.length := natByte_toNat (by simpa using Nat.lt_succ_of_le short)
  have whole : frameAt (checkedBytes ⟨type, payload⟩ x ++ more) =
      if (natByte payload.length).toNat + 2 ≤ (payload ++ wordBytes x ++ more).length then
        some (⟨type, (payload ++ wordBytes x ++ more).take (natByte payload.length).toNat⟩,
          wordAt ((payload ++ wordBytes x ++ more).drop (natByte payload.length).toNat) 0,
          (payload ++ wordBytes x ++ more).drop ((natByte payload.length).toNat + 2))
      else none := rfl
  rw [whole, length, if_pos (by simp [wordBytes]), List.append_assoc, List.take_left, List.drop_left,
    ← List.drop_drop, List.drop_left]
  exact congrArg (fun y => some (_, y, more)) (join_halves x)

/-- What stands behind a start flag is not yet a whole frame. -/
theorem frameAt_part (h : part.length < 2 ∨ part.length < (byteAt part 1).toNat + 4) : frameAt part = none := by
  match part with
  | [] => rfl
  | [_] => rfl
  | type :: length :: rest =>
    refine if_neg ?_
    have second : byteAt (type :: length :: rest) 1 = length := rfl
    rw [second] at h
    simp only [List.length_cons] at h
    omega

theorem goodFrame_some (good : x = frameCheck f) (read : readFrame f = some r) {k : Profile}
    (fits : rxProfile r = none ∨ rxProfile r = some k) : goodFrame k f x = some r := by
  have takes : receives k r = true := by
    unfold receives
    rcases fits with e | e <;> rw [e]
    exact decide_eq_true rfl
  rw [goodFrame, if_pos good, read]
  exact (Option.filter_some ..).trans (if_pos takes)

theorem goodFrame_eq_some {k : Profile} (h : goodFrame k f x = some r) :
    x = frameCheck f ∧ readFrame f = some r ∧ (rxProfile r = none ∨ rxProfile r = some k) := by
  unfold goodFrame at h
  split at h
  · next good =>
    obtain ⟨read, takes⟩ := Option.filter_eq_some_iff.mp h
    refine ⟨good, read, ?_⟩
    unfold receives at takes
    split at takes
    · next e => exact .inl e
    · next e => exact .inr (e.trans (congrArg some (of_decide_eq_true takes)))
  · cases h

/-- R176: a valid frame is taken, and what is behind it read next. -/
theorem takeBytes_valid (idle : s.rx[p] = none) (short : f.payload.length ≤ 255)
    (good : goodFrame (s.profile p) f x = some r) :
    takeBytes p stopped (0x7E :: checkedBytes f x ++ more) s = takeBytes p stopped more (validFrame p r s) := by
  have after : (validFrame p r s).rx[p] = none := by
    rw [show (validFrame p r s).rx = s.rx from (validFrame_keeps p r s).same .rx (by decide)]
    exact idle
  rw [takeBytes_idle idle, takeBytes_idle after]
  change readBytes p stopped ((checkedBytes f x ++ more).length + 1) (startFlag :: (checkedBytes f x ++ more)) s = _
  rw [readBytes, if_neg (not_not_intro rfl), frameAt_checkedBytes short]
  dsimp only
  rw [good]
  exact readBytes_fuel p stopped _ _ more _ (by simp) (Nat.le_refl _)

/-- R176: a frame that is not valid is counted, and the search goes on from the byte behind its flag. -/
theorem takeBytes_bad (idle : s.rx[p] = none) (short : f.payload.length ≤ 255)
    (bad : goodFrame (s.profile p) f x = none) :
    takeBytes p stopped (0x7E :: checkedBytes f x ++ more) s = takeBytes p stopped (checkedBytes f x ++ more) (badFrameIn s) := by
  rw [takeBytes_idle idle, takeBytes_idle (s := badFrameIn s) idle]
  change readBytes p stopped ((checkedBytes f x ++ more).length + 1) (startFlag :: (checkedBytes f x ++ more)) s = _
  rw [readBytes, if_neg (not_not_intro rfl), frameAt_checkedBytes short]
  dsimp only
  rw [bad]

/-- R176: a frame that is not whole waits for more bytes, or is discarded when they have stopped. -/
theorem takeBytes_part (idle : s.rx[p] = none) (h : part.length < 2 ∨ part.length < (byteAt part 1).toNat + 4) :
    takeBytes p stopped (0x7E :: part) s = if stopped then takeBytes p true part (badFrameIn s)
      else s.setRx (s.rx.set p (some ⟨0x7E :: part, s.clock.now + 10000000⟩)) := by
  rw [takeBytes_idle idle, takeBytes_idle (s := badFrameIn s) idle]
  change readBytes p stopped (part.length + 1) (startFlag :: part) s = _
  rw [readBytes, if_neg (not_not_intro rfl), frameAt_part h]
  cases stopped <;> rfl

/-! ### The link's bytes -/

/-- Outside PASS a port unit takes the bytes of its link as frames. -/
theorem linkBytes_taken (profile : s.profile p ≠ .none) (reads : s.ports[p].link ≠ .pass) :
    linkBytes p stopped bytes s = takeBytes p stopped bytes s := by
  rw [linkBytes, if_neg profile, if_neg reads]

/-- R175: a port treated as NONE discards every byte. -/
theorem linkBytes_none (profile : s.profile p = .none) : linkBytes p stopped bytes s = s := if_pos profile

theorem badFrame_exec : exec (.badFrame p f x) s = .next (linkBytes p false (0x7E :: checkedBytes f x) s) := rfl

/-- A frame taken whole is its bytes, read one by one. -/
theorem frameArrives_bytes (short : (rxFrame r).payload.length ≤ 255) :
    frameArrives p r s = linkBytes p false (0x7E :: checkedBytes (rxFrame r) (frameCheck (rxFrame r))) s := by
  unfold frameArrives
  split
  · next whole =>
    simp only [readsWhole, Bool.and_eq_true, decide_eq_true_eq] at whole
    obtain ⟨⟨⟨profile, reads, idle⟩, takes⟩, length⟩ := whole
    have read : readFrame (rxFrame r) = some r := readFrame_rxFrame r (by
      rintro v rfl
      exact of_decide_eq_true length)
    have good : goodFrame (s.profile p) (rxFrame r) (frameCheck (rxFrame r)) = some r := by
      rw [goodFrame, if_pos rfl, read]
      exact (Option.filter_some ..).trans (if_pos takes)
    rw [linkBytes_taken profile reads, ← List.append_nil (0x7E :: checkedBytes _ _), takeBytes_valid idle short good]
    have after : (validFrame p r s).rx[p] = none := by
      rw [show (validFrame p r s).rx = s.rx from (validFrame_keeps p r s).same .rx (by decide)]
      exact idle
    rw [takeBytes_idle after]
    rfl
  · rfl

/-! ### Frames sent -/

/-- R176: the head of the transmit frame queue starts. -/
theorem startNext_queue {u : PortUnit} {rest : List Frame} (here : s.ports[p] = u) (idle : u.sending = none)
    (queue : u.queue = f :: rest) :
    startNext p s = s.setPorts (s.ports.set p { u with queue := rest, sending := some ⟨f, false⟩, lastSent := s.clock.now }) := by
  subst here
  have : ¬s.ports[p].sending.isSome := by rw [idle]; nofun
  rw [startNext, if_neg this]
  split
  · next e => cases e.symm.trans queue; rfl
  · next e => cases e.symm.trans queue

/-- R183: the head of the delivery queue starts on a CENTRE port that is UP. -/
theorem startNext_delivery {u : PortUnit} {rest : List Frame} (here : s.ports[p] = u) (idle : u.sending = none)
    (queue : u.queue = []) (profile : s.profile p = .centre) (up : u.link = .up) (delivery : s.centre.delivery = f :: rest) :
    startNext p s = (s.setPorts (s.ports.set p { u with sending := some ⟨f, true⟩, lastSent := s.clock.now })).setCentre
      { s.centre with delivery := rest } := by
  subst here
  have : ¬s.ports[p].sending.isSome := by rw [idle]; nofun
  rw [startNext, if_neg this]
  split
  · next e => cases e.symm.trans queue
  · rw [if_pos ⟨profile, up⟩]
    split
    · next e => cases e.symm.trans delivery; rfl
    · next e => cases e.symm.trans delivery

/-- No frame waits for the link. -/
theorem startNext_nothing {u : PortUnit} (here : s.ports[p] = u) (queue : u.queue = [])
    (nothing : s.profile p ≠ .centre ∨ u.link ≠ .up ∨ s.centre.delivery = []) : startNext p s = s := by
  subst here
  unfold startNext
  split
  · rfl
  · split
    · next e => cases e.symm.trans queue
    · split
      · next serving =>
        obtain ⟨profile, up⟩ := serving
        have empty : s.centre.delivery = [] := by
          rcases nothing with h | h | h
          · exact absurd profile h
          · exact absurd up h
          · exact h
        rw [empty]
      · rfl

/-- R176: a frame finishes sending and the next one may start. -/
theorem frameSent_eq {g : Frame} {delivery : Bool} (h : s.ports[p].sending = some ⟨g, delivery⟩) :
    frameSent p delivery s = startNext p (modPort p (fun u => { u with sending := none }) s) := by
  have this : sendingIs p delivery s = true := by
    rw [sendingIs, h]
    exact beq_self_eq_true delivery
  exact if_pos this

/-- The state in which port `p` is a unit that starts to send now. -/
def State.withStarted (s : State) (p : Port) (u : PortUnit) : State :=
  s.setPorts (s.ports.set p { u with lastSent := s.clock.now })

/-- R176: the queue's head starts when the frame before it has been sent. -/
theorem frameSent_queue {g : Frame} {delivery : Bool} {rest : List Frame} (h : s.ports[p].sending = some ⟨g, delivery⟩)
    (queue : s.ports[p].queue = f :: rest) : frameSent p delivery s =
    s.withStarted p { s.ports[p] with queue := rest, sending := some ⟨f, false⟩ } := by
  rw [frameSent_eq h, startNext_queue (s := modPort p _ s) (vector_get_set ..) rfl queue]
  unfold State.withStarted modPort State.setPorts
  rw [vector_set_set]

/-- R183: the delivery queue's head starts when the frame before it has been sent. -/
theorem frameSent_delivery {g : Frame} {delivery : Bool} {rest : List Frame} (h : s.ports[p].sending = some ⟨g, delivery⟩)
    (queue : s.ports[p].queue = []) (profile : s.profile p = .centre) (up : s.ports[p].link = .up)
    (waits : s.centre.delivery = f :: rest) : frameSent p delivery s =
    (s.withStarted p { s.ports[p] with sending := some ⟨f, true⟩ }).setCentre { s.centre with delivery := rest } := by
  rw [frameSent_eq h, startNext_delivery (s := modPort p _ s) (vector_get_set ..) rfl queue profile up waits]
  unfold State.withStarted modPort State.setPorts
  rw [vector_set_set]

/-- R176: the link falls quiet when no frame waits. -/
theorem frameSent_last {g : Frame} {delivery : Bool} (h : s.ports[p].sending = some ⟨g, delivery⟩)
    (queue : s.ports[p].queue = []) (nothing : s.profile p ≠ .centre ∨ s.ports[p].link ≠ .up ∨ s.centre.delivery = []) :
    frameSent p delivery s = s.setPorts (s.ports.set p { s.ports[p] with sending := none }) := by
  rw [frameSent_eq h]
  exact startNext_nothing (s := modPort p _ s) (vector_get_set ..) queue nothing

theorem deliverySent_eq (h : s.portOf .centre = some p) : deliverySent s = frameSent p true s := by
  rw [deliverySent, h]

/-- R177: ALIVE falls due on a port that is UP. -/
theorem aliveDue_eq (up : s.ports[p].link = .up) :
    aliveDue p s = sendFrame p ⟨2, []⟩ (reach (s.ports[p].lastSent + 200000000) s) := if_pos up

/-- Settles O50. -/
theorem framesAreTestedAndSentInOrder : Obligations.FramesAreTestedAndSentInOrder := by
  unfold Obligations.FramesAreTestedAndSentInOrder
  intro p s
  refine ⟨fun profile reads => ⟨fun f x => ?_, fun b => ?_, fun idle => ?_, fun x busy => ⟨?_, fun stopped more => takeBytes_behind busy⟩,
      fun idle stopped => ⟨takeBytes_idle idle, fun b more => takeBytes_ignored idle, fun f x more short => ⟨fun r valid => ?_, fun bad => ?_⟩,
        fun part h => takeBytes_part idle h⟩⟩,
    fun unused f x b => ⟨?_, ?_⟩, fun i f h short => ?_, fun x f rest sending queue => ?_, fun x sending queue nothing => ?_,
    fun x f rest sending queue profile up waits => ?_, fun centre x sending => ⟨fun f rest queue => ?_, fun f rest queue up waits => ?_,
      fun queue nothing => ?_⟩, fun up => ⟨fun idle => ?_, fun busy room => ?_, fun busy full => ?_⟩⟩
  · exact badFrame_exec.trans (congrArg Host.Outcome.next (linkBytes_taken profile reads))
  · exact congrArg Host.Outcome.next (linkBytes_taken profile reads)
  · refine congrArg Host.Outcome.next ?_
    rw [byteTimeout, idle]
  · refine congrArg Host.Outcome.next ?_
    rw [byteTimeout, busy]
    exact linkBytes_taken profile reads
  · obtain ⟨check, read, fits⟩ := valid
    exact takeBytes_valid idle short (goodFrame_some check read fits)
  · refine takeBytes_bad idle short (Option.eq_none_iff_forall_not_mem.mpr fun r h => ?_)
    exact bad r (goodFrame_eq_some h)
  · exact badFrame_exec.trans (congrArg Host.Outcome.next (linkBytes_none unused))
  · exact congrArg Host.Outcome.next (linkBytes_none unused)
  · exact (exec_frame h).trans (congrArg Host.Outcome.next (frameArrives_bytes short))
  · exact congrArg Host.Outcome.next (frameSent_queue sending queue)
  · refine congrArg Host.Outcome.next (frameSent_last sending queue nothing)
  · exact congrArg Host.Outcome.next (frameSent_delivery sending queue profile up waits)
  · exact congrArg Host.Outcome.next ((deliverySent_eq centre).trans (frameSent_queue sending queue))
  · exact congrArg Host.Outcome.next ((deliverySent_eq centre).trans
      (frameSent_delivery sending queue (portOf_profile centre) up waits))
  · exact congrArg Host.Outcome.next ((deliverySent_eq centre).trans (frameSent_last sending queue (.inr nothing.symm)))
  · exact congrArg Host.Outcome.next ((aliveDue_eq up).trans (sendFrame_starts idle))
  · exact congrArg Host.Outcome.next ((aliveDue_eq up).trans (sendFrame_waits busy room))
  · exact congrArg Host.Outcome.next ((aliveDue_eq up).trans (sendFrame_drops busy full))

end Sys2Proof.Machine
end

section
/-! PROOFS. What the units leave of the port units and the signs' geometry when they are told of a link (R176, R178). -/

namespace Sys2Proof.Machine

variable {s t u : State} {p q : Port} {k : Fin 16}

/-! ### A port unit whose service may send frames -/

/-- A port unit keeps its link and silence timer; it takes frames only while it is UP, behind those that wait. -/
structure UnitServed (x y : PortUnit) : Prop where
  link : y.link = x.link
  silence : y.silence = x.silence
  still : x.link ≠ .up → y = x
  sending : x.sending ≠ none → y.sending = x.sending
  queue : x.sending ≠ none → x.queue <+: y.queue

theorem UnitServed.refl (x : PortUnit) : UnitServed x x := ⟨rfl, rfl, fun _ => rfl, fun _ => rfl, fun _ => ⟨[], List.append_nil _⟩⟩

theorem UnitServed.trans {x y z : PortUnit} (h : UnitServed x y) (l : UnitServed y z) : UnitServed x z where
  link := l.link.trans h.link
  silence := l.silence.trans h.silence
  still := fun down => (l.still (by rw [h.link]; exact down)).trans (h.still down)
  sending := fun busy => (l.sending (by rw [h.sending busy]; exact busy)).trans (h.sending busy)
  queue := fun busy => (h.queue busy).trans (l.queue (by rw [h.sending busy]; exact busy))

/-- Every port unit at most takes frames of its service, every sign keeps its geometry, and the centre port's queues are as
they were. -/
structure Served (s t : State) : Prop where
  unit : ∀ q : Port, UnitServed s.ports[q] t.ports[q]
  geometry : ∀ q : Port, t.signs[q].geometry = s.signs[q].geometry
  drops : t.portCounts.deliveryDrops = s.portCounts.deliveryDrops
  centre : t.centre = s.centre
  straps : t.straps = s.straps

theorem Served.refl (s : State) : Served s s := ⟨fun _ => .refl _, fun _ => rfl, rfl, rfl, rfl⟩

theorem Served.trans (h : Served s t) (l : Served t u) : Served s u :=
  ⟨fun q => (h.unit q).trans (l.unit q), fun q => (l.geometry q).trans (h.geometry q), l.drops.trans h.drops,
    l.centre.trans h.centre, l.straps.trans h.straps⟩

theorem Served.ite {c : Prop} [Decidable c] (ht : Served s t) (hu : Served s u) : Served s (if c then t else u) := by
  split
  · exact ht
  · exact hu

theorem Served.of_keeps {ps : List Part} (h : SameBut ps s t)
    (apart : ∀ x ∈ [Part.ports, .signs, .portCounts, .centre, .straps], x ∉ ps) : Served s t := by
  have units : t.ports = s.ports := h.same .ports (apart _ (by decide))
  have same : t.signs = s.signs := h.same .signs (apart _ (by decide))
  have counts : t.portCounts = s.portCounts := h.same .portCounts (apart _ (by decide))
  exact ⟨fun q => by rw [units]; exact .refl _, fun q => by rw [same], by rw [counts], h.same .centre (apart _ (by decide)),
    h.same .straps (apart _ (by decide))⟩

theorem served_setCall {x} : Served s (s.setCall x) := .of_keeps State.setCall_keeps (by decide)

theorem served_setWeather {x} : Served s (s.setWeather x) := .of_keeps State.setWeather_keeps (by decide)

theorem modResponse_served {f : Response → Response} : Served s (modResponse k f s) :=
  .of_keeps (modResponse_keeps ..) (by decide)

theorem modPhone_served {f : Phone → Phone} : Served s (modPhone p f s) :=
  .of_keeps (modPhone_keeps ..) (by decide)

/-- One port unit changes as its service's frames change it. -/
theorem modPort_served {f : PortUnit → PortUnit} (h : UnitServed s.ports[p] (f s.ports[p])) : Served s (modPort p f s) where
  unit := fun q => by
    by_cases e : q = p
    · subst e
      rw [show (modPort q f s).ports[q] = f s.ports[q] from vector_get_set ..]
      exact h
    · rw [show (modPort p f s).ports[q] = s.ports[q] from vector_get_set_ne _ _ _ _ e]
      exact .refl _
  geometry := fun _ => rfl
  drops := rfl
  centre := rfl
  straps := rfl

theorem modSign_served {f : Sign → Sign} (h : (f s.signs[p]).geometry = s.signs[p].geometry) : Served s (modSign p f s) where
  unit := fun _ => .refl _
  geometry := fun q => by
    by_cases e : q = p
    · subst e
      exact (congrArg Sign.geometry (vector_get_set ..)).trans h
    · exact congrArg Sign.geometry (vector_get_set_ne _ _ _ _ e)
  drops := rfl
  centre := rfl
  straps := rfl

theorem forPorts_served {f : Port → State → State} (h : ∀ q t, Served t (f q t)) (s : State) : Served s (forPorts f s) :=
  (((h 0 s).trans (h 1 _)).trans (h 2 _)).trans (h 3 _)

theorem foldl_served {α : Type} {f : State → α → State} (h : ∀ t a, Served t (f t a)) (l : List α) (s : State) :
    Served s (l.foldl f s) := by
  induction l generalizing s with
  | nil => exact .refl s
  | cons a l ih => exact (h s a).trans (ih _)

/-! ### Frames -/

/-- R176: a frame sent on a port that is UP. -/
theorem sendFrame_served {f : Frame} (up : s.ports[p].link = .up) : Served s (sendFrame p f s) := by
  unfold sendFrame
  split
  · next idle =>
    have idle : s.ports[p].sending = none := Option.isNone_iff_eq_none.mp idle
    exact modPort_served ⟨rfl, rfl, fun h => absurd up h, fun busy => absurd idle busy, fun _ => ⟨[], List.append_nil _⟩⟩
  · split
    · exact modPort_served ⟨rfl, rfl, fun h => absurd up h, fun _ => rfl, fun _ => ⟨_, rfl⟩⟩
    · exact ⟨fun _ => .refl _, fun _ => rfl, rfl, rfl, rfl⟩

theorem sendService_served (p : Port) (f : Frame) (s : State) : Served s (sendService p f s) := by
  unfold sendService
  split
  · next up => exact sendFrame_served (of_decide_eq_true up)
  · exact .refl s

theorem startNext_served (busy : s.ports[p].sending ≠ none) : Served s (startNext p s) := by
  rw [startNext, if_pos (Option.isSome_iff_ne_none.mpr busy)]
  exact .refl s

/-! ### The display controller -/

theorem startTransfer_served (r : Result) (s : State) : Served s (startTransfer p r s) :=
  (modSign_served rfl).trans (sendService_served ..)

theorem receiveResult_served (r : Result) (s : State) : Served s (receiveResult p r s) :=
  (modSign_served (f := fun g => { g with awaiting := false }) rfl).trans
    (.ite (.refl _) (.ite (startTransfer_served ..) (modSign_served rfl)))

theorem completeCompose_served (c : Compose) (s : State) : Served s (completeCompose p c s) :=
  (modSign_served rfl).trans (receiveResult_served ..)

theorem startCompose_served (page : Fin 8) (s : State) : Served s (startCompose p page s) := by
  unfold startCompose
  split
  · exact modSign_served rfl
  · exact .ite (completeCompose_served ..) (modSign_served rfl)

theorem composeRequest_served (page : Fin 8) (s : State) : Served s (composeRequest p page s) :=
  .ite (.ite (modSign_served rfl) (.ite (startCompose_served ..) (.refl s))) (.refl s)

theorem requestTarget_served' (s : State) : Served s (requestTarget p s) :=
  .ite ((modSign_served rfl).trans (composeRequest_served ..)) (.refl s)

theorem setTarget_served (page : Fin 8) (s : State) : Served s (setTarget p page s) := .ite (.refl s) (modSign_served rfl)

theorem trySelected_served (s : State) : Served s (trySelected p s) :=
  (setTarget_served ..).trans (requestTarget_served' _)

theorem changeClaims_served {f : Sign → Sign} (h : ∀ g, (f g).geometry = g.geometry) (s : State) :
    Served s (changeClaims p f s) :=
  .ite (modSign_served (h _)) ((modSign_served (h _)).trans (trySelected_served _))

theorem placeClaims_served (s : State) : Served s (placeClaims k s) := by
  refine forPorts_served (fun q t => ?_) s
  split
  · exact changeClaims_served (f := withClaim _ _ _) (fun _ => rfl) t
  · exact .refl t

theorem removeClaims_served (s : State) : Served s (removeClaims k s) := by
  refine forPorts_served (fun q t => ?_) s
  exact changeClaims_served (f := withoutClaim _) (fun _ => rfl) t

/-! ### The response table -/

theorem levelStep_served (v : Bool) (s : State) : Served s (levelStep k v s) := by
  unfold levelStep
  split
  · exact modResponse_served.trans (placeClaims_served _)
  · exact modResponse_served
  · exact .ite (modResponse_served.trans (removeClaims_served _)) modResponse_served
  · exact .refl s

theorem latchStep_served (v : Bool) (s : State) : Served s (latchStep k v s) :=
  .ite (modResponse_served.trans (placeClaims_served _)) (.refl s)

theorem respondEntry_served (s : State) (k : Fin 16) : Served s (respondEntry s k) :=
  .ite (.refl s) (.ite (.ite (modResponse_served.trans (latchStep_served ..)) (modResponse_served.trans (levelStep_served ..)))
    modResponse_served)

theorem respond_served (s : State) : Served s (respond s) := foldl_served respondEntry_served _ s

/-! ### The call unit -/

theorem setCircuit_served (c : Fin 16) (e : Circuit) (s : State) : Served s (setCircuit c e s) :=
  served_setCall.trans (respond_served _)

theorem offer_served {kind dest : Byte} {bytes : List Byte} {accepted : Bool} (h : offer kind dest bytes s = (t, accepted)) :
    Served s t :=
  .of_keeps (.of_pair h (offer_keeps ..)) (by decide)

theorem offerCounted_served (kind dest : Byte) (bytes : List Byte) (s : State) : Served s (offerCounted kind dest bytes s) :=
  .of_keeps (offerCounted_keeps ..) (by decide)

theorem sendClaim_served (r : Request) (centre : Nat) (c : Fin 16) (preempt : Bool) (s : State) :
    Served s (sendClaim r centre c preempt s).1 := by
  unfold sendClaim
  dsimp only
  split
  · next e => exact served_setCall.trans (offer_served e)
  · next e =>
    dsimp only
    refine Served.trans ?_ (setCircuit_served ..)
    exact (served_setCall.trans (offer_served e)).trans (modPhone_served.trans served_setCall)

theorem claimTests_served (n : Nat) (s : State) : Served s (claimTests n s) := by
  induction n generalizing s with
  | zero => exact .refl s
  | succ n ih =>
    unfold claimTests
    split
    · exact .refl s
    · split
      · exact .refl s
      · next r centre _ _ c preempt _ => 
        have sent := sendClaim_served r centre c preempt s
        split
        · next e => rw [e] at sent; exact sent
        · next e => rw [e] at sent; exact sent.trans (modPhone_served.trans (ih _))

theorem sendRelease_served (c : Fin 16) (p : Port) (s : State) : Served s (sendRelease c p s) :=
  (offerCounted_served ..).trans (setCircuit_served ..)

theorem leaveRequest_served (s : State) : Served s (leaveRequest p s) := served_setCall

theorem hangUpAttempt_served (s : State) : Served s (hangUpAttempt p s) := by
  unfold hangUpAttempt
  split
  · exact .refl s
  · next a _ => 
    refine .ite ?_ (.refl s)
    have withdrawn : Served s (withdrawClaim a s).1 := .of_keeps (withdrawClaim_keeps ..) (by decide)
    split
    · next e => rw [e] at withdrawn; exact withdrawn.trans (served_setCall.trans (setCircuit_served ..))
    · next e => rw [e] at withdrawn; exact withdrawn.trans served_setCall

theorem releaseHeld_served (s : State) : Served s (releaseHeld p s) := by
  unfold releaseHeld
  split
  · exact sendRelease_served ..
  · exact .refl s

theorem endCall_served (s : State) : Served s (endCall p s) := by
  unfold endCall
  refine .trans ?_ (modPhone_served.trans (claimTests_served ..))
  split
  · exact .refl s
  · exact leaveRequest_served s
  · exact leaveRequest_served s
  · exact (leaveRequest_served s).trans (hangUpAttempt_served _)
  · exact releaseHeld_served s
  · exact releaseHeld_served s

theorem settle_served (s : State) : Served s (settle s) :=
  forPorts_served (fun _ t => .ite (modPhone_served.trans (sendService_served ..)) (.refl t)) s

/-! ### The weather unit -/

theorem sendAlarm_served (s : State) : Served s (sendAlarm s) := (offerCounted_served ..).trans served_setWeather

theorem tellLevels_served (w : Weather) (s : State) : Served s (tellLevels w s) :=
  .ite (.ite ((respond_served s).trans (sendAlarm_served _)) (respond_served s)) (.refl s)

theorem evaluateBrightness_served (a : Int) (s : State) : Served s (evaluateBrightness a s) := by
  have dimmed : Served s (s.setBrightness (brightnessStep s.brightness a)) :=
    .of_keeps State.setBrightness_keeps (by decide)
  exact .ite (.refl s) (.ite (dimmed.trans (forPorts_served (fun _ t => .ite (sendService_served ..) (.refl t)) _)) dimmed)

theorem suspended_served (s : State) : Served s (evaluate none s) :=
  .ite (served_setWeather.trans ((tellLevels_served ..).trans (.ite (.refl _) (evaluateBrightness_served ..)))) (.refl s)

/-! ### What the services do when they are told of their link (R178) -/

theorem tellLeft_served (s : State) : Served s (tellLeft p s) := by
  unfold tellLeft
  split
  · exact .refl s
  · exact .ite ((endCall_served s).trans (settle_served _)) (.refl s)
  · exact (modSign_served rfl).trans (modSign_served rfl)
  · unfold weatherLinkLeft
    split
    · exact served_setWeather.trans (suspended_served _)
    · exact .refl s
  · exact .refl s
  · exact .refl s

theorem signLinkUp_served (s : State) : Served s (signLinkUp p s) :=
  .ite (.refl s) ((sendService_served ..).trans (.ite (sendService_served ..) (requestTarget_served' _)))

theorem sendDelivered_served (s : State) : Served s (sendDelivered s) := by
  unfold sendDelivered
  split
  · unfold toGantry
    split
    · exact sendService_served ..
    · exact .refl s
  · exact .refl s

theorem tellUp_served (busy : s.ports[p].sending ≠ none) : Served s (tellUp p s) := by
  unfold tellUp
  split
  · exact .refl s
  · exact modPhone_served.trans (sendService_served ..)
  · exact signLinkUp_served s
  · exact .refl s
  · exact sendDelivered_served s
  · have sent := sendService_served p (if s.centre.paused then pauseFrame else goFrame) s
    exact sent.trans (startNext_served (by rw [(sent.unit p).sending busy]; exact busy))

end Sys2Proof.Machine
end

section
/-! PROOFS. Link supervision (R122, R177, R178: O49). -/

namespace Sys2Proof.Machine

variable {s t u : State} {p q : Port} {link : Link} {size : Option (Byte × Byte)} {kind w h : Byte} {x : PortUnit} {f : Frame}
  {d : Time}

/-! ### A link changes its state -/

/-- Port `p` has this unit now, and the services of the others have at most sent frames. -/
structure Moved (p : Port) (x : PortUnit) (s t : State) : Prop where
  own : t.ports[p] = x
  others : ∀ q : Port, q ≠ p → UnitServed s.ports[q] t.ports[q]

theorem moved_modPort {f : PortUnit → PortUnit} (s : State) : Moved p (f s.ports[p]) s (modPort p f s) where
  own := vector_get_set ..
  others := fun q e => by
    rw [show (modPort p f s).ports[q] = s.ports[q] from vector_get_set_ne _ _ _ _ e]
    exact .refl _

theorem Moved.modPort {f : PortUnit → PortUnit} (h : Moved p x s t) : Moved p (f x) s (modPort p f t) where
  own := (vector_get_set ..).trans (congrArg f h.own)
  others := fun q e => by
    rw [show (Machine.modPort p f t).ports[q] = t.ports[q] from vector_get_set_ne _ _ _ _ e]
    exact h.others q e

theorem Moved.served (h : Moved p x s t) (l : Served t u) : Moved p u.ports[p] s u :=
  ⟨rfl, fun q e => (h.others q e).trans (l.unit q)⟩

theorem Moved.still (h : Moved p x s t) (still : x.link ≠ .up) (l : Served t u) : Moved p x s u :=
  ⟨((l.unit p).still (by rw [h.own]; exact still)).trans h.own, fun q e => (h.others q e).trans (l.unit q)⟩

theorem Moved.of_keeps {ps : List Part} (h : Moved p x s t) (same : SameBut ps t u) (ports : Part.ports ∉ ps) : Moved p x s u := by
  have e : u.ports = t.ports := same.same .ports ports
  exact ⟨by rw [e]; exact h.own, fun q hq => by rw [e]; exact h.others q hq⟩

/-- The port unit after its link has entered a state. -/
def PortUnit.left (u : PortUnit) (link : Link) : PortUnit :=
  { u with link := link, queue := if u.link = .up then [] else u.queue }

/-- R176, R178: a link that enters a state other than UP. -/
theorem leaveTo_moved (h : link ≠ .up) (s : State) : Moved p (s.ports[p].left link) s (leaveTo p link s) := by
  unfold leaveTo PortUnit.left
  split
  · next up =>
    refine Moved.still (x := { s.ports[p] with link := link, queue := [] }) ?_ h (tellLeft_served _)
    exact moved_modPort (f := fun u => { u with link := link, queue := [] }) s
  · exact moved_modPort (f := fun u => { u with link := link }) s

theorem leaveTo_geometry (s : State) : (leaveTo p link s).signs[q].geometry = s.signs[q].geometry := by
  unfold leaveTo
  split
  · exact (tellLeft_served _).geometry q
  · rfl

/-! ### A frame of the port unit itself -/

/-- A port unit to which frame `f` has been offered. -/
structure Offered (f : Frame) (x y : PortUnit) : Prop where
  rest : y = { x with queue := y.queue, sending := y.sending, lastSent := y.lastSent }
  starts : x.sending = none → y.sending = some ⟨f, false⟩ ∧ y.queue = x.queue
  stays : x.sending ≠ none → y.sending = x.sending
  joins : x.sending ≠ none → x.queue.length < 128 → y.queue = x.queue ++ [f]

theorem Offered.link_eq {y : PortUnit} (h : Offered f x y) : y.link = x.link := by rw [h.rest]

theorem Offered.silence_eq {y : PortUnit} (h : Offered f x y) : y.silence = x.silence := by rw [h.rest]

theorem Offered.busy {y : PortUnit} (h : Offered f x y) : y.sending ≠ none := by
  by_cases idle : x.sending = none
  · rw [(h.starts idle).1]
    nofun
  · rw [h.stays idle]
    exact idle

/-- R176: a frame offered to the port's link. -/
theorem sendFrame_moved (h : Moved p x s t) (f : Frame) : ∃ y, Moved p y s (sendFrame p f t) ∧ Offered f x y := by
  obtain rfl := h.own
  by_cases idle : t.ports[p].sending = none
  · rw [sendFrame_starts idle]
    exact ⟨_, h.modPort (f := fun u => { u with sending := some ⟨f, false⟩, lastSent := t.now }),
      rfl, fun _ => ⟨rfl, rfl⟩, fun busy => absurd idle busy, fun busy => absurd idle busy⟩
  · by_cases room : t.ports[p].queue.length < 128
    · rw [sendFrame_waits idle room]
      exact ⟨_, h.modPort (f := fun u => { u with queue := u.queue ++ [f] }),
        rfl, fun e => absurd e idle, fun _ => rfl, fun _ _ => rfl⟩
    · rw [sendFrame_drops idle (Nat.le_of_not_lt room)]
      exact ⟨_, h.of_keeps State.setPortCounts_keeps (by decide), rfl, fun e => absurd e idle, fun _ => rfl,
        fun _ short => absurd short room⟩

/-! ### IDENT (R177, R122) -/

/-- The node's IDENT at port `p`. -/
def ownIdent (s : State) (p : Port) : Frame := ⟨1, [s.straps.number.setWidth 8, natByte p.val, profileByte (s.profile p)]⟩

theorem sendIdent_eq {ps : List Part} (same : SameBut ps s t) (straps : Part.straps ∉ ps) :
    sendIdent p t = sendFrame p (ownIdent s p) t := by
  have e : t.straps = s.straps := same.same .straps straps
  rw [sendIdent, State.profile, e]
  rfl

/-- The port unit that an IDENT leaves in a state, with its silence timer restarted. -/
def PortUnit.identified (u : PortUnit) (link : Link) (now : Time) : PortUnit :=
  { u with link := link, silence := some (now + 1000000000), queue := if u.link = .up then [] else u.queue }

/-- R177: an IDENT of the wrong kind. -/
theorem identWrong_moved (s : State) : ∃ y, Moved p y s (identWrong p s) ∧
    Offered (ownIdent s p) (s.ports[p].identified .mismatch s.clock.now) y := by
  have left := leaveTo_moved (p := p) (link := .mismatch) (by decide) s
  have now : (leaveTo p .mismatch s).clock = s.clock := (leaveTo_keeps p .mismatch s).same .clock (by decide)
  have moved : Moved p (s.ports[p].identified .mismatch s.clock.now) s (restartSilence p (leaveTo p .mismatch s)) := by
    have := left.modPort (f := fun u => { u with silence := some ((leaveTo p .mismatch s).clock.now + 1000000000) })
    rw [now] at this
    rw [restartSilence, State.now, now]
    exact this
  rw [identWrong, sendIdent_eq ((restartSilence_keeps ..).step (by decide) (leaveTo_keeps p .mismatch s)) (by decide)]
  exact sendFrame_moved moved _

/-- The port with its link brought UP, before its IDENT is sent. -/
def broughtUpAfresh (p : Port) (size : Option (Byte × Byte)) (s : State) : State :=
  setGeometry p size (restartSilence p (modPort p (fun u => { u with link := .up }) (leaveTo p .down s)))

theorem identRight_eq : identRight p size s = tellUp p (sendIdent p (broughtUpAfresh p size s)) := rfl

theorem broughtUpAfresh_keeps (s : State) : SameBut [.tx, .ring, .call, .signs, .brightness, .responses, .weather, .ports, .portCounts] s
    (broughtUpAfresh p size s) :=
  (setGeometry_keeps ..).step (by decide) ((restartSilence_keeps ..).step (by decide)
    ((modPort_keeps ..).step (by decide) (leaveTo_keeps p .down s)))

theorem broughtUpAfresh_moved (s : State) :
    Moved p (s.ports[p].identified .up s.clock.now) s (broughtUpAfresh p size s) := by
  have left := leaveTo_moved (p := p) (link := .down) (by decide) s
  have now : (leaveTo p .down s).clock = s.clock := (leaveTo_keeps p .down s).same .clock (by decide)
  refine Moved.of_keeps ?_ (setGeometry_keeps ..) (by decide)
  have := (left.modPort (f := fun u => { u with link := .up })).modPort (f := fun u => { u with silence := some (s.clock.now + 1000000000) })
  rw [restartSilence, show (modPort p (fun u => { u with link := .up }) (leaveTo p .down s)).now = s.clock.now from congrArg Clock.now now]
  exact this

/-- R177, R178: an IDENT of the right kind. -/
theorem identRight_moved (s : State) : ∃ y, Moved p (identRight p size s).ports[p] s (identRight p size s) ∧
    Offered (ownIdent s p) (s.ports[p].identified .up s.clock.now) y ∧ UnitServed y (identRight p size s).ports[p] := by
  obtain ⟨y, moved, offered⟩ := sendFrame_moved (broughtUpAfresh_moved (p := p) (size := size) s) (ownIdent s p)
  rw [identRight_eq, sendIdent_eq (broughtUpAfresh_keeps s) (by decide)]
  have served := tellUp_served (s := sendFrame p (ownIdent s p) (broughtUpAfresh p size s)) (by rw [moved.own]; exact offered.busy)
  refine ⟨y, moved.served served, offered, ?_⟩
  have := served.unit p
  rw [moved.own] at this
  exact this

/-- R122: the geometry that an IDENT gives to a sign. -/
theorem identRight_geometry (sign : s.profile p = .sign) :
    (identRight p size s).signs[p].geometry = size.map (fun x => (x.1.toNat, x.2.toNat)) := by
  obtain ⟨y, moved, offered⟩ := sendFrame_moved (broughtUpAfresh_moved (p := p) (size := size) s) (ownIdent s p)
  rw [identRight_eq, sendIdent_eq (broughtUpAfresh_keeps s) (by decide),
    (tellUp_served (s := sendFrame p (ownIdent s p) (broughtUpAfresh p size s)) (by rw [moved.own]; exact offered.busy)).geometry p,
    show (sendFrame p (ownIdent s p) (broughtUpAfresh p size s)).signs = (broughtUpAfresh p size s).signs from
      (sendFrame_keeps ..).same .signs (by decide)]
  unfold broughtUpAfresh setGeometry
  rw [if_pos ?sign]
  · exact congrArg Sign.geometry (vector_get_set ..)
  case sign =>
    have same : SameBut _ s (restartSilence p (modPort p (fun u => { u with link := .up }) (leaveTo p .down s))) :=
      (restartSilence_keeps ..).step (by decide) ((modPort_keeps ..).step (by decide) (leaveTo_keeps p .down s))
    rw [State.profile, show _ = s.straps from same.same .straps (by decide)]
    exact sign

theorem identWrong_geometry (s : State) (q : Port) : (identWrong p s).signs[q].geometry = s.signs[q].geometry := by
  rw [identWrong, sendIdent, show (sendFrame p _ (restartSilence p (leaveTo p .mismatch s))).signs =
    (leaveTo p .mismatch s).signs from (sendFrame_keeps ..).same .signs (by decide)]
  exact leaveTo_geometry s

/-- R177: an IDENT of the right kind, with a sign's width and height within their ranges. -/
theorem rightKind_iff {k : Profile} : rightKind k kind (if kind = profileByte .sign then some (w, h) else none) = true ↔
    kind = profileByte k ∧ (k = .sign → 8 ≤ w.toNat ∧ w.toNat ≤ 192 ∧ 8 ≤ h.toNat ∧ h.toNat ≤ 64) := by
  unfold rightKind
  rw [Bool.and_eq_true, decide_eq_true_eq]
  refine and_congr_right fun kind => ?_
  by_cases sign : k = .sign
  · subst sign
    rw [if_pos kind]
    simp [goodGeometry]
  · simp [sign]

/-- R177: the links and silence timers of the other ports. -/
theorem Moved.others_kept (h : Moved p x s t) (q : Port) (other : q ≠ p) :
    t.ports[q].link = s.ports[q].link ∧ t.ports[q].silence = s.ports[q].silence :=
  ⟨(h.others q other).link, (h.others q other).silence⟩

/-! ### Other frames and silence (R177) -/

theorem alive_exec (profile : s.profile p ≠ .none) (reads : s.ports[p].link ≠ .pass) (idle : s.rx[p] = none) :
    exec (.alive p) s = .next (frameIn p .alive s) := by
  rw [exec_frame (i := .alive p) rfl, frameArrives_whole profile reads idle rfl rfl]
  rfl

/-- R177: ALIVE restarts the silence timer outside DOWN. -/
theorem frameIn_alive (on : s.ports[p].link = .up ∨ s.ports[p].link = .mismatch) : frameIn p .alive s = restartSilence p s := by
  unfold frameIn
  rcases on with e | e
  · rw [e]
    rfl
  · rw [e]

/-- R175: a port treated as NONE takes no frame. -/
theorem frameArrives_none {f : RxFrame} (unused : s.profile p = .none) : frameArrives p f s = s := by
  have deaf : readsWhole p f s = false := by simp [readsWhole, unused]
  rw [frameArrives, deaf]
  exact linkBytes_none unused

theorem silence_exec (timer : s.ports[p].silence = some d) :
    exec (.portSilenceTimerExpires p) s = .next (portDown p (atMoment d s)) := by
  refine congrArg Host.Outcome.next ?_
  rw [portSilenceExpired, timer]
  rfl

/-- R177: the link of a port that was in MISMATCH falls silent. -/
theorem portDown_quiet (off : s.ports[p].link ≠ .up) :
    portDown p s = s.setPorts (s.ports.set p { s.ports[p] with link := .down, silence := none }) := by
  have own : (modPort p (fun u => { u with silence := none }) s).ports[p] = { s.ports[p] with silence := none } := vector_get_set ..
  rw [portDown, leaveTo, own, if_neg off, modPort, own]
  unfold modPort State.setPorts
  rw [vector_set_set]

theorem portDown_moved (up : s.ports[p].link = .up) :
    Moved p { s.ports[p] with link := .down, silence := none, queue := [] } s (portDown p s) := by
  have quiet := moved_modPort (p := p) (f := fun u => { u with silence := none }) s
  have left := leaveTo_moved (p := p) (link := .down) (by decide) (modPort p (fun u => { u with silence := none }) s)
  refine ⟨left.own.trans ?_, fun q e => (quiet.others q e).trans (left.others q e)⟩
  rw [quiet.own, PortUnit.left, if_pos up]

/-- R177: what a port unit sends and keeps when it answers an IDENT. -/
theorem Offered.answers {f : Frame} {u y z : PortUnit} {now : Time} (h : Offered f (u.identified link now) y) (l : UnitServed y z) :
    (u.sending = none → z.sending = some ⟨f, false⟩) ∧
    (u.sending ≠ none → u.link = .up → z.queue.head? = some f) ∧
    (u.sending ≠ none → u.link ≠ .up → u.queue.length < 128 → (u.queue ++ [f]) <+: z.queue) := by
  have goesOn := l.queue h.busy
  refine ⟨fun idle => (l.sending h.busy).trans (h.starts idle).1, fun busy up => ?_, fun busy off room => ?_⟩
  · have queue : (u.identified link now).queue = [] := if_pos up
    have joined := h.joins busy (by rw [queue]; decide)
    rw [joined, queue] at goesOn
    obtain ⟨more, e⟩ := goesOn
    rw [← e]
    rfl
  · have queue : (u.identified link now).queue = u.queue := if_neg off
    have joined := h.joins busy (by rw [queue]; exact room)
    rw [joined, queue] at goesOn
    exact goesOn

/-- Settles O49. -/
theorem linkSupervisionFollowsTheTableOfR177 : Obligations.LinkSupervisionFollowsTheTableOfR177 := by
  unfold Obligations.LinkSupervisionFollowsTheTableOfR177
  intro p kind w h s
  refine ⟨fun unused => ⟨?_, ?_⟩, fun profile idle => ⟨fun reads => ?_, fun down => ?_, fun on => ?_, fun d off timer => ?_,
    fun d up timer => ?_⟩⟩
  · exact (exec_frame rfl).trans (congrArg Host.Outcome.next (frameArrives_none unused))
  · exact (exec_frame rfl).trans (congrArg Host.Outcome.next (frameArrives_none unused))
  · refine ⟨_, ident_exec profile reads idle, ?_⟩
    by_cases right : kind = profileByte (s.profile p) ∧
        (s.profile p = .sign → 8 ≤ w.toNat ∧ w.toNat ≤ 192 ∧ 8 ≤ h.toNat ∧ h.toNat ≤ 64)
    · rw [identIn, if_pos (rightKind_iff.mpr right)]
      obtain ⟨y, moved, offered, served⟩ := identRight_moved (p := p)
        (size := if kind = profileByte .sign then some (w, h) else none) s
      have kept := identRight_keeps p (if kind = profileByte .sign then some (w, h) else none) s
      refine ⟨kept.same .straps (by decide), kept.same .station (by decide), kept.same .plates (by decide),
        kept.same .lines (by decide), kept.same .clock (by decide), moved.others_kept,
        served.silence.trans offered.silence_eq, fun _ => ⟨served.link.trans offered.link_eq, fun sign => ?_⟩,
        fun wrong => absurd right wrong, offered.answers served⟩
      rw [identRight_geometry sign, if_pos (by rw [← sign]; exact right.1)]
      rfl
    · have wrong := right
      rw [identIn, if_neg (wrong ∘ rightKind_iff.mp)]
      obtain ⟨y, moved, offered⟩ := identWrong_moved (p := p) s
      have kept := identWrong_keeps p s
      have own := moved.own
      refine ⟨kept.same .straps (by decide), kept.same .station (by decide), kept.same .plates (by decide),
        kept.same .lines (by decide), kept.same .clock (by decide), moved.others_kept,
        by rw [own]; exact offered.silence_eq, fun right => absurd right wrong,
        fun _ => ⟨by rw [own]; exact offered.link_eq, identWrong_geometry s⟩, ?_⟩
      rw [own]
      exact offered.answers (.refl y)
  · refine (alive_exec profile (by rw [down]; nofun) idle).trans (congrArg Host.Outcome.next ?_)
    rw [frameIn, down]
  · refine (alive_exec profile (by rcases on with e | e <;> rw [e] <;> nofun) idle).trans 
      (congrArg Host.Outcome.next (frameIn_alive on))
  · refine (silence_exec timer).trans (congrArg Host.Outcome.next ?_)
    exact portDown_quiet (s := atMoment d s) (by rw [show (atMoment d s).ports = s.ports from rfl, off]; nofun)
  · refine ⟨_, silence_exec timer, ?_⟩
    have kept := portDown_keeps p (atMoment d s)
    have moved := portDown_moved (s := atMoment d s) (p := p) up
    exact ⟨kept.same .clock (by decide), moved.others_kept, moved.own, kept.same .station (by decide),
      kept.same .plates (by decide), kept.same .toll (by decide), kept.same .centre (by decide)⟩

end Sys2Proof.Machine
end

section
/-! PROOFS. Pass mode: how it opens and ends, and the bytes it carries (R179 to R181: O51, O52). -/

namespace Sys2Proof.Machine

variable {s t : State} {p q : Port} {u x y : PortUnit} {c : Nat} {d : Time} {idle : Byte} {bytes : List Byte}

/-! ### The gather buffer (R180) -/

/-- The state with the gather buffer of port `p` emptied. -/
def State.emptied (s : State) (p : Port) : State := modPort p (fun u => { u with gather := [], gatherTimer := none }) s

/-- R180: the bytes gathered go out as a PASS cell. -/
theorem sendGather_sent (active : s.phase = .active) (some : s.ports[p].opening = some c) (bytes : s.ports[p].gather ≠ []) :
    sendGather p s = offerCounted kPass (natByte c) (passBytes p s.ports[p].gather) (s.emptied p) := by
  unfold sendGather
  split
  · next e =>
    cases e.symm.trans some
    exact if_pos ⟨active, bytes⟩
  · next e => cases e.symm.trans some

/-- R43, R181: nothing goes out. -/
theorem sendGather_unsent (h : s.phase ≠ .active ∨ s.ports[p].gather = [] ∨ s.ports[p].opening = none) :
    sendGather p s = s.emptied p := by
  unfold sendGather
  split
  · next e =>
    refine if_neg fun x => ?_
    rcases h with h | h | h
    · exact h x.1
    · exact x.2 h
    · cases e.symm.trans h
  · rfl

/-- The gather buffer is empty afterwards, whatever became of its bytes. -/
theorem sendGather_ports (s : State) : (sendGather p s).ports = (s.emptied p).ports := by
  unfold sendGather
  split
  · split
    · exact (offerCounted_keeps ..).same .ports (by decide)
    · rfl
  · rfl

/-- R7: the PASS cell joins the B insert queue. -/
theorem sendGather_room (active : s.phase = .active) (toward : s.ports[p].opening = some c) (bytes : s.ports[p].gather ≠ [])
    (room : (s.insertQueue .b).length < 32) : sendGather p s =
    (s.emptied p).setTx (s.withBulk [originate 15 (natByte c) (passBytes p s.ports[p].gather) s]) := by
  rw [sendGather_sent active toward bytes, offerBulk_room (s := s.emptied p) rfl room]
  rfl

/-- R7: a full B insert queue refuses the PASS cell. -/
theorem sendGather_full (active : s.phase = .active) (toward : s.ports[p].opening = some c) (bytes : s.ports[p].gather ≠ [])
    (full : 32 ≤ (s.insertQueue .b).length) : sendGather p s =
    (s.emptied p).setRing { s.ring with insertDrops := bump s.ring.insertDrops } := by
  rw [sendGather_sent active toward bytes, offerBulk_full (s := s.emptied p) rfl full]
  rfl

/-! ### The end of pass mode (R181) -/

/-- The port unit as the end of pass mode leaves it, before its IDENT is offered. -/
def PortUnit.passEnded (u : PortUnit) : PortUnit :=
  { u with gather := [], gatherTimer := none, link := .down, silence := none, idleTimer := none, opening := none }

/-- The transmitters after the last PASS cell. -/
structure LastCell (p : Port) (s t : State) : Prop where
  sent : ∀ c, s.phase = .active → s.ports[p].gather ≠ [] → s.ports[p].opening = some c → (s.insertQueue .b).length < 32 →
    (t.tx.get (insertLine s.fold)).insert.b = s.insertQueue .b ++
      [originate 15 (natByte c) (passBytes p s.ports[p].gather) s]
  unsent : s.phase ≠ .active ∨ s.ports[p].gather = [] ∨ s.ports[p].opening = none → t.tx = s.tx

/-- R181: pass mode ends: the gathered bytes go out, the link is DOWN, the IDENT is sent. -/
theorem endPass_ended (s : State) : Offered (ownIdent s p) s.ports[p].passEnded (endPass p s).ports[p] ∧ LastCell p s (endPass p s) := by
  have gathered : Moved p { s.ports[p] with gather := [], gatherTimer := none } s (sendGather p s) := by
    obtain ⟨own, others⟩ := moved_modPort (p := p) (f := fun u => { u with gather := [], gatherTimer := none }) s
    have same := sendGather_ports (p := p) s
    exact ⟨by rw [same]; exact own, fun q e => by rw [same]; exact others q e⟩
  have ended := gathered.modPort (f := fun u => { u with link := .down, silence := none, idleTimer := none, opening := none })
  obtain ⟨y, sent, offered⟩ := sendFrame_moved ended (ownIdent s p)
  rw [endPass, sendIdent_eq ((modPort_keeps ..).step (by decide) (sendGather_keeps p s)) (by decide)]
  refine ⟨by rw [sent.own]; exact offered, ?_⟩
  have tx : (sendFrame p (ownIdent s p) (modPort p (fun u => { u with link := .down, silence := none, idleTimer := none, opening := none })
      (sendGather p s))).tx = (sendGather p s).tx := (sendFrame_keeps ..).same .tx (by decide)
  refine ⟨fun c active bytes toward room => ?_, fun none => ?_⟩
  · rw [tx, sendGather_room active toward bytes room]
    exact withBulk_get ..
  · rw [tx, sendGather_unsent none]
    rfl

/-- What the end of pass mode leaves of a port. -/
theorem endPass_port (s : State) : (endPass p s).ports[p].link = .down ∧ (endPass p s).ports[p].silence = none ∧
    (endPass p s).ports[p].opening = none ∧ (endPass p s).ports[p].gather = [] ∧ (endPass p s).ports[p].gatherTimer = none ∧
    (endPass p s).ports[p].idleTimer = none ∧
    (s.ports[p].sending = none →
      (endPass p s).ports[p].sending = some ⟨ownIdent s p, false⟩ ∧ (endPass p s).ports[p].queue = s.ports[p].queue) ∧
    (s.ports[p].sending ≠ none → s.ports[p].queue.length < 128 →
      (endPass p s).ports[p].queue = s.ports[p].queue ++ [ownIdent s p]) := by
  have h := (endPass_ended (p := p) s).1
  have rest := h.rest
  refine ⟨?_, ?_, ?_, ?_, ?_, ?_, h.starts, h.joins⟩ <;> rw [rest] <;> rfl

theorem endPass_lineLoss (s : State) : (endPass p s).ports[p].lineLoss = s.ports[p].lineLoss := by
  rw [(endPass_ended (p := p) s).1.rest]
  rfl

/-! ### The timers of pass mode (R180, R181) -/

theorem idleExpired_pass (pass : s.ports[p].link = .pass) (timer : s.ports[p].idleTimer = some d) :
    idleExpired p s = endPass p (atMoment d s) := by
  unfold idleExpired
  rw [timer]
  exact if_pos pass

theorem lineLossExpired_eq (timer : s.ports[p].lineLoss = some d) : lineLossExpired p s =
    if s.ports[p].link = .pass then endPass p (modPort p (fun u => { u with lineLoss := none }) (atMoment d s))
    else modPort p (fun u => { u with lineLoss := none }) (atMoment d s) := by
  unfold lineLossExpired
  rw [timer]
  rfl

/-- R181: the line signal of a port in use. -/
theorem lineSignal_eq (known : s.profile p ≠ .none) (present : Bool) : lineSignal p present s =
    modPort p (fun u => { u with lineLoss := if present then none
      else match u.lineLoss with
        | some d => some d
        | none => some (s.now + Config.lineLossTime) }) s := if_neg known

/-! ### Pass mode opens (R179) -/

/-- The idle timer of a code 0 to 3. -/
theorem idleTime_code (h : idle.toNat ≤ 3) (now : Time) : (idleTime (idle.setWidth 2)).map (now + ·) =
    if idle = 3 then none else some (now + (if idle = 0 then 2000000000 else if idle = 1 then 8000000000 else 32000000000)) := by
  have cases : idle = 0 ∨ idle = 1 ∨ idle = 2 ∨ idle = 3 := by
    have : idle.toNat = 0 ∨ idle.toNat = 1 ∨ idle.toNat = 2 ∨ idle.toNat = 3 := by omega
    rcases this with e | e | e | e
    · exact .inl (BitVec.eq_of_toNat_eq e)
    · exact .inr (.inl (BitVec.eq_of_toNat_eq e))
    · exact .inr (.inr (.inl (BitVec.eq_of_toNat_eq e)))
    · exact .inr (.inr (.inr (BitVec.eq_of_toNat_eq e)))
  rcases cases with rfl | rfl | rfl | rfl <;> rfl

/-- The port unit in a pass mode that has just opened. -/
def PortUnit.opened (u : PortUnit) (c : Nat) (idle : Byte) (now : Time) : PortUnit :=
  { u with
    link := .pass, silence := none, queue := [], gather := [], gatherTimer := none, opening := some c,
    idleCode := idle.setWidth 2,
    idleTimer := if idle = 3 then none
      else some (now + (if idle = 0 then 2000000000 else if idle = 1 then 8000000000 else 32000000000)) }

theorem openPass_moved (h : idle.toNat ≤ 3) (s : State) :
    Moved p (s.ports[p].opened c idle s.clock.now) s (openPass p c (idle.setWidth 2) s) := by
  have left := (leaveTo_moved (p := p) (link := .pass) (by decide) s).of_keeps (u := setRx p none (leaveTo p .pass s))
    State.setRx_keeps (by decide)
  have opened := left.modPort (f := fun u => { u with
    silence := none, queue := [], gather := [], gatherTimer := none, opening := some c, idleCode := idle.setWidth 2 })
  have timed := opened.modPort (f := fun u => { u with idleTimer := (idleTime u.idleCode).map (s.clock.now + ·) })
  have now : (leaveTo p .pass s).clock = s.clock := (leaveTo_keeps p .pass s).same .clock (by decide)
  have same : openPass p c (idle.setWidth 2) s = modPort p (fun u => { u with idleTimer := (idleTime u.idleCode).map (s.clock.now + ·) })
      (modPort p (fun u => { u with
        silence := none, queue := [], gather := [], gatherTimer := none, opening := some c, idleCode := idle.setWidth 2 })
        (setRx p none (leaveTo p .pass s))) := by
    rw [← now]
    rfl
  rw [same]
  refine ⟨timed.own.trans ?_, timed.others⟩
  unfold PortUnit.opened
  rw [← idleTime_code h]
  rfl

theorem openPass_rx (code : BitVec 2) (s : State) : (openPass p c code s).rx = s.rx.set p none := by
  have rx : (leaveTo p .pass s).rx = s.rx := (leaveTo_keeps p .pass s).same .rx (by decide)
  rw [← rx]
  rfl

/-- R157, R179: what pass mode leaves of the sign on the port. -/
theorem openPass_sign (sign : s.profile p = .sign) (code : BitVec 2) :
    (openPass p c code s).signs[p].claims = s.signs[p].claims ∧ (openPass p c code s).signs[p].dark = s.signs[p].dark ∧
    (openPass p c code s).signs[p].stage = s.signs[p].stage := by
  have kept : SameBut [.ports, .rx] (leaveTo p .pass s) (openPass p c code s) :=
    (restartIdle_keeps ..).step (by decide) ((modPort_keeps ..).step (by decide) (State.setRx_keeps.mono (by decide)))
  have same : (openPass p c code s).signs = (leaveTo p .pass s).signs := kept.same .signs (by decide)
  rw [same]
  by_cases up : s.ports[p].link = .up
  · rw [leaveTo_sign sign up, withSign_sign]
    exact ⟨rfl, rfl, rfl⟩
  · rw [leaveTo, if_neg up]
    exact ⟨rfl, rfl, rfl⟩

/-! ### The statement of pass mode -/

theorem passProfiles_known (h : s.profile p ∈ [Profile.sign, .weather, .toll]) : s.profile p ≠ .none := by
  rintro e
  rw [e] at h
  exact absurd h (by decide)

/-- R53, R179: PASS-OPEN by unicast to one port. -/
theorem passOpen_exec {via : Via} (fits : s.profile p ∈ [Profile.sign, .weather, .toll]) (admitted : Admitted via s)
    (unicast : via.addressing = .unicast) : exec (.passOpen via (natByte p.val) idle) s =
      .next (passOpenOn (commandSource via s) idle p s) := by
  rw [exec_admitted (c := .passOpen (natByte p.val) idle) admitted rfl rfl]
  refine congrArg Host.Outcome.next ?_
  rw [commandEffect, unicast]
  exact portCommand_one fits

theorem passClose_exec {via : Via} (fits : s.profile p ∈ [Profile.sign, .weather, .toll]) (admitted : Admitted via s)
    (unicast : via.addressing = .unicast) : exec (.passClose via (natByte p.val)) s = .next (passCloseOn p s) := by
  rw [exec_admitted (c := .passClose (natByte p.val)) admitted rfl rfl]
  refine congrArg Host.Outcome.next ?_
  rw [commandEffect, unicast]
  exact portCommand_one fits

theorem lineSignal_gone (known : s.profile p ≠ .none) (still : s.ports[p].lineLoss = none) : lineSignal p false s =
    s.setPorts (s.ports.set p { s.ports[p] with lineLoss := some (s.clock.now + 1000000000) }) := by
  rw [lineSignal_eq known]
  unfold modPort
  dsimp only
  rw [still, show Config.lineLossTime = 1000000000 from rfl]
  rfl

/-- R181: a line signal that stays away restarts no timer. -/
theorem lineSignal_away (known : s.profile p ≠ .none) (running : s.ports[p].lineLoss = some d) : lineSignal p false s = s := by
  have same : { s.ports[p] with lineLoss := some d } = s.ports[p] := by rw [← running]
  rw [lineSignal_eq known]
  unfold modPort
  dsimp only
  rw [running]
  dsimp only
  rw [if_neg (by decide), same, vector_set_self]
  rfl

/-- The state at the expiry of the line-loss timer, which has stopped. -/
def State.lossStopped (s : State) (p : Port) (d : Time) : State := modPort p (fun u => { u with lineLoss := none }) (atMoment d s)

theorem lossStopped_port (s : State) (d : Time) : (s.lossStopped p d).ports[p] = { s.ports[p] with lineLoss := none } :=
  vector_get_set ..

theorem endPass_lossStopped (s : State) (d : Time) : LastCell p s (endPass p (s.lossStopped p d)) := by
  have last := (endPass_ended (p := p) (s.lossStopped p d)).2
  have port := lossStopped_port (p := p) s d
  refine ⟨fun c active bytes toward room => ?_, fun none => ?_⟩
  · have sent := last.sent c active (by rw [port]; exact bytes) (by rw [port]; exact toward) room
    rw [port] at sent
    exact sent
  · exact last.unsent (by rw [port]; exact none)

/-- Settles O51. -/
theorem passModeOpensAndEnds : Obligations.PassModeOpensAndEnds := by
  unfold Obligations.PassModeOpensAndEnds
  rintro p s u rfl fits
  have known := passProfiles_known fits
  refine ⟨fun via idle admitted unicast => ⟨fun high => ?_, fun low pass => ?_, fun low off => ?_⟩,
    fun via admitted unicast => ⟨fun off => ?_, fun pass => ?_⟩, fun d pass timer => ?_, fun d pass timer => ?_,
    fun d off timer => ?_, ?_, fun none => ?_, fun d running => ?_⟩
  · rw [passOpen_exec fits admitted unicast, passOpenOn, if_pos high]
    rfl
  · rw [passOpen_exec fits admitted unicast, passOpenOn, if_neg (by omega), if_pos pass]
    rfl
  · rw [passOpen_exec fits admitted unicast, passOpenOn, if_neg (by omega), if_neg off]
    have kept := openPass_keeps p (commandSource via s) (idle.setWidth 2) s
    have moved := openPass_moved (p := p) (c := commandSource via s) low s
    refine ⟨_, rfl, kept.same .toll (by decide), kept.same .station (by decide), kept.same .plates (by decide),
      kept.same .clock (by decide), fun sign => openPass_sign sign _, fun q e => (moved.others_kept q e).1, ?_, openPass_rx ..⟩
    rw [moved.own, commandSource_eq]
    rfl
  · rw [passClose_exec fits admitted unicast, passCloseOn, if_neg off]
    rfl
  · rw [passClose_exec fits admitted unicast, passCloseOn, if_pos pass]
    have last := (endPass_ended (p := p) s).2
    exact ⟨_, rfl, endPass_keeps p s, endPass_port s, last.sent, last.unsent⟩
  · have last := (endPass_ended (p := p) (atMoment d s)).2
    exact ⟨_, congrArg Host.Outcome.next (idleExpired_pass pass timer), (endPass_keeps ..).step (by decide) (State.setClock_keeps.mono rfl),
      endPass_port (atMoment d s), last.sent, last.unsent⟩
  · have quiet := lineLossExpired_eq timer
    rw [if_pos pass] at quiet
    have kept : SameBut [.clock, .tx, .ring, .ports, .portCounts] s (endPass p (s.lossStopped p d)) :=
      (endPass_keeps ..).step (by decide) ((modPort_keeps ..).step (by decide) (State.setClock_keeps.mono rfl))
    have last := endPass_lossStopped (p := p) s d
    have ended := endPass_port (p := p) (s.lossStopped p d)
    rw [lossStopped_port] at ended
    exact ⟨_, congrArg Host.Outcome.next quiet, kept, ended, ⟨last.sent, last.unsent⟩,
      (endPass_lineLoss _).trans (congrArg PortUnit.lineLoss (lossStopped_port s d))⟩
  · refine congrArg Host.Outcome.next ((lineLossExpired_eq timer).trans ?_)
    exact if_neg off
  · exact congrArg Host.Outcome.next (lineSignal_eq known true)
  · exact congrArg Host.Outcome.next (lineSignal_gone known none)
  · exact congrArg Host.Outcome.next (lineSignal_away known running)

end Sys2Proof.Machine
end

section
/-! PROOFS. The bytes of pass mode (R180: O52). -/

namespace Sys2Proof.Machine

variable {s t : State} {p q : Port} {u x y : PortUnit} {c : Nat} {d : Time} {b : Byte} {bytes : List Byte} {cell : Cell} {l : Line}

/-- The idle timer restarted now, by the idle code of a port unit. -/
def PortUnit.idleUntil (u : PortUnit) (now : Time) : Option Time :=
  if u.idleCode = 0 then some (now + 2000000000) else if u.idleCode = 1 then some (now + 8000000000)
  else if u.idleCode = 2 then some (now + 32000000000) else none

theorem idleTime_map (code : BitVec 2) (now : Time) : (idleTime code).map (now + ·) =
    if code = 0 then some (now + 2000000000) else if code = 1 then some (now + 8000000000)
    else if code = 2 then some (now + 32000000000) else none := by
  unfold idleTime
  split
  · rfl
  · split
    · rfl
    · split <;> rfl

theorem restartIdle_eq (p : Port) (s : State) :
    restartIdle p s = modPort p (fun u => { u with idleTimer := u.idleUntil s.clock.now }) s := by
  unfold restartIdle modPort
  dsimp only
  rw [idleTime_map]
  rfl

/-- The port unit with one more byte gathered. -/
def PortUnit.gathered (u : PortUnit) (b : Byte) (now : Time) : PortUnit :=
  { u with
    gather := u.gather ++ [b], idleTimer := u.idleUntil now
    gatherTimer := if u.gather = [] then some (now + 20000000) else u.gatherTimer }

/-- R180: the state with one more byte in the gather buffer. -/
def State.withByte (s : State) (p : Port) (b : Byte) : State := s.setPorts (s.ports.set p (s.ports[p].gathered b s.clock.now))

theorem withByte_port (s : State) : (s.withByte p b).ports[p] = s.ports[p].gathered b s.clock.now := vector_get_set ..

theorem gathered_eq (p : Port) (b : Byte) (s : State) : restartIdle p (modPort p (fun u =>
    { u with gather := u.gather ++ [b],
             gatherTimer := if u.gather.isEmpty then some (s.now + Config.gatherTime) else u.gatherTimer }) s) = s.withByte p b := by
  rw [restartIdle_eq]
  unfold modPort State.withByte State.setPorts PortUnit.gathered
  dsimp only
  rw [vector_get_set, vector_set_set]
  simp only [List.isEmpty_iff]
  rfl

/-- R180: a byte from the equipment, while the buffer is short. -/
theorem passByteIn_joins (short : s.ports[p].gather.length < 47) : passByteIn p b s = s.withByte p b := by
  unfold passByteIn
  dsimp only
  rw [gathered_eq, withByte_port]
  refine if_neg ?_
  simp only [PortUnit.gathered, List.length_append, List.length_singleton, Config.gatherSize]
  omega

/-- R180: the 48th byte sends the buffer. -/
theorem passByteIn_sends (full : s.ports[p].gather.length = 47) : passByteIn p b s = sendGather p (s.withByte p b) := by
  unfold passByteIn
  dsimp only
  rw [gathered_eq, withByte_port]
  refine if_pos ?_
  simp only [PortUnit.gathered, List.length_append, List.length_singleton, Config.gatherSize]
  omega

theorem passByte_exec (known : s.profile p ≠ .none) (pass : s.ports[p].link = .pass) :
    exec (.passByte p b) s = .next (passByteIn p b s) := by
  refine congrArg Host.Outcome.next ?_
  rw [equipmentByte, linkBytes, if_neg known, if_pos pass]
  rfl

/-! ### The PASS cell (R180) -/

/-- The PASS cell of these bytes has been offered to the B insert queue by a station that is ACTIVE. -/
structure PassSent (p : Port) (c : Nat) (bytes : List Byte) (s t : State) : Prop where
  joins : s.phase = .active → (s.insertQueue .b).length < 32 → t.ring = s.ring ∧
    (t.tx.get (insertLine s.fold)).insert.b = s.insertQueue .b ++ [originate 15 (natByte c) (passBytes p bytes) s]
  drops : s.phase = .active → 32 ≤ (s.insertQueue .b).length → t.tx = s.tx ∧
    t.ring = { s.ring with insertDrops := bump s.ring.insertDrops }
  silent : s.phase ≠ .active → t.tx = s.tx ∧ t.ring = s.ring

theorem sendGather_passSent (toward : s.ports[p].opening = some c) (bytes : s.ports[p].gather ≠ []) :
    PassSent p c s.ports[p].gather s (sendGather p s) where
  joins := fun active room => by
    rw [sendGather_room active toward bytes room]
    exact ⟨rfl, withBulk_get ..⟩
  drops := fun active full => by
    rw [sendGather_full active toward bytes full]
    exact ⟨rfl, rfl⟩
  silent := fun inactive => by
    rw [sendGather_unsent (.inl inactive)]
    exact ⟨rfl, rfl⟩

/-! ### A delivered PASS cell (R180) -/

theorem handPlain_pass {d own : Bool} (kind : cell.kind = kPass) : handPlain d own cell s =
    if d then whenActive (passDelivered cell.source.toNat cell.payload) s else s := by
  unfold handPlain
  rw [kind]
  rfl

theorem portAt_of_val {i : Nat} (h : (byteAt bytes i).toNat = p.val) : portAt bytes i = p := by
  rw [portAt, h]
  exact Fin.ofNat_val_eq_self p

/-- R180: a PASS cell that fits an open session. -/
theorem passDelivered_written (pass : s.ports[p].link = .pass) (toward : s.ports[p].opening = some c)
    (port : (byteAt bytes 0).toNat = p.val) (some : 1 ≤ (byteAt bytes 1).toNat) (fits : (byteAt bytes 1).toNat ≤ 48) :
    passDelivered c bytes s = s.setPorts (s.ports.set p { s.ports[p] with
      written := (bytes.drop 2).take (byteAt bytes 1).toNat, idleTimer := s.ports[p].idleUntil s.clock.now }) := by
  have target : passTarget c bytes s = Option.some p := by
    have low : (byteAt bytes 0).toNat ≤ 3 := by omega
    have here := portAt_of_val port
    subst here
    exact if_pos ⟨low, pass, toward, some, fits⟩
  rw [passDelivered, target]
  dsimp only
  rw [restartIdle_eq]
  unfold modPort State.setPorts
  dsimp only
  rw [vector_get_set, vector_set_set]
  rfl

/-- R180: another PASS cell is stray. -/
theorem passDelivered_stray {n : Nat} (here : s.ports[p].opening = some c) (plain : s.isCentre = false)
    (h : ((byteAt bytes 0).toNat = p.val ∧ (n ≠ c ∨ (byteAt bytes 1).toNat = 0 ∨ 48 < (byteAt bytes 1).toNat)) ∨
      3 < (byteAt bytes 0).toNat) :
    passDelivered n bytes s = s.setPortCounts { s.portCounts with strayPass := bump s.portCounts.strayPass } := by
  have target : passTarget n bytes s = none := by
    refine if_neg fun ⟨low, pass, toward, least, most⟩ => ?_
    rcases h with ⟨port, h⟩ | h
    · obtain rfl := portAt_of_val port
      cases toward.symm.trans here
      omega
    · omega
  rw [passDelivered, target]
  dsimp only
  rw [if_neg (by rw [plain]; nofun)]
  rfl

/-- A PASS cell delivered to a station that is no centre. -/
theorem passCell_exec (h : Delivered l cell s) (kind : cell.kind = 15) (active : s.phase = .active) (plain : s.isCentre = false) :
    exec (.cellArrives l cell) s = .next (passDelivered cell.source.toNat cell.payload (validWord l s)) := by
  rw [h.exec (by rw [kind]; decide), handPlain_pass kind, if_pos rfl, whenActive_active (s := validWord l s) active]
  refine congrArg Host.Outcome.next (toCentre_of_not ?_)
  rw [State.isCentre, (passDelivered_keeps ..).portOf_eq (by decide)]
  exact plain

/-- Settles O52. -/
theorem passBytesAreGatheredAndWrittenOut : Obligations.PassBytesAreGatheredAndWrittenOut := by
  unfold Obligations.PassBytesAreGatheredAndWrittenOut
  rintro p s u c fits rfl pass toward
  have known := passProfiles_known fits
  refine ⟨fun b short => ?_, fun b full => ?_, fun d timer bytes => ?_, fun l cell delivered kind active plain =>
    ⟨fun port source some fits => ?_, fun stray => ?_⟩⟩
  · rw [passByte_exec known pass, passByteIn_joins short]
    rfl
  · rw [passByte_exec known pass, passByteIn_sends full]
    have port := withByte_port (p := p) (b := b) s
    have sent := sendGather_passSent (s := s.withByte p b) (p := p) (c := c) (by rw [port]; exact toward)
      (by rw [port]; exact List.append_ne_nil_of_right_ne_nil _ (by nofun))
    rw [port] at sent
    refine ⟨_, rfl, (sendGather_keeps ..).step (by decide) (State.setPorts_keeps.mono (by decide)), ?_, sent.joins, sent.drops, sent.silent⟩
    rw [sendGather_ports]
    unfold State.emptied modPort State.withByte State.setPorts PortUnit.gathered
    dsimp only
    rw [vector_get_set, vector_set_set]
    rfl
  · have expired : gatherExpired p s = sendGather p (atMoment d s) := by
      rw [gatherExpired, timer]
      exact if_pos pass
    have sent := sendGather_passSent (s := atMoment d s) (p := p) (c := c) toward bytes
    refine ⟨_, congrArg Host.Outcome.next expired, (sendGather_keeps ..).step (by decide) (State.setClock_keeps.mono (by decide)),
      (sendGather_keeps ..).same .clock (by decide), sendGather_ports _, sent.joins, sent.drops, sent.silent⟩
  · rw [passCell_exec delivered kind active plain, source]
    exact congrArg Host.Outcome.next (passDelivered_written (s := validWord l s) pass toward port some fits)
  · rw [passCell_exec delivered kind active plain]
    exact congrArg Host.Outcome.next (passDelivered_stray (s := validWord l s) (p := p) toward plain stray)

end Sys2Proof.Machine
end

section
/-! PROOFS. What the units leave of the delivery queue and of the frame that the centre port sends (R183). -/

namespace Sys2Proof.Machine

variable {s t u : State} {p q : Port} {k : Fin 16} {n : Nat}

/-! ### The call unit -/

theorem enterRemote_served (c : Fin 16) (n : Nat) (port : Port) (prio : Nat) (s : State) :
    Served s (enterRemote c n port prio s) := served_setCall.trans (respond_served _)

theorem setRemote_served (c : Fin 16) (n : Nat) (port : Port) (prio : Nat) (s : State) :
    Served s (setRemote c n port prio s) := by
  unfold setRemote
  split
  · exact .ite (setCircuit_served ..) (enterRemote_served ..)
  · exact enterRemote_served ..

theorem withdrawClaim_served {a : Attempt} {found : Bool} (h : withdrawClaim a s = (t, found)) : Served s t :=
  .of_keeps (.of_pair h (withdrawClaim_keeps ..)) (by decide)

theorem failAttempt_served (a : Attempt) (beaten : Option (Fin 16)) (s : State) : Served s (failAttempt a beaten s) := by
  have freed (t : State) : Served t (if claimsFor t.call.circuits[a.circuit] a then setCircuit a.circuit .free t else t) :=
    .ite (setCircuit_served ..) (.refl t)
  have avoided (t : State) : Served t (avoidCircuit a.port beaten t) := by
    unfold avoidCircuit
    split
    · exact modPhone_served
    · exact .refl t
  have failed (t : State) : Served t (if a.hangUp then t else failPort a.port t) := .ite (.refl t) modPhone_served
  exact ((served_setCall.trans (freed _)).trans (avoided _)).trans ((failed _).trans (claimTests_served ..))

theorem joinRequest_served (prio : Nat) (s : State) : Served s (joinRequest p prio s) := served_setCall

theorem loseCall_served (reason : CallReason) (s : State) : Served s (loseCall p reason s) :=
  .ite modPhone_served (modPhone_served.trans (joinRequest_served ..))

theorem claimCopied_served (cl : Claim) (s : State) : Served s (claimCopied n cl s).1 := by
  unfold claimCopied
  have taken := setRemote_served cl.circuit n cl.port cl.priority s
  split
  · exact .refl s
  · split
    · split
      · dsimp only
        split
        · exact taken.trans (claimTests_served ..)
        · split
          · next e => exact (taken.trans (withdrawClaim_served e)).trans (failAttempt_served ..)
          · next e => exact (taken.trans (withdrawClaim_served e)).trans (claimTests_served ..)
      · exact .refl s
    · split
      · exact (taken.trans (loseCall_served ..)).trans (claimTests_served ..)
      · exact .refl s
    · exact taken.trans (claimTests_served ..)
    · split
      · exact taken.trans (claimTests_served ..)
      · exact .refl s

theorem holdListed_served (s : State) (h : Fin 16 × Nat × Port) : Served s (holdListed n s h) := by
  unfold holdListed
  split
  · exact setRemote_served ..
  · exact .ite (setRemote_served ..) (.refl s)
  · exact .refl s
  · exact .ite ((setRemote_served ..).trans (loseCall_served ..)) (.refl s)

theorem holdCopied_served (held : List (Fin 16 × Nat × Port)) (s : State) : Served s (holdCopied n held s) :=
  .ite ((foldl_served holdListed_served ..).trans (claimTests_served ..)) (.refl s)

theorem releaseCopied_served (c : Fin 16) (port : Port) (s : State) : Served s (releaseCopied n c port s) := by
  unfold releaseCopied
  split
  · split
    · exact .ite ((setCircuit_served ..).trans (claimTests_served ..)) (.refl s)
    · exact .refl s
  · exact .refl s

theorem loseTarget_served (s : State) (c : Fin 16) : Served s (loseTarget n s c) := by
  unfold loseTarget
  split
  · next p _ _ =>
    refine .ite ?_ (.refl s)
    exact ((sendRelease_served ..).trans (loseCall_served ..)).trans (.ite (.refl _) modPhone_served)
  · exact .refl s

theorem newRequest_served (prio : Nat) (ring : Bool) (s : State) : Served s (newRequest p prio ring s) :=
  (modPhone_served.trans (joinRequest_served ..)).trans (claimTests_served ..)

/-! ### The station table -/

theorem reject_served (r : RejectReason) (s : State) : Served s (reject r s) :=
  .of_keeps (reject_keeps ..) (by decide)

theorem setHeard_served (e : HeardEntry) (s : State) : Served s (setHeard n e s) :=
  .of_keeps (setHeard_keeps ..) (by decide)

theorem tellSelections_served (before s : State) : Served s (tellSelections before s) := by
  have claimed : Served s (if s.selectedCentre ≠ before.selectedCentre then testClaim s else s) :=
    .ite (claimTests_served ..) (.refl s)
  exact claimed.trans (.ite (.of_keeps (followTollCentre_keeps ..) (by decide)) (.refl _))

theorem changeHeard_served (e : HeardEntry) (s : State) : Served s (changeHeard n e s) := by
  have told : Served s (respond (setHeard n e s)) := (setHeard_served ..).trans (respond_served _)
  refine Served.trans ?_ (tellSelections_served ..)
  exact .ite told (told.trans ((foldl_served loseTarget_served ..).trans (claimTests_served ..)))

theorem helloCopied_served (h : Hello) (s : State) : Served s (helloCopied n h s) := by
  have noted : Served s (noteRestart n h s) :=
    .ite (.of_keeps (restartNotice_keeps ..) (by decide)) (.refl s)
  exact .ite (.refl s) (.ite noted (.ite (noted.trans (changeHeard_served ..)) (noted.trans (setHeard_served ..))))

theorem alarmCopied_served (bytes : List Byte) (s : State) : Served s (alarmCopied n bytes s) := by
  have viewed (e : Option ViewEntry) : Served s (setView n e s) := served_setWeather
  unfold alarmCopied
  split
  · split
    · exact .refl s
    · dsimp only
      split
      · exact (viewed _).trans (respond_served _)
      · exact .ite (viewed _) ((viewed _).trans (respond_served _))
  · exact .refl s

/-! ### Commands -/

theorem setFloor_served (floor : Byte) (s : State) : Served s (setFloor floor s) :=
  .ite ((served_setCall.trans (claimTests_served ..)).trans (settle_served _)) (reject_served ..)

theorem callPhoneOn_served (prio : Byte) (s : State) : Served s (callPhoneOn prio p s) :=
  .ite (reject_served ..) (.ite (reject_served ..) ((newRequest_served ..).trans (settle_served _)))

theorem plateReported_served (s : State) : Served s (plateReported n s) :=
  forPorts_served (fun _ t => .ite (.refl t) (.ite (trySelected_served t) (.ite (requestTarget_served' t) (.refl t)))) s

theorem served_setPlates {x : PlateStore} : Served s (s.setPlates x) :=
  .of_keeps State.setPlates_keeps (by decide)

theorem dropOne_served (s : State) : Served s (dropOne n s) := by
  unfold dropOne
  split
  · exact served_setPlates.trans (plateReported_served _)
  · exact .refl s

theorem dropEach_served (ns : List Nat) (s : State) : Served s (dropEach ns s) := by
  induction ns generalizing s with
  | nil => exact .refl s
  | cons n ns ih => exact (dropOne_served s).trans (ih _)

theorem pageCommitted_served (page : Fin 8) (s : State) : Served s (pageCommitted p page s) :=
  .ite (trySelected_served s) (.ite (requestTarget_served' s) (.refl s))

theorem endPage_served (st : Staging) (s : State) : Served s (endPage p st s) := by
  unfold endPage
  split
  · refine Served.trans ?_ (pageCommitted_served ..)
    exact modSign_served rfl
  · refine Served.trans ?_ (reject_served ..)
    exact modSign_served rfl

theorem pageSetOn_served (q : PageParams) (s : State) : Served s (pageSetOn q p s) := by
  unfold pageSetOn
  split
  · split
    · exact reject_served ..
    · exact .ite (endPage_served ..) (modSign_served rfl)
  · exact reject_served ..

theorem showOn_served (page prio : Byte) (s : State) : Served s (showOn page prio p s) := by
  unfold showOn
  split
  · exact changeClaims_served (f := withoutClaim _) (fun _ => rfl) s
  · split
    · exact changeClaims_served (f := withClaim _ _ _) (fun _ => rfl) s
    · exact reject_served ..

theorem restoreSign_served (s : State) : Served s (restoreSign p s) :=
  ((modSign_served rfl).trans (modSign_served rfl)).trans (trySelected_served _)

theorem clearEntry_served (s : State) (k : Fin 16) : Served s (clearEntry s k) :=
  .ite (modResponse_served.trans (removeClaims_served _)) (.refl s)

theorem clearResponses_served (i : Byte) (s : State) : Served s (clearResponses i s) :=
  .ite (foldl_served clearEntry_served ..) (.ite (clearEntry_served ..) (reject_served ..))

theorem setResponse_served (q : ResponseParams) (s : State) : Served s (setResponse q s) := by
  unfold setResponse
  split
  · exact reject_served ..
  · split
    · have cleared (t : State) (k : Fin 16) : Served t (claimAtOnce k t) :=
        .ite (modResponse_served.trans (placeClaims_served _)) (.refl t)
      exact ((modResponse_served.trans (removeClaims_served _)).trans modResponse_served).trans (cleared _ _)
    · exact reject_served ..

/-! ### The centre port's queues -/

/-- The delivery queue and its drops are as they were, and a frame being sent is still being sent. -/
structure Quiet (s t : State) : Prop where
  sending : ∀ q : Port, s.ports[q].sending ≠ none → t.ports[q].sending = s.ports[q].sending
  drops : t.portCounts.deliveryDrops = s.portCounts.deliveryDrops
  centre : t.centre = s.centre
  straps : t.straps = s.straps

theorem Quiet.refl (s : State) : Quiet s s := ⟨fun _ _ => rfl, rfl, rfl, rfl⟩

theorem Quiet.trans (h : Quiet s t) (l : Quiet t u) : Quiet s u :=
  ⟨fun q busy => (l.sending q (by rw [h.sending q busy]; exact busy)).trans (h.sending q busy), l.drops.trans h.drops,
    l.centre.trans h.centre, l.straps.trans h.straps⟩

theorem Quiet.ite {c : Prop} [Decidable c] (ht : Quiet s t) (hu : Quiet s u) : Quiet s (if c then t else u) := by
  split
  · exact ht
  · exact hu

theorem Quiet.cases {c : Prop} [Decidable c] (ht : c → Quiet s t) (hu : ¬c → Quiet s u) : Quiet s (if c then t else u) := by
  split
  · next yes => exact ht yes
  · next no => exact hu no

theorem Served.quiet (h : Served s t) : Quiet s t := ⟨fun q => (h.unit q).sending, h.drops, h.centre, h.straps⟩

theorem Quiet.of_keeps {ps : List Part} (h : SameBut ps s t)
    (apart : ∀ x ∈ [Part.ports, .portCounts, .centre, .straps], x ∉ ps) : Quiet s t := by
  have units : t.ports = s.ports := h.same .ports (apart _ (by decide))
  have counts : t.portCounts = s.portCounts := h.same .portCounts (apart _ (by decide))
  exact ⟨fun q _ => by rw [units], by rw [counts], h.same .centre (apart _ (by decide)), h.same .straps (apart _ (by decide))⟩

theorem modPort_quiet {f : PortUnit → PortUnit} (h : (f s.ports[p]).sending = s.ports[p].sending) : Quiet s (modPort p f s) where
  sending := fun q _ => by
    by_cases e : q = p
    · subst e
      exact (congrArg PortUnit.sending (vector_get_set ..)).trans h
    · exact congrArg PortUnit.sending (vector_get_set_ne _ _ _ _ e)
  drops := rfl
  centre := rfl
  straps := rfl

theorem sendFrame_quiet (p : Port) (f : Frame) (s : State) : Quiet s (sendFrame p f s) := by
  by_cases idle : s.ports[p].sending = none
  · rw [sendFrame_starts idle]
    refine ⟨fun q busy => ?_, rfl, rfl, rfl⟩
    have other : q ≠ p := fun e => busy (by rw [e]; exact idle)
    exact congrArg PortUnit.sending (vector_get_set_ne _ _ _ _ other)
  · by_cases room : s.ports[p].queue.length < 128
    · rw [sendFrame_waits idle room]
      exact modPort_quiet (f := fun u => { u with queue := u.queue ++ [f] }) rfl
    · rw [sendFrame_drops idle (Nat.le_of_not_lt room)]
      exact ⟨fun _ _ => rfl, rfl, rfl, rfl⟩

/-! ### Pass mode -/

theorem sendGather_quiet (s : State) : Quiet s (sendGather p s) := by
  have emptied : Quiet s (s.emptied p) := modPort_quiet rfl
  unfold sendGather
  split
  · exact .ite (emptied.trans (.of_keeps (offerCounted_keeps ..) (by decide))) emptied
  · exact emptied

theorem endPass_quiet (s : State) : Quiet s (endPass p s) := by
  refine Quiet.trans ?_ (sendFrame_quiet ..)
  exact (sendGather_quiet s).trans (modPort_quiet rfl)

theorem leaveTo_quiet (link : Link) (s : State) : Quiet s (leaveTo p link s) := by
  unfold leaveTo
  split
  · refine Quiet.trans ?_ (tellLeft_served _).quiet
    exact modPort_quiet rfl
  · exact modPort_quiet rfl

theorem openPass_quiet (c : Nat) (code : BitVec 2) (s : State) : Quiet s (openPass p c code s) := by
  have forgotten : Quiet s (setRx p none (leaveTo p .pass s)) :=
    (leaveTo_quiet ..).trans (.of_keeps State.setRx_keeps (by decide))
  have opened := modPort_quiet (p := p) (s := setRx p none (leaveTo p .pass s)) (f := fun u => { u with
    silence := none, queue := [], gather := [], gatherTimer := none, opening := some c, idleCode := code }) rfl
  exact (forgotten.trans opened).trans (modPort_quiet (f := fun u => { u with idleTimer := _ }) rfl)

/-! ### COMMAND cells -/

theorem actOnPorts_quiet {act : Port → State → State} (h : ∀ q t, Quiet t (act q t)) (ps : List Port) (s : State) :
    Quiet s (actOnPorts act ps s) := by
  induction ps generalizing s with
  | nil => exact .refl s
  | cons p ps ih => exact (h p s).trans (ih _)

theorem portCommand_quiet {act : Port → State → State} (h : ∀ q t, Quiet t (act q t)) (a : Addressing) (fit : List Profile)
    (target : Byte) (s : State) : Quiet s (portCommand a fit target act s) := by
  unfold portCommand
  split
  · exact actOnPorts_quiet h ..
  · exact (reject_served ..).quiet

theorem commandEffect_quiet (via : Via) {c : Command} (restart : c.isRestart = false) (s : State) :
    Quiet s (commandEffect via c s) := by
  cases c with
  | groupSet g m => exact .of_keeps (setGroup_keeps ..) (by decide)
  | callFloor f => exact (setFloor_served ..).quiet
  | callPhone t prio => exact portCommand_quiet (fun _ _ => (callPhoneOn_served ..).quiet) ..
  | plateDrop n => exact .ite (dropOne_served _).quiet (reject_served ..).quiet
  | plateDropAll => exact (dropEach_served ..).quiet
  | pageSet t q => exact portCommand_quiet (fun _ _ => (pageSetOn_served ..).quiet) ..
  | showPage t page prio => exact portCommand_quiet (fun _ _ => (showOn_served ..).quiet) ..
  | signRestore t => exact portCommand_quiet (fun _ _ => (restoreSign_served _).quiet) ..
  | responseSet q => exact (setResponse_served ..).quiet
  | responseClear i => exact (clearResponses_served ..).quiet
  | wxRate t n => exact portCommand_quiet (fun _ _ => .of_keeps (setRate_keeps ..) (by decide)) ..
  | wxLimits t q => exact portCommand_quiet (fun _ _ => .of_keeps (setLimits_keeps ..) (by decide)) ..
  | passOpen t idle =>
    exact portCommand_quiet (fun _ _ => .ite (reject_served ..).quiet (.ite (reject_served ..).quiet (openPass_quiet ..))) ..
  | passClose t => exact portCommand_quiet (fun _ _ => .ite (endPass_quiet _) (reject_served ..).quiet) ..
  | restart => cases restart
  | unknown code => exact .refl s

/-- R52: RESTART reaches no station but by unicast. -/
theorem commandArrives_quiet {via : Via} (h : via.addressing ≠ .unicast) (c : Command) (s : State) :
    Quiet s (commandArrives via c s) := by
  unfold commandArrives
  split
  · exact .refl s
  · split
    · exact (reject_served ..).quiet
    · next accepted =>
      refine commandEffect_quiet via (Bool.eq_false_iff.mpr fun restart => ?_) s
      unfold commandRefused at accepted
      split at accepted
      · cases accepted
      · split at accepted
        · cases accepted
        · split at accepted
          · cases accepted
          · rw [if_pos ⟨restart, h⟩] at accepted
            cases accepted

/-! ### Cells handed to the units -/

/-- A signalling cell that is copied. -/
theorem handPlain_copied {c : Cell} (h : c.dest = allStations) (signal : classOf c.kind = .c) (s : State) :
    Quiet s (handPlain false false c s) := by
  have addressing : addressingOf c.dest = .all := by rw [h]; rfl
  have copy {x y : State} (h : Quiet s y) : Quiet s (if false = true then x else y) := h
  have other {k : Byte} (class' : classOf k ≠ .c) {x : State} (kind : c.kind = k) : Quiet s x := by
    rw [kind] at signal
    exact absurd signal class'
  unfold handPlain
  refine .ite (copy (.refl s)) (.ite (copy ((releaseCopied_served ..).trans (settle_served _)).quiet)
    (.ite (copy ((holdCopied_served ..).trans (settle_served _)).quiet)
    (.ite (copy ((helloCopied_served ..).trans (settle_served _)).quiet)
    (.ite (commandArrives_quiet (by rw [addressing]; nofun) ..)
    (.ite (copy (.refl s)) (.ite (copy (.refl s)) (.ite (copy (.refl s))
    (.cases (other (by decide)) fun _ => .cases (other (by decide)) fun _ =>
    .ite (copy (alarmCopied_served ..).quiet) (.ite (copy (.refl s)) (.refl s))))))))))

end Sys2Proof.Machine
end

section
/-! PROOFS. The centre port: its delivery queue and its intake FIFO (R182, R183: O53). -/

namespace Sys2Proof.Machine

variable {s t u : State} {p q : Port} {c : Cell} {l : Line} {f : Frame} {bytes : List Byte} {rest : List Cell}

/-! ### The delivery queue (R183) -/

/-- Frame `f` has been placed in the delivery queue, behind a frame that is being sent. -/
structure PlacedIn (f : Frame) (s t : State) : Prop where
  room : s.centre.delivery.length < 128 → t.centre.delivery = s.centre.delivery ++ [f] ∧
    t.portCounts.deliveryDrops = s.portCounts.deliveryDrops
  displaces : ∀ first g rest, 128 ≤ s.centre.delivery.length → s.centre.delivery = first ++ g :: rest →
    (∀ x ∈ first, x.type = 81) → g.type ≠ 81 → t.centre.delivery = first ++ rest ++ [f] ∧
    t.portCounts.deliveryDrops = bump s.portCounts.deliveryDrops
  refused : 128 ≤ s.centre.delivery.length → (∀ x ∈ s.centre.delivery, x.type = 81) →
    t.centre.delivery = s.centre.delivery ∧ t.portCounts.deliveryDrops = bump s.portCounts.deliveryDrops

theorem PlacedIn.from_quiet (h : Quiet s t) (l : PlacedIn f t u) : PlacedIn f s u := by
  obtain ⟨room, displaces, refused⟩ := l
  rw [h.centre, h.drops] at room displaces refused
  exact ⟨room, displaces, refused⟩

theorem PlacedIn.then_keeps {ps : List Part} (h : PlacedIn f s t) (l : SameBut ps t u) (centre : Part.centre ∉ ps)
    (counts : Part.portCounts ∉ ps) : PlacedIn f s u := by
  have queue : u.centre = t.centre := l.same .centre centre
  have count : u.portCounts = t.portCounts := l.same .portCounts counts
  obtain ⟨room, displaces, refused⟩ := h
  rw [← queue, ← count] at room displaces refused
  exact ⟨room, displaces, refused⟩

/-- The oldest frame that is no TOLL-RECORD goes. -/
theorem dropOldestCell_eq {first rest : List Frame} {g : Frame} (records : ∀ x ∈ first, x.type = 81) (other : g.type ≠ 81) :
    dropOldestCell (first ++ g :: rest) = first ++ rest := by
  rw [dropOldestCell, List.eraseP_append_right _ fun x hx => by simp [tollRecordType, records x hx],
    List.eraseP_cons_of_pos (by exact decide_eq_true other)]

theorem startNext_busy (busy : s.ports[p].sending ≠ none) : startNext p s = s :=
  if_pos (Option.isSome_iff_ne_none.mpr busy)

theorem placeDelivery_placed (here : s.portOf .centre = some p) (busy : s.ports[p].sending ≠ none) :
    PlacedIn f s (placeDelivery f s) := by
  have started (x : CentrePort) : startNext p (s.setCentre x) = s.setCentre x := startNext_busy (s := s.setCentre x) busy
  refine ⟨fun room => ?_, fun first g rest full split records other => ?_, fun full records => ?_⟩
  · rw [placeDelivery, here]
    dsimp only
    rw [if_pos (show s.centre.delivery.length < Config.deliverySize from room), started]
    exact ⟨rfl, rfl⟩
  · have holds : holdsCell s.centre.delivery = true := by
      rw [split, holdsCell, List.any_append, List.any_cons, show decide (g.type ≠ tollRecordType) = true from decide_eq_true other,
        Bool.true_or, Bool.or_true]
    rw [placeDelivery, here]
    dsimp only
    rw [if_neg (show ¬s.centre.delivery.length < Config.deliverySize from Nat.not_lt.mpr full), if_pos holds, split,
      dropOldestCell_eq records other]
    exact ⟨rfl, rfl⟩
  · have holds : ¬holdsCell s.centre.delivery = true := by
      rw [holdsCell, List.any_eq_true]
      rintro ⟨x, hx, other⟩
      exact of_decide_eq_true other (records x hx)
    rw [placeDelivery, here]
    dsimp only
    rw [if_neg (show ¬s.centre.delivery.length < Config.deliverySize from Nat.not_lt.mpr full), if_neg holds]
    exact ⟨rfl, rfl⟩

/-! ### Cells offered to the centre port (R20, R183) -/

theorem isCentre_of_portOf (h : s.portOf .centre = some p) : s.isCentre = true := by rw [State.isCentre, h]; rfl

theorem Quiet.portOf (h : Quiet s t) (k : Profile) : t.portOf k = s.portOf k := by
  have profile (q : Port) : t.profile q = s.profile q := by rw [State.profile, h.straps]; rfl
  simp only [State.portOf, profile]

/-- A cell that the centre port is offered joins the delivery queue. -/
theorem toCentre_placed {delivered : Bool} (here : s.portOf .centre = some p) (busy : s.ports[p].sending ≠ none)
    (wanted : ((delivered && deliveredKind c.kind) ||
      (!delivered && decide (c.dest = allStations) && decide (classOf c.kind = .c))) = true) :
    PlacedIn (cellFrameOf c) s (toCentre delivered c s) := by
  rw [toCentre, if_pos (isCentre_of_portOf here), offerCentre, if_pos wanted]
  exact placeDelivery_placed here busy

theorem toCentre_unwanted {delivered : Bool} (unwanted : ((delivered && deliveredKind c.kind) ||
      (!delivered && decide (c.dest = allStations) && decide (classOf c.kind = .c))) = false) : toCentre delivered c s = s := by
  unfold toCentre
  split
  · rw [offerCentre, unwanted]
    rfl
  · rfl

/-! ### Cells handed to the units -/

theorem handClaim_state (s : State) :
    (handClaim c s).1 = settle (claimCopied c.source.toNat (readClaim c.payload) s).1 := by
  unfold handClaim
  generalize claimCopied c.source.toNat (readClaim c.payload) s = x
  obtain ⟨t, marked⟩ := x
  cases marked <;> dsimp only

theorem handClaim_quiet (s : State) : Quiet s (handClaim c s).1 := by
  rw [handClaim_state]
  exact ((claimCopied_served ..).trans (settle_served _)).quiet

theorem handCell_copied (all : c.dest = 255) (signal : classOf c.kind = .c) (s : State) :
    Quiet s (handCell false false c s).1 := by
  by_cases claim : c.kind = kClaim
  · rw [handCell_claim claim all]
    exact handClaim_quiet s
  · unfold handCell
    rw [if_neg claim]
    split
    · exact handPlain_copied all signal s
    · exact .refl s

/-- The centre port's queues are as they were. -/
structure CentreKept (s t : State) : Prop where
  same : t.centre = s.centre

theorem CentreKept.cases {b : Prop} [Decidable b] (ht : b → CentreKept s t) (hu : ¬b → CentreKept s u) :
    CentreKept s (if b then t else u) := by
  split
  · next yes => exact ht yes
  · next no => exact hu no

theorem CentreKept.trans (h : CentreKept s t) (l : CentreKept t u) : CentreKept s u := ⟨l.same.trans h.same⟩

theorem CentreKept.of_keeps {ps : List Part} (h : SameBut ps s t) (apart : Part.centre ∉ ps) : CentreKept s t :=
  ⟨h.same .centre apart⟩

/-- The units that own the cells other than COMMAND and a delivered TOLL-REC leave the delivery queue alone. -/
theorem handPlain_centre {delivered own : Bool} (command : c.kind ≠ kCommand) (record : delivered = true → c.kind ≠ kTollRec)
    (s : State) : CentreKept s (handPlain delivered own c s) := by
  have same {b : Prop} (_ : b) : CentreKept s s := ⟨rfl⟩
  have active {ps : List Part} {f : State → State} (h : SameBut ps s (f s)) (apart : Part.centre ∉ ps) :
      CentreKept s (whenActive f s) := .cases (fun _ => .of_keeps h apart) same
  have settled {ps : List Part} {x : State} (h : SameBut ps s x) (apart : Part.centre ∉ ps) : CentreKept s (settle x) :=
    .trans (.of_keeps h apart) (.of_keeps (settle_keeps x) (by decide))
  unfold handPlain
  refine .cases (fun _ => ?_) fun _ => ?_
  · exact .cases (fun _ => active (voiceDelivered_keeps ..) (by decide)) same
  refine .cases (fun _ => ?_) fun _ => ?_
  · exact .cases same fun _ => settled (releaseCopied_keeps ..) (by decide)
  refine .cases (fun _ => ?_) fun _ => ?_
  · exact .cases same fun _ => settled (holdCopied_keeps ..) (by decide)
  refine .cases (fun _ => ?_) fun _ => ?_
  · exact .cases same fun _ => settled (helloCopied_keeps ..) (by decide)
  refine .cases (fun kind => absurd kind command) fun _ => ?_
  refine .cases (fun kind => ?_) fun _ => ?_
  · exact .cases (fun delivered => absurd kind (record delivered)) same
  refine .cases (fun _ => ?_) fun _ => ?_
  · exact .cases (fun _ => active (tollAck_keeps ..) (by decide)) same
  refine .cases (fun _ => ?_) fun _ => ?_
  · exact .cases (fun _ => active (tollSyncIn_keeps ..) (by decide)) same
  refine .cases (fun _ => ?_) fun _ => ?_
  · exact active (tollDownIn_keeps ..) (by decide)
  refine .cases (fun _ => ?_) fun _ => ?_
  · exact active (plateIn_keeps ..) (by decide)
  refine .cases (fun _ => ?_) fun _ => ?_
  · exact .cases same fun _ => .of_keeps (alarmCopied_keeps ..) (by decide)
  exact .cases (fun _ => .cases (fun _ => active (passDelivered_keeps ..) (by decide)) same) same

theorem handCell_centre {delivered own : Bool} (command : c.kind ≠ kCommand) (record : delivered = true → c.kind ≠ kTollRec)
    (claim : delivered = true ∨ c.kind ≠ kClaim) (s : State) : CentreKept s (handCell delivered own c s).1 := by
  by_cases kind : c.kind = kClaim
  · have taken := claim.resolve_right (not_not_intro kind)
    subst taken
    unfold handCell
    rw [if_pos kind]
    split <;> exact ⟨rfl⟩
  · unfold handCell
    rw [if_neg kind]
    split
    · exact handPlain_centre command record s
    · exact ⟨rfl⟩

/-- R183: the cells that the centre equipment gets leave its queue alone in their unit. -/
theorem handPlain_delivered {own : Bool} (kind : c.kind ∈ ([1, 6, 13, 15] : List Byte)) (s : State) :
    Quiet s (handPlain true own c s) := by
  simp only [List.mem_cons, List.not_mem_nil, or_false] at kind
  rcases kind with kind | kind | kind | kind
  · rw [handPlain_voice kind]
    exact .ite (.ite (.of_keeps (voiceDelivered_keeps ..) (by decide)) (.refl s)) (.refl s)
  · have plain : handPlain true own c s = s := by
      unfold handPlain
      rw [kind]
      rfl
    rw [plain]
    exact .refl s
  · have plain : handPlain true own c s = s := by
      unfold handPlain
      rw [kind]
      rfl
    rw [plain]
    exact .refl s
  · rw [handPlain_pass kind]
    refine .ite (.ite ?_ (.refl s)) (.refl s)
    unfold passDelivered
    split
    · refine Quiet.trans ?_ (modPort_quiet (f := fun u => { u with idleTimer := _ }) rfl)
      exact modPort_quiet rfl
    · refine .ite (.refl s) ?_
      exact ⟨fun _ _ => rfl, rfl, rfl, rfl⟩

/-! ### The intake FIFO (R182) -/

/-- R182: a CELL frame that may join the FIFO. -/
theorem intakeFrameGood_iff : intakeFrameGood bytes = true ↔ bytes.length = 60 ∧
    byteAt bytes 0 ∈ ([1, 7, 11, 12, 15] : List Byte) ∧
    ((1 ≤ (byteAt bytes 2).toNat ∧ (byteAt bytes 2).toNat ≤ 60) ∨
      (64 ≤ (byteAt bytes 2).toNat ∧ (byteAt bytes 2).toNat ≤ 95) ∨ (byteAt bytes 2).toNat = 255) := by
  have kinds : intakeKind (byteAt bytes 0) = true ↔ byteAt bytes 0 ∈ ([1, 7, 11, 12, 15] : List Byte) := by
    simp only [intakeKind, Bool.or_eq_true, decide_eq_true_eq, List.mem_cons, List.not_mem_nil, or_false, or_assoc]
    rfl
  simp only [intakeFrameGood, Bool.and_eq_true, decide_eq_true_eq, kinds, validDest, and_assoc]

section intake

variable (runs : s.phase = .starting ∨ s.phase = .active)
include runs

theorem intakeFrame_refused (bad : intakeFrameGood bytes ≠ true) : intakeFrame p bytes s =
    s.setPortCounts { s.portCounts with intakeRefused := bump s.portCounts.intakeRefused } := by
  rw [intakeFrame, if_neg (by rcases runs with e | e <;> rw [e] <;> nofun), if_neg bad]
  rfl

theorem intakeFrame_overflow (good : intakeFrameGood bytes = true) (full : 64 ≤ s.centre.intake.length) :
    intakeFrame p bytes s = s.setPortCounts { s.portCounts with intakeOverflow := bump s.portCounts.intakeOverflow } := by
  rw [intakeFrame, if_neg (by rcases runs with e | e <;> rw [e] <;> nofun), if_pos good]
  exact if_neg (Nat.not_lt.mpr full)

theorem intakeFrame_joins (good : intakeFrameGood bytes = true) (room : s.centre.intake.length < 64) :
    intakeFrame p bytes s = pauseIfFull p (s.setCentre { s.centre with intake := s.centre.intake ++ [cellOf bytes] }) := by
  rw [intakeFrame, if_neg (by rcases runs with e | e <;> rw [e] <;> nofun), if_pos good]
  exact if_pos room

end intake

/-- R182: the FIFO that does not come to hold 64 cells. -/
theorem pauseIfFull_room (h : s.centre.intake.length ≠ 64) : pauseIfFull p s = s := if_neg h

/-- R182: the 64th cell sends PAUSE. -/
theorem pauseIfFull_full (h : s.centre.intake.length = 64) (up : s.ports[p].link = .up) (busy : s.ports[p].sending ≠ none)
    (room : s.ports[p].queue.length < 128) : pauseIfFull p s =
    (s.setCentre { s.centre with paused := true }).setPorts (s.ports.set p { s.ports[p] with queue := s.ports[p].queue ++ [⟨82, []⟩] }) := by
  rw [pauseIfFull]
  refine (if_pos h).trans ((if_pos (decide_eq_true up)).trans ?_)
  exact sendFrame_waits (s := s.setCentre { s.centre with paused := true }) busy room

/-- R182: the 64th cell joins the FIFO and PAUSE goes out. -/
theorem intakeFrame_pauses (runs : s.phase = .starting ∨ s.phase = .active) (good : intakeFrameGood bytes = true)
    (last : s.centre.intake.length = 63) (up : s.ports[p].link = .up) (busy : s.ports[p].sending ≠ none)
    (room : s.ports[p].queue.length < 128) : intakeFrame p bytes s =
    (s.setPorts (s.ports.set p { s.ports[p] with queue := s.ports[p].queue ++ [⟨82, []⟩] })).setCentre
      { s.centre with intake := s.centre.intake ++ [cellOf bytes], paused := true } := by
  have full : (s.centre.intake ++ [cellOf bytes]).length = 64 := by rw [List.length_append, last]; rfl
  rw [intakeFrame_joins runs good (by omega),
    pauseIfFull_full (s := s.setCentre { s.centre with intake := s.centre.intake ++ [cellOf bytes] }) full up busy room]
  rfl

/-- R182: the head of the FIFO, for another station, moves on. -/
theorem advanceIntake_away (head : s.centre.intake = c :: rest) (active : s.phase = .active) (high : c.dest.toNat ≤ 60)
    (away : s.own ≠ some c.dest.toNat) (room : (s.insertQueue (classOf c.kind)).length < insertCapacity (classOf c.kind)) :
    advanceIntake s = enqueueInsert (insertLine s.fold) (originate c.kind c.dest (clearUnused c.kind c.payload) s)
      (headTaken rest s) := by
  have place : s.insertRoom (classOf c.kind) = true := decide_eq_true room
  have ready : intakeReady s = true := by
    unfold intakeReady
    rw [head]
    dsimp only
    rw [place, decide_eq_true active]
    rfl
  rw [advanceIntake, if_pos ready, moveIntake_joins head high away place]

/-- R182: a FIFO that has no GO to send. -/
theorem goIfLow_none (h : s.centre.paused = false ∨ 31 < s.centre.intake.length) : goIfLow s = s := by
  unfold goIfLow
  split
  · refine if_neg fun x => ?_
    rcases h with h | h
    · rw [h] at x
      cases x.1
    · exact absurd x.2 (Nat.not_le.mpr h)
  · rfl

/-- R182: a paused FIFO that has fallen to 31 cells sends GO. -/
theorem goIfLow_go (here : s.portOf .centre = some p) (paused : s.centre.paused = true) (low : s.centre.intake.length ≤ 31)
    (up : s.ports[p].link = .up) (busy : s.ports[p].sending ≠ none) (room : s.ports[p].queue.length < 128) :
    goIfLow s = (s.setCentre { s.centre with paused := false }).setPorts
      (s.ports.set p { s.ports[p] with queue := s.ports[p].queue ++ [⟨83, []⟩] }) := by
  unfold goIfLow
  rw [here]
  dsimp only
  refine (if_pos ⟨paused, low⟩).trans ((if_pos (decide_eq_true up)).trans ?_)
  exact sendFrame_waits (s := s.setCentre { s.centre with paused := false }) busy room

/-! ### Cells copied and delivered -/

/-- The frame of a cell as it arrived. -/
theorem cellFrame_placed {t : State} (here : s.portOf .centre = some p) (busy : s.ports[p].sending ≠ none) (h : Quiet s t)
    {delivered : Bool} (wanted : ((delivered && deliveredKind c.kind) ||
      (!delivered && decide (c.dest = allStations) && decide (classOf c.kind = .c))) = true) :
    PlacedIn (cellFrameOf c) s (toCentre delivered c t) :=
  .from_quiet h (toCentre_placed (by rw [h.portOf]; exact here) (by rw [h.sending p busy]; exact busy) wanted)

theorem validWord_quiet (l : Line) (s : State) : Quiet s (validWord l s) := .of_keeps (validWord_keeps ..) (by decide)

/-- R20: a copied cell of class C. -/
theorem Copied.placed (h : Copied l c s) (here : s.portOf .centre = some p) (busy : s.ports[p].sending ≠ none)
    (signal : classOf c.kind = .c) : ∃ t, exec (.cellArrives l c) s = .next t ∧ PlacedIn (cellFrameOf c) s t := by
  refine ⟨_, h.passes, ?_⟩
  refine (cellFrame_placed here busy ((validWord_quiet l s).trans (handCell_copied h.2.1 signal _)) ?_).then_keeps
    (forward_keeps ..) (by decide) (by decide)
  rw [decide_eq_true (show c.dest = allStations from h.2.1), decide_eq_true signal]
  rfl

/-- R20: a copied cell of another class. -/
theorem Copied.unplaced (h : Copied l c s) (bulk : classOf c.kind ≠ .c) :
    ∃ t, exec (.cellArrives l c) s = .next t ∧ t.centre = s.centre := by
  refine ⟨_, h.passes, ?_⟩
  have unwanted : toCentre false c (handCell false false c (validWord l s)).1 = (handCell false false c (validWord l s)).1 :=
    toCentre_unwanted (by rw [decide_eq_false bulk, Bool.and_false]; rfl)
  have kinds {k : Byte} (class' : classOf k = .c) : c.kind ≠ k := fun e => bulk (by rw [e]; exact class')
  rw [unwanted]
  have kept := handCell_centre (c := c) (delivered := false) (own := false) (kinds rfl) (by nofun) (.inr (kinds rfl)) (validWord l s)
  have passed := CentreKept.of_keeps (forward_keeps l (handCell false false c (validWord l s)).2
    (handCell false false c (validWord l s)).1) (by decide)
  exact passed.same.trans kept.same

/-- R183: a delivered cell of the kinds that the centre equipment gets. -/
theorem delivered_placed (h : Delivered l c s) (here : s.portOf .centre = some p) (busy : s.ports[p].sending ≠ none)
    (kind : c.kind ∈ ([1, 6, 13, 15] : List Byte)) :
    ∃ t, exec (.cellArrives l c) s = .next t ∧ PlacedIn (cellFrameOf c) s t := by
  have wanted : deliveredKind c.kind = true := by
    simp only [List.mem_cons, List.not_mem_nil, or_false] at kind
    rcases kind with e | e | e | e <;> rw [e] <;> rfl
  have claim : c.kind ≠ kClaim := by
    intro e
    rw [e] at kind
    exact absurd kind (by decide)
  refine ⟨_, h.exec claim, cellFrame_placed here busy ((validWord_quiet l s).trans (handPlain_delivered kind _)) ?_⟩
  rw [wanted]
  rfl

/-- R183: another delivered cell. -/
theorem delivered_unplaced (h : Delivered l c s) (command : c.kind ≠ 7) (record : c.kind ≠ 8)
    (kind : c.kind ∉ ([1, 6, 13, 15] : List Byte)) : ∃ t, exec (.cellArrives l c) s = .next t ∧ t.centre = s.centre := by
  have unwanted : deliveredKind c.kind = false := by
    simp only [List.mem_cons, List.not_mem_nil, or_false, not_or] at kind
    obtain ⟨voice, status, report, pass⟩ := kind
    rw [deliveredKind, show decide (c.kind = kVoice) = false from decide_eq_false voice,
      show decide (c.kind = kWxReport) = false from decide_eq_false report,
      show decide (c.kind = kStatus) = false from decide_eq_false status,
      show decide (c.kind = kPass) = false from decide_eq_false pass]
    rfl
  obtain ⟨passes, own, other⟩ := h
  refine ⟨_, passes.delivered own other, ?_⟩
  rw [toCentre_unwanted (by rw [unwanted]; rfl)]
  exact (handCell_centre command (fun _ => record) (.inl rfl) (validWord l s)).same

/-- Settles O53. -/
theorem centreCellsPassThroughTheIntake : Obligations.CentreCellsPassThroughTheIntake := by
  unfold Obligations.CentreCellsPassThroughTheIntake
  refine ⟨fun l c s p here busy => ⟨fun copied => ?_, fun delivered command record => ?_⟩,
    fun p s here up busy room => ⟨fun bytes runs idle => ?_, fun c rest head active => ⟨fun full => ?_, fun space low high away =>
      ⟨fun still => ?_, fun paused few => ?_⟩⟩⟩⟩
  · by_cases signal : classOf c.kind = .c
    · obtain ⟨t, e, placed⟩ := copied.placed here busy signal
      exact ⟨t, e, fun _ => ⟨placed.room, placed.displaces, placed.refused⟩, fun bulk => absurd signal bulk⟩
    · obtain ⟨t, e, same⟩ := copied.unplaced signal
      exact ⟨t, e, fun yes => absurd yes signal, fun _ => by rw [same]⟩
  · by_cases kind : c.kind ∈ ([1, 6, 13, 15] : List Byte)
    · obtain ⟨t, e, placed⟩ := delivered_placed delivered here busy kind
      exact ⟨t, e, fun _ => ⟨placed.room, placed.displaces, placed.refused⟩, fun no => absurd kind no⟩
    · obtain ⟨t, e, same⟩ := delivered_unplaced delivered command record kind
      exact ⟨t, e, fun yes => absurd yes kind, fun _ => by rw [same]⟩
  · have profile := portOf_profile here
    have served := frame_served (i := .cellFrame p bytes) (f := .cell bytes) (k := .centre) ⟨profile, up⟩ idle rfl rfl nofun rfl
    have port : (restartSilence p s).ports[p] = { s.ports[p] with silence := some (s.clock.now + 1000000000) } := vector_get_set ..
    refine ⟨fun bad => served.trans (congrArg Host.Outcome.next (intakeFrame_refused (s := restartSilence p s) runs (bad ∘ intakeFrameGood_iff.mp))),
      fun good full => served.trans (congrArg Host.Outcome.next (intakeFrame_overflow (s := restartSilence p s) runs (intakeFrameGood_iff.mpr good) full)),
      fun good space => served.trans (congrArg Host.Outcome.next ?_), fun good last => served.trans (congrArg Host.Outcome.next ?_)⟩
    · have short : (restartSilence p s).centre.intake.length < 64 := Nat.lt_succ_of_lt space
      rw [show serviceFrame p (.cell bytes) (restartSilence p s) = intakeFrame p bytes (restartSilence p s) from rfl,
        intakeFrame_joins (s := restartSilence p s) runs (intakeFrameGood_iff.mpr good) short, pauseIfFull_room]
      · rfl
      · simp only [State.setCentre_centre, List.length_append, List.length_singleton]
        exact fun e => absurd space (by
          have : (restartSilence p s).centre = s.centre := rfl
          rw [this] at e
          omega)
    · have paused := intakeFrame_pauses (s := restartSilence p s) (p := p) runs (intakeFrameGood_iff.mpr good) last
        (by rw [port]; exact up) (by rw [port]; exact busy) (by rw [port]; exact room)
      rw [port, show (restartSilence p s).ports = s.ports.set p { s.ports[p] with silence := some (s.clock.now + 1000000000) } from rfl,
        vector_set_set] at paused
      exact paused
  · refine congrArg Host.Outcome.next ?_
    have unready : intakeReady s = false := by
      unfold intakeReady
      rw [head]
      dsimp only
      rw [State.insertRoom, full, decide_eq_false (Nat.lt_irrefl _), Bool.and_false]
    rw [advanceIntake, unready]
    rfl
  · refine congrArg Host.Outcome.next ((advanceIntake_away head active high away space).trans ?_)
    rw [headTaken, goIfLow_none still]
    rfl
  · refine congrArg Host.Outcome.next ((advanceIntake_away head active high away space).trans ?_)
    rw [headTaken, goIfLow_go (s := s.setCentre { s.centre with intake := rest }) here paused few up busy room]
    rfl

end Sys2Proof.Machine
end

section
/-! PROOFS. The bytes of a STATUS report (R184). -/

namespace Sys2Proof.Machine

variable {s : State} {p : Port}

/-! ### Counts over the tables -/

/-- A count over a table, taken index by index. -/
theorem countP_finRange {α : Type} {n : Nat} (v : Vector α n) (f : α → Bool) :
    (List.finRange n).countP (fun i => f v[i]) = v.toList.countP f := by
  have map : (List.finRange n).map (fun i => v[i]) = v.toList := by
    refine List.ext_getElem (by simp) fun i hi hj => ?_
    simp
  rw [← map, List.countP_map]
  rfl

theorem presentPlates_length (st : PlateStore) :
    (presentPlates st).length = (List.finRange 64).countP (fun n => decide (st.dir[n] ≠ none)) := by
  have numbers : List.range 64 = (List.finRange 64).map Fin.val := by decide
  rw [presentPlates, ← List.countP_eq_length_filter, numbers, List.countP_map]
  refine List.countP_congr fun n _ => ?_
  have here : plateOf st n.val = st.dir[n] := by
    rw [plateOf, Vector.getElem?_eq_getElem n.isLt]
    rfl
  rw [Function.comp, here, Option.isSome_iff_ne_none, decide_eq_true_eq]

/-! ### Flags in a byte -/

theorem staleByte_eq : ∀ a b c d e f g : Bool,
    natByte ((if a then 2 ^ 0 else 0) + (if b then 2 ^ 1 else 0) + (if c then 2 ^ 2 else 0) + (if d then 2 ^ 3 else 0) +
      (if e then 2 ^ 4 else 0) + (if f then 2 ^ 5 else 0) + (if g then 2 ^ 6 else 0)) =
    0 ||| flagBit 8 a 0 ||| flagBit 8 b 1 ||| flagBit 8 c 2 ||| flagBit 8 d 3 ||| flagBit 8 e 4 ||| flagBit 8 f 5 |||
      flagBit 8 g 6 := by decide

theorem conflictByte_eq : ∀ a b c d e : Bool,
    natByte ((if a then 1 else 0) + (if b then 2 else 0) + (if c then 4 else 0) + (if d then 8 else 0) +
      (if e then 16 else 0)) =
    flagBit 8 a 0 ||| flagBit 8 b 1 ||| flagBit 8 c 2 ||| flagBit 8 d 3 ||| flagBit 8 e 4 := by decide

/-! ### Codes -/

/-- R157: the display state shown. -/
theorem displayByte_eq (s : State) (p : Port) : displayByte (displayState s p) =
    if s.ports[p].link = .pass ∧ s.signs[p].frozen = none then 0
    else if s.ports[p].link ≠ .up then 1
    else match s.signs[p].frozen with
      | some x => displayByte x
      | none => if s.signs[p].dark = true then 2
        else if s.signs[p].transfer ≠ none ∨ s.signs[p].pendingResult ≠ none ∨ s.signs[p].awaiting = true then 3 else 4 := by
  unfold displayState displayOf
  generalize s.signs[p] = g
  generalize s.ports[p].link = link
  obtain frozen | x := g.frozen
  · cases link
    · rfl
    · cases g.dark with
      | true => rfl
      | false => cases g.transfer <;> cases g.pendingResult <;> cases g.awaiting <;> rfl
    · rfl
    · rfl
  · cases link <;> rfl

end Sys2Proof.Machine
end

section
/-! PROOFS. The STATUS report: its sections' lengths and the cells and frames that it goes out in (R184: O54). -/

namespace Sys2Proof.Machine

variable {s t : State} {p : Port} {d : Time} {b : List Byte} {xs ys : List Cell} {f g h : Frame}

/-! ### Lengths -/

theorem portBytes_length {f : Port → List Byte} {n : Nat} (hf : ∀ p, (f p).length = n) (o : Option Port) :
    (portBytes f n o).length = n := by
  cases o with
  | none => exact List.length_replicate
  | some p => exact hf p

theorem statusSection0_length (s : State) : (statusSection0 s).length = 48 := by
  simp [statusSection0, lineBytes, wordBytes] <;> rfl

theorem statusSection1_length (s : State) : (statusSection1 s).length = 54 := by
  have phones (o : Option Port) : (portBytes (fun p => phoneBytes s.call.phones[p]) 9 o).length = 9 :=
    portBytes_length (fun p => by simp [phoneBytes, wordBytes]) o
  have signs (o : Option Port) : (portBytes (signBytes s) 10 o).length = 10 :=
    portBytes_length (fun p => by simp [signBytes, wordBytes]) o
  unfold statusSection1
  simp [phones, signs, wordBytes, -Fin.getElem_fin]

theorem statusSection2_length (s : State) : (statusSection2 s).length = 52 := by
  simp [statusSection2, tollCountBytes, alarmBytes, wordBytes]

/-! ### Cells offered to the B insert queue in order (R7) -/

/-- The places left in the B insert queue. -/
def State.bulkRoom (s : State) : Nat := 32 - (s.insertQueue .b).length

/-- The state after cells of class B have been offered in order: those that fit join, the others are insert drops. -/
def State.offered (s : State) (xs : List Cell) : State :=
  (s.setTx (s.withBulk (xs.take s.bulkRoom))).setRing
    { s.ring with insertDrops := bumpBy s.ring.insertDrops (xs.length - s.bulkRoom) }

theorem bumpBy_zero (c : Count) : bumpBy c 0 = c := by
  unfold bumpBy
  rw [Nat.add_zero, Nat.min_eq_left (by have := c.isLt; omega)]
  exact BitVec.ofNat_toNat _ _ |>.trans (BitVec.setWidth_eq c)

theorem bumpBy_one (c : Count) : bumpBy c 1 = bump c := by
  unfold bumpBy bump
  have := c.isLt
  split
  · next e =>
    rw [e]
    rfl
  · next e =>
    have short : c.toNat ≠ 65535 := fun h => e (BitVec.eq_of_toNat_eq h)
    rw [Nat.min_eq_left (by omega)]
    exact BitVec.eq_of_toNat_eq (by simp [BitVec.toNat_add])

theorem bumpBy_add (c : Count) (m n : Nat) : bumpBy (bumpBy c m) n = bumpBy c (m + n) := by
  have := c.isLt
  unfold bumpBy
  rw [BitVec.toNat_ofNat, Nat.mod_eq_of_lt (by omega)]
  congr 1
  omega

theorem offered_nil (s : State) : s.offered [] = s := by
  rw [State.offered, List.take_nil, withBulk_nil, List.length_nil, Nat.zero_sub, bumpBy_zero]
  rfl

theorem offered_insertQueue (s : State) (xs : List Cell) :
    (s.offered xs).insertQueue .b = s.insertQueue .b ++ xs.take s.bulkRoom := withBulk_get ..

theorem withBulk_append {xs : List Cell} (ys : List Cell) (tx : t.tx = s.withBulk xs) (fold : t.fold = s.fold) :
    t.withBulk ys = s.withBulk (xs ++ ys) := by
  unfold State.withBulk State.insertQueue
  rw [fold, tx]
  unfold State.withBulk State.insertQueue
  rw [Both.get_set_same, ← List.append_assoc]
  cases insertLine s.fold <;> rfl

theorem offered_append (s : State) (xs ys : List Cell) : (s.offered xs).offered ys = s.offered (xs ++ ys) := by
  have room : (s.offered xs).bulkRoom = s.bulkRoom - xs.length := by
    unfold State.bulkRoom
    rw [offered_insertQueue, List.length_append, List.length_take]
    unfold State.bulkRoom
    omega
  have tx : (s.offered xs).withBulk (ys.take (s.bulkRoom - xs.length)) = s.withBulk ((xs ++ ys).take s.bulkRoom) := by
    rw [withBulk_append (t := s.offered xs) (xs := xs.take s.bulkRoom) _ rfl rfl, List.take_append]
  have drops : bumpBy (s.offered xs).ring.insertDrops (ys.length - (s.bulkRoom - xs.length)) =
      bumpBy s.ring.insertDrops ((xs ++ ys).length - s.bulkRoom) := by
    rw [show (s.offered xs).ring.insertDrops = bumpBy s.ring.insertDrops (xs.length - s.bulkRoom) from rfl, bumpBy_add,
      List.length_append]
    congr 1
    omega
  rw [State.offered, room, tx, drops]
  rfl

theorem offerBulk_offered {kind dest : Byte} (bulk : classOf kind = .b) :
    offerCounted kind dest b s = s.offered [originate kind dest b s] := by
  by_cases room : (s.insertQueue .b).length < 32
  · have some' : 1 ≤ s.bulkRoom := by
      unfold State.bulkRoom
      omega
    rw [offerBulk_room bulk room, State.offered, List.take_of_length_le some', List.length_singleton,
      Nat.sub_eq_zero_of_le some', bumpBy_zero]
    rfl
  · have none : s.bulkRoom = 0 := by
      unfold State.bulkRoom
      omega
    rw [offerBulk_full bulk (Nat.le_of_not_lt room), State.offered, none, List.take_zero, withBulk_nil, List.length_singleton,
      bumpBy_one]
    rfl

/-- R184: a section goes to each station. -/
theorem sendStatusTo_offered (b : List Byte) (stations : List Nat) (s : State) :
    sendStatusTo b stations s = s.offered (stations.map fun n => originate 6 (natByte n) b s) := by
  induction stations generalizing s with
  | nil => exact (offered_nil s).symm
  | cons n rest ih =>
    rw [sendStatusTo, ih, offerBulk_offered rfl, offered_append]
    rfl

/-! ### The own delivery queue (R184) -/

/-- The frame of an own section. -/
def sectionFrame (s : State) (b : List Byte) : Frame := ⟨80, 6 :: s.ownByte :: s.ownByte :: 127 :: padded b⟩

/-- The insert queues and the next frame of the centre port do not touch. -/
theorem startNext_offered (s : State) (xs : List Cell) : startNext p (s.offered xs) = (startNext p s).offered xs := by
  unfold startNext
  rw [show (s.offered xs).ports = s.ports from rfl, show (s.offered xs).profile p = s.profile p from rfl,
    show (s.offered xs).centre = s.centre from rfl]
  split
  · rfl
  · split
    · rfl
    · split
      · split <;> rfl
      · rfl

theorem placeDelivery_offered (f : Frame) (s : State) (xs : List Cell) :
    placeDelivery f (s.offered xs) = (placeDelivery f s).offered xs := by
  unfold placeDelivery
  rw [show (s.offered xs).portOf .centre = s.portOf .centre from rfl, show (s.offered xs).centre = s.centre from rfl]
  split
  · rfl
  · split
    · exact startNext_offered (s.setCentre { s.centre with delivery := s.centre.delivery ++ [f] }) xs
    · split <;> rfl

/-- R184: the own section is placed in a centre station's delivery queue. -/
theorem keepStatus_offered (b : List Byte) (s : State) (xs : List Cell) :
    keepStatus b (s.offered xs) = (keepStatus b s).offered xs := by
  unfold keepStatus
  rw [show (s.offered xs).isCentre = s.isCentre from rfl]
  split
  · exact placeDelivery_offered ..
  · rfl

/-- The own sections of a report, placed in their order. -/
def State.kept (s : State) (bs : List (List Byte)) : State := bs.foldl (fun t b => keepStatus b t) s

theorem kept_keeps (bs : List (List Byte)) (s : State) : SameBut [.ports, .portCounts, .centre] s (s.kept bs) := by
  induction bs generalizing s with
  | nil => exact .refl _ s
  | cons b bs ih => exact (keepStatus_keeps b s).trans (ih _)

/-- R184: sections sent in order: their cells are offered, and the own copies placed. -/
theorem sendSections_eq (stations : List Nat) (bs : List (List Byte)) (s : State) (xs : List Cell) :
    bs.foldl (fun t b => sendSection b stations t) (s.offered xs) =
      (s.kept bs).offered (xs ++ bs.flatMap fun b => stations.map fun n => originate 6 (natByte n) b s) := by
  induction bs generalizing s xs with
  | nil =>
    rw [List.flatMap_nil, List.append_nil]
    rfl
  | cons b bs ih =>
    have cell (t : State) (same : SameBut [.ports, .portCounts, .centre] s t) (x : List Byte) (n : Nat) :
        originate 6 (natByte n) x t = originate 6 (natByte n) x s := same.originate_eq (by decide) ..
    rw [List.foldl_cons, sendSection, sendStatusTo_offered, offered_append, keepStatus_offered, ih, List.flatMap_cons]
    simp only [cell _ (keepStatus_keeps b s)]
    rw [List.append_assoc]
    rfl

/-- R184: a station that is no centre keeps no section. -/
theorem keepStatus_plain (plain : s.isCentre = false) : keepStatus b s = s := if_neg (by rw [plain]; nofun)

theorem keepStatus_centre (here : s.portOf .centre = some p) : keepStatus b s = placeDelivery (sectionFrame s b) s :=
  if_pos (isCentre_of_portOf here)

/-- R183: a section waits in the delivery queue while the link takes none. -/
theorem keepStatus_waits (here : s.portOf .centre = some p)
    (still : s.ports[p].sending ≠ none ∨ (s.ports[p].link ≠ .up ∧ s.ports[p].queue = [])) (room : s.centre.delivery.length < 128) :
    keepStatus b s = s.setCentre { s.centre with delivery := s.centre.delivery ++ [sectionFrame s b] } := by
  rw [keepStatus_centre here, placeDelivery, here]
  refine (if_pos room).trans ?_
  rcases still with busy | ⟨off, queue⟩
  · exact startNext_busy (s := s.setCentre _) busy
  · exact startNext_nothing (s := s.setCentre _) rfl queue (.inr (.inl off))

/-- R183: a section starts at once on an idle link. -/
theorem keepStatus_starts (here : s.portOf .centre = some p) (idle : s.ports[p].sending = none) (up : s.ports[p].link = .up)
    (queue : s.ports[p].queue = []) (empty : s.centre.delivery = []) :
    keepStatus b s = s.setPorts (s.ports.set p { s.ports[p] with
      sending := some ⟨sectionFrame s b, true⟩, lastSent := s.clock.now }) := by
  have same : { s.centre with delivery := [] } = s.centre := by rw [← empty]
  have room : s.centre.delivery.length < 128 := by rw [empty]; decide
  rw [keepStatus_centre here, placeDelivery, here]
  refine (if_pos room).trans ?_
  refine (startNext_delivery (s := s.setCentre { s.centre with delivery := s.centre.delivery ++ [sectionFrame s b] })
    (f := sectionFrame s b) (rest := []) rfl idle queue (portOf_profile here) up (congrArg (· ++ _) empty)).trans ?_
  exact congrArg (State.setCentre (s.setPorts _)) same

/-- R183: a delivery queue full of TOLL-RECORDs refuses a section. -/
theorem keepStatus_refused (here : s.portOf .centre = some p) (full : 128 ≤ s.centre.delivery.length)
    (records : ∀ x ∈ s.centre.delivery, x.type = 81) :
    keepStatus b s = s.setPortCounts { s.portCounts with deliveryDrops := bump s.portCounts.deliveryDrops } := by
  have holds : ¬holdsCell s.centre.delivery = true := by
    rw [holdsCell, List.any_eq_true]
    rintro ⟨x, hx, other⟩
    exact of_decide_eq_true other (records x hx)
  rw [keepStatus_centre here, placeDelivery, here]
  exact (if_neg (Nat.not_lt.mpr full)).trans (if_neg holds)

/-! ### The period (R184) -/

/-- The state at the end of a report's period, before the report is sent. -/
def State.reportDue (s : State) (d : Time) : State :=
  (atMoment d s).setStation { s.station with statusAt := some (d + 5000000000) }

/-- The sections of the report that the station would send now. -/
def State.report (s : State) : List (List Byte) := [statusSection0 s, statusSection1 s, statusSection2 s]

/-- The cells of a report, in the order in which they are offered. -/
def State.reportCells (s : State) : List Cell :=
  s.report.flatMap fun b => (statusTo s).map fun n => originate 6 (natByte n) b s

theorem sendStatus_eq (s : State) : sendStatus s =
    (s.report.foldl (fun t b => sendSection b (statusTo s) t) s).setStation
      { (s.report.foldl (fun t b => sendSection b (statusTo s) t) s).station with
        reportNumber := (s.report.foldl (fun t b => sendSection b (statusTo s) t) s).station.reportNumber + 1 } := rfl

theorem offered_station (s : State) (xs : List Cell) : (s.offered xs).station = s.station := rfl

theorem report_reportDue (s : State) (d : Time) : (s.reportDue d).report = s.report := rfl

theorem statusTo_reportDue (s : State) (d : Time) : statusTo (s.reportDue d) = statusTo s := by
  have selected : (s.reportDue d).selectedCentre = s.selectedCentre := by
    unfold State.selectedCentre
    congr 1
  have toll : (s.reportDue d).tollCentre = s.tollCentre := by
    unfold State.tollCentre
    congr 1
  rw [statusTo, reportTo, selected, toll]
  rfl

theorem statusPeriod_exec (phase : s.phase = .active ∨ s.phase = .mute) (due : s.station.statusAt = some d) :
    exec .statusPeriod s = .next ((((s.reportDue d).kept s.report).offered s.reportCells).setStation
      { s.station with statusAt := some (d + 5000000000), reportNumber := s.station.reportNumber + 1 }) := by
  refine congrArg Host.Outcome.next ?_
  have sent := sendSections_eq (statusTo s) s.report (s.reportDue d) []
  rw [offered_nil, List.nil_append] at sent
  have station : ((s.reportDue d).kept s.report).station = (s.reportDue d).station := (kept_keeps ..).same .station (by decide)
  rw [statusPeriodEnds, due]
  refine (if_pos phase).trans ((sendStatus_eq (s.reportDue d)).trans ?_)
  rw [report_reportDue, statusTo_reportDue, sent, offered_station, station]
  rfl

/-- R184: the stations a report goes to. -/
theorem statusTo_eq (s : State) : statusTo s =
    match s.selectedCentre, s.tollCentre with
    | some c, some t => if t = c then [c] else [c, t]
    | some c, none => [c]
    | none, some t => [t]
    | none, none => [] := by
  rw [statusTo]
  cases selected : s.selectedCentre with
  | none => cases s.tollCentre <;> rfl
  | some c =>
    cases toll : s.tollCentre with
    | none => exact reportTo_one selected (.inl toll)
    | some x =>
      by_cases same : x = c
      · subst same
        exact (reportTo_one selected (.inr toll)).trans (if_pos rfl).symm
      · exact (reportTo_two selected toll same).trans (if_neg same).symm

/-! ### The own sections -/

theorem kept_plain (plain : s.isCentre = false) (bs : List (List Byte)) : s.kept bs = s := by
  induction bs with
  | nil => rfl
  | cons b bs ih =>
    rw [State.kept, List.foldl_cons, keepStatus_plain plain]
    exact ih

/-- R183: sections wait in the delivery queue, in their order, while the link takes none. -/
theorem kept_waits (here : s.portOf .centre = some p)
    (still : s.ports[p].sending ≠ none ∨ (s.ports[p].link ≠ .up ∧ s.ports[p].queue = [])) (bs : List (List Byte))
    (room : s.centre.delivery.length + bs.length ≤ 128) :
    s.kept bs = s.setCentre { s.centre with delivery := s.centre.delivery ++ bs.map (sectionFrame s) } := by
  induction bs generalizing s with
  | nil =>
    rw [List.map_nil, List.append_nil]
    rfl
  | cons b bs ih =>
    rw [List.length_cons] at room
    rw [State.kept, List.foldl_cons, keepStatus_waits here still (by omega)]
    refine (ih (s := s.setCentre { s.centre with delivery := s.centre.delivery ++ [sectionFrame s b] }) here still ?_).trans ?_
    · have length : (s.centre.delivery ++ [sectionFrame s b]).length = s.centre.delivery.length + 1 := by simp
      exact Nat.le_trans (Nat.add_le_add_right (Nat.le_of_eq length) _) (by omega)
    · refine congrArg (fun q => s.setCentre { s.centre with delivery := q }) ?_
      exact List.append_assoc ..

/-- R183: a delivery queue full of TOLL-RECORDs refuses every section. -/
theorem kept_refused (here : s.portOf .centre = some p) (full : 128 ≤ s.centre.delivery.length)
    (records : ∀ x ∈ s.centre.delivery, x.type = 81) (bs : List (List Byte)) :
    s.kept bs = s.setPortCounts { s.portCounts with deliveryDrops := bumpBy s.portCounts.deliveryDrops bs.length } := by
  induction bs generalizing s with
  | nil =>
    rw [List.length_nil, bumpBy_zero]
    rfl
  | cons b bs ih =>
    rw [State.kept, List.foldl_cons, keepStatus_refused here full records]
    refine (ih (s := s.setPortCounts { s.portCounts with deliveryDrops := bump s.portCounts.deliveryDrops }) here full
      records).trans ?_
    refine congrArg (fun n => s.setPortCounts { s.portCounts with deliveryDrops := n }) ?_
    rw [← bumpBy_one]
    exact (bumpBy_add ..).trans (congrArg _ (Nat.add_comm ..))

/-- R183: the first section starts on an idle link, and the others wait behind it. -/
theorem kept_starts (here : s.portOf .centre = some p) (idle : s.ports[p].sending = none) (up : s.ports[p].link = .up)
    (queue : s.ports[p].queue = []) (empty : s.centre.delivery = []) (bs : List (List Byte)) (few : bs.length ≤ 128) :
    s.kept (b :: bs) = (s.setPorts (s.ports.set p { s.ports[p] with
      sending := some ⟨sectionFrame s b, true⟩, lastSent := s.clock.now })).setCentre
        { s.centre with delivery := bs.map (sectionFrame s) } := by
  rw [State.kept, List.foldl_cons, keepStatus_starts here idle up queue empty]
  refine (kept_waits (s := s.setPorts (s.ports.set p { s.ports[p] with
      sending := some ⟨sectionFrame s b, true⟩, lastSent := s.clock.now })) here (.inl ?_) bs ?_).trans ?_
  · have started := congrArg PortUnit.sending (vector_get_set s.ports p { s.ports[p] with
      sending := some ⟨sectionFrame s b, true⟩, lastSent := s.clock.now })
    exact fun none => nomatch started.symm.trans none
  · exact Nat.le_trans (Nat.add_le_add_right (Nat.le_of_eq (congrArg List.length empty)) _) (by simpa using few)
  · refine congrArg (fun q => (s.setPorts _).setCentre { s.centre with delivery := q }) ?_
    exact congrArg (· ++ _) empty

/-- Settles O54. -/
theorem statusReportsGoOutEveryPeriod : Obligations.StatusReportsGoOutEveryPeriod := by
  unfold Obligations.StatusReportsGoOutEveryPeriod
  intro s d phase at' later bit line port phone coded display sign those orZeros stale level p0 p1 p2 stations cells room sent
  have hline : ∀ u, line u = lineBytes u := by
    intro u
    simp only [line, lineBytes]
    cases u.state <;> cases u.cause <;> cases u.farFold <;> rfl
  have hport : ∀ p, port p = [profileByte (s.profile p), linkByte s.ports[p].link] := by
    intro p
    simp only [port]
    cases s.profile p <;> cases s.ports[p].link <;> rfl
  have hphone : ∀ h, phone h = phoneBytes h := by
    intro h
    simp only [phone, phoneBytes]
    cases h.state <;> cases h.circuit <;> rfl
  have hcoded : ∀ x, coded x = displayByte x := fun x => by cases x <;> rfl
  have hdisplay : ∀ p, display p = displayByte (displayState s p) := by
    intro p
    rw [displayByte_eq]
    simp only [display, hcoded] <;> rfl
  have hlevel : ∀ x, level x = levelByte x := fun x => by cases x <;> rfl
  have hsign : sign = signBytes s := by
    funext p
    simp only [sign, hdisplay]
    rfl
  have hzeros : ∀ (k : Profile) (i n : Nat) (f : Port → List Byte), orZeros n ((those k)[i]?.map f) = portBytes f n (portsOf s k)[i]? := by
    intro k i n f
    change ((portsOf s k)[i]?.map f).getD _ = _
    cases (portsOf s k)[i]? <;> rfl
  have e0 : p0 = statusSection0 s := by
    have conflict : natByte (bit s.straps.conflicts[0] 1 + bit s.straps.conflicts[1] 2 + bit s.straps.conflicts[2] 4 +
         bit s.straps.conflicts[3] 8 + bit s.station.duplicateFlag 16) = conflictByte s := conflictByte_eq ..
    have hphase : (if s.phase = .active then 2 else 3 : Byte) = phaseByte s.phase := by
      rcases phase with e | e <;> rw [e] <;> rfl
    have ports : port 0 ++ (port 1 ++ (port 2 ++ port 3)) = (List.finRange 4).flatMap (fun p => [profileByte (s.profile p), linkByte s.ports[p].link]) := by
      rw [hport, hport, hport, hport]
      rfl
    simp only [p0, hline, statusSection0, List.append_assoc, conflict, hphase, ← ports]
    cases s.fold <;> cases s.station.lastReject <;> rfl
  have e1 : p1 = statusSection1 s := by
    simp only [p1, hphone, hsign, hzeros, statusSection1, presentPlates_length, freeBlocks, countP_finRange s.plates.blocks (fun o => decide (o = .free))]
  have e2 : p2 = statusSection2 s := by
    have views : s.weather.view.toList.countP (fun e => decide (e ≠ none)) = viewCount s.weather := by
      refine List.countP_congr fun e _ => ?_
      rw [decide_eq_true_eq, Option.isSome_iff_ne_none]
    have stales : natByte (stale 0 + stale 1 + stale 2 + stale 3 + stale 4 + stale 5 + stale 6) = staleFlags s.weather := staleByte_eq ..
    simp only [p2, hlevel, views, stales, statusSection2, List.append_assoc]
    cases s.toll.chan <;> rfl
  have hstations : stations = statusTo s := (statusTo_eq s).symm
  have hcells : cells = s.reportCells := by
    simp only [cells, hstations, e0, e1, e2]
    rfl
  have hsent : sent = ((s.reportDue d).offered s.reportCells).setStation
      { s.station with statusAt := some (d + 5000000000), reportNumber := s.station.reportNumber + 1 } := by
    simp only [sent, hcells]
    rfl
  have exec := statusPeriod_exec phase at'
  refine ⟨by rw [e0]; exact statusSection0_length s, by rw [e1]; exact statusSection1_length s,
    by rw [e2]; exact statusSection2_length s, fun plain => ?_, fun p here => ?_⟩
  · rw [exec, kept_plain (s := s.reportDue d) plain, hsent]
  · intro q frame
    refine ⟨fun still room => ?_, fun idle up queue empty => ?_, fun full records => ?_⟩
    · rw [exec, kept_waits (s := s.reportDue d) here still s.report (show q.length + 3 ≤ 128 by omega), hsent, e0, e1, e2]
      rfl
    · rw [exec, State.report, kept_starts (s := s.reportDue d) here idle up queue empty [statusSection1 s, statusSection2 s] (Nat.le_of_ble_eq_true rfl), hsent, e0, e1, e2]
      rfl
    · rw [exec, kept_refused (s := s.reportDue d) here full records, hsent]
      rfl

end Sys2Proof.Machine
end
